-- ==== Sys2Proof/Word.lean ====
section
/-! DEFINITION. The one word the manual treats as bits: the byte of the management lines. -/

namespace Sys2Proof

/-- A byte clocked on a management port (R164). -/
abbrev Byte := BitVec 8

end Sys2Proof
end

