-- ==== Sys2Proof/Syntax.lean ====
section
/-! DEFINITION. The commands: one constructor of `Instr` for each row of spec/opcode_table.json.
A row that is an event of the hardware carries what the event brings (the port, the beacon, the block).
A row that is a request kind carries the port its frame arrives on, the frame's tag and the request's
fields with the values their bytes spell, before any check of the request's rule. -/

namespace Sys2Proof

/-- The two fibre rings (R44). -/
inductive Ring where
  | n | s
  deriving DecidableEq, Repr

/-- The two ends of a ring, and so the two feeding paths of it (R44). -/
inductive Side where
  | a | b
  deriving DecidableEq, Repr

/-- A span port, NA, NB, SA or SB: also the name of the feeding path behind it (R20, R77). -/
structure SpanPort where
  ring : Ring
  side : Side
  deriving DecidableEq, Repr

/-- Unit number of a ring less one: 0 stands for position 1, 11 for position 12 (R8). -/
abbrev UnitNo := Fin 12

/-- Rescue channel less one: 0 stands for RC1 (R107). -/
abbrev ChannelNo := Fin 4

/-- Carrier id less one: 0 stands for carrier 1 (R1). -/
abbrev CarrierNo := Fin 24

/-- Zone number less one: 0 stands for zone 1 (R13). -/
abbrev ZoneNo := Fin 8

/-- Clip id less one: 0 stands for clip 1 (R124). -/
abbrev ClipNo := Fin 64

/-- Player number less one: 0 stands for player 1 (R130). -/
abbrev PlayerNo := Fin 4

/-- Plan number, 0 to 15 (R144). -/
abbrev PlanNo := Fin 16

/-- Trigger number, 0 to 31 (R147). -/
abbrev TriggerNo := Fin 32

/-- Contact number, 0 to 15 (R156). -/
abbrev ContactNo := Fin 16

/-- Request group, 0 MANAGEMENT to 7 PLANS (R170, R172). -/
abbrev GroupNo := Fin 8

/-- A remote-unit position, N1 to S12 (R8). -/
structure Position where
  ring : Ring
  unit : UnitNo
  deriving DecidableEq, Repr

/-- The two management ports: port 0 of the control system, port 1 of the rescue console (R163). -/
inductive MgmtPort where
  | control | console
  deriving DecidableEq, Repr

/-- The four grades of a fibre hop (R44). -/
inductive Grade where
  | g1 | g2 | g3 | g4
  deriving DecidableEq, Repr

/-- The state of a hop: none is DOWN (R44). -/
abbrev HopState := Option Grade

/-- A set of grades, as a port advertises it (R21). -/
structure GradeSet where
  g1 : Bool
  g2 : Bool
  g3 : Bool
  g4 : Bool
  deriving DecidableEq, Repr

/-- The two fixed idle patterns (R22). -/
inductive IdlePattern where
  | grade1 | grade2
  deriving DecidableEq, Repr

/-- Amplifier state of a remote unit (R30). -/
inductive Amplifier where
  | ok | fault
  deriving DecidableEq, Repr

/-- A beacon as it arrives (R30): the number is the one the unit was installed at, not yet checked. -/
structure Beacon where
  identity : Nat
  ring : Ring
  number : Nat
  upstream : HopState
  downstream : HopState
  amplifier : Amplifier
  loopback : Bool
  deriving DecidableEq, Repr

/-- What a block carries for one unit on one channel: its quality, and a name for 20 ms of its audio
(R110; the coding of the audio is outside the manual). -/
structure Uplink where
  quality : Fin 64
  audio : Nat
  deriving DecidableEq, Repr

/-- A 20 ms uplink block: for every position of the ring and every channel, quality and audio (R34). -/
abbrev UplinkBlock := Vector (Vector Uplink 4) 12

/-- The two frequency sources (R63). -/
inductive Source where
  | refIn | pilot
  deriving DecidableEq, Repr

/-- The level of a contact input (R156). -/
inductive Level where
  | opened | closed
  deriving DecidableEq, Repr

/-- Why the bytes received are no frame (R165); the end of the exchange has a row of its own. -/
inductive FramingCause where
  | strayByte | length | crc
  deriving DecidableEq, Repr

/-- The records of the Configuration Store, each written as one (R171). -/
inductive StoreKey where
  | carrier (c : CarrierNo)
  | unit (p : Position)
  | zone (z : ZoneNo)
  | ring (r : Ring)
  | reference
  | voter (ch : ChannelNo)
  | clip (c : ClipNo)
  | plan (p : PlanNo)
  | trigger (t : TriggerNo)
  | contact (c : ContactNo)
  | denyMap (p : MgmtPort)
  | watch
  deriving DecidableEq, Repr

/-- The fields of CARRIER SET (R4). -/
structure CarrierSetArgs where
  carrier : Nat
  kind : Nat
  lane : Nat
  channel : Option Nat
  programme : Option Nat
  deriving DecidableEq, Repr

/-- The fields of RU SET (R10): the position as its byte spells it (R164). -/
structure RuSetArgs where
  position : Nat
  commissioned : Bool
  identity : Option Nat
  ceiling : Int
  margin : Int
  trim : Int
  deriving DecidableEq, Repr

/-- The fields of ZONE SET (R13). -/
structure ZoneSetArgs where
  zone : Nat
  members : List Nat
  deriving DecidableEq, Repr

/-- The fields of PORT CONFIG (R21). -/
structure PortConfigArgs where
  port : Nat
  grades : List Nat
  threshold : Int
  restore : Option Int
  deriving DecidableEq, Repr

/-- The fields of SPAN TEST START (R38). -/
structure SpanTestArgs where
  port : Nat
  pattern : Nat
  loop : Nat
  duration : Int
  deriving DecidableEq, Repr

/-- The fields of REF CONFIG (R64). -/
structure RefConfigArgs where
  preferred : Nat
  limit : Int
  deriving DecidableEq, Repr

/-- The fields of VOTER CONFIG (R121): the hang time in tenths of a second. -/
structure VoterConfigArgs where
  channel : Nat
  hysteresis : Int
  hang : Int
  deriving DecidableEq, Repr

/-- The fields of BREAKIN POST (R131), which are also those of a template of a plan (R144). -/
structure BreakInArgs where
  zones : List Nat
  clips : List Nat
  priority : Int
  repeats : Nat
  deriving DecidableEq, Repr

/-- The full record a PLAN LOAD with its present flag true carries (R145). -/
structure PlanArgs where
  label : Option (List Byte)
  authority : Nat
  listN : List (Nat × Int)
  listS : List (Nat × Int)
  templates : List BreakInArgs
  override : Option Int
  deriving DecidableEq, Repr

/-- The fields of TRIGGER SET (R147). -/
structure TriggerSetArgs where
  trigger : Nat
  present : Bool
  minimum : Nat
  plan : Nat
  mode : Nat
  deriving DecidableEq, Repr

/-- The fields of CONTACT SET (R156). -/
structure ContactSetArgs where
  contact : Nat
  trigger : Option Nat
  release : Nat
  polarity : Nat
  deriving DecidableEq, Repr

/-- A request of the catalogue (R172) with the values its payload spells. -/
inductive Request where
  | hello | status | keepalive | readEvents
  | permitSet (target : Nat) (groups : List Nat)
  | watchSet (window : Int)
  | restart
  | carrierGet (carrier : Nat) | ruGet (position : Nat) | zoneGet (zone : Nat) | ruAllocation (position : Nat)
  | carrierSet (a : CarrierSetArgs) | carrierClear (carrier : Nat) | ruSet (a : RuSetArgs) | zoneSet (a : ZoneSetArgs)
  | portStatus (port : Nat) | ringStatus (ring : Nat) | portRenegotiate (port : Nat)
  | portConfig (a : PortConfigArgs) | portEnable (port : Nat) | portDisable (port : Nat)
  | spanTestStart (a : SpanTestArgs) | spanTestStop (port : Nat) | ringRevert (ring : Nat)
  | refStatus | refConfig (a : RefConfigArgs) | refForceHoldover | refResume
  | rescueStatus (channel : Nat) | consoleKey (channel : Nat) | consoleUnkey (channel : Nat)
  | voterConfig (a : VoterConfigArgs)
  | breakinList | breakinPost (a : BreakInArgs) | breakinWithdraw (request : Nat)
  | clipList (clip : Nat) | clipOpen (clip : Nat) (pages : Nat)
  | clipPage (clip : Nat) (index : Nat) (payload : List Byte) | clipDelete (clip : Nat)
  | planRead (selector : Nat) | stackRead | invoke (trigger : Nat) | standDown | standDownAll
  | planLoad (plan : Nat) (record : Option PlanArgs)
  | triggerSet (a : TriggerSetArgs) | contactSet (a : ContactSetArgs)
  deriving DecidableEq, Repr

/-- The commands of the head-end, in the order of spec/opcode_table.json.  -/
inductive Instr where
  /-- Power is applied (R177). -/
  | powerOn
  /-- The reset line is asserted (R177). -/
  | resetLine
  /-- The supply monitor trips (R177). -/
  | supplyDip
  /-- The reset cause ends with the straps at a value; `written` are the store writes in flight that had
  gone far enough to leave the record as after its request (R15, R177). -/
  | resetEnd (straps : Nat) (written : List StoreKey)
  /-- A select opens an exchange on a port (R167). -/
  | exchangeOpen (port : MgmtPort)
  /-- The fourth consecutive 0xFF of one exchange is received (R165). -/
  | portSync (port : MgmtPort)
  /-- Select ends, with a frame begun and not whole or not (R165). -/
  | exchangeEnd (port : MgmtPort) (midFrame : Bool)
  /-- Bytes that are no frame (R165). -/
  | framingFault (port : MgmtPort) (cause : FramingCause)
  /-- A frame whose start, length and CRC are correct has been received whole (R168). -/
  | requestFrameReceived (port : MgmtPort) (kind : Byte) (tag : Byte) (payload : List Byte)
  /-- The reply being sent has been clocked out whole (R166). -/
  | replyClockedOut (port : MgmtPort)
  /-- The store write of a record completes (R171). -/
  | storeWriteComplete (key : StoreKey)
  | hello (port : MgmtPort) (tag : Byte)
  | status (port : MgmtPort) (tag : Byte)
  | keepalive (port : MgmtPort) (tag : Byte)
  | readEvents (port : MgmtPort) (tag : Byte)
  | permitSet (port : MgmtPort) (tag : Byte) (target : Nat) (groups : List Nat)
  | watchSet (port : MgmtPort) (tag : Byte) (window : Int)
  | restart (port : MgmtPort) (tag : Byte)
  | carrierGet (port : MgmtPort) (tag : Byte) (carrier : Nat)
  | carrierSet (port : MgmtPort) (tag : Byte) (a : CarrierSetArgs)
  | carrierClear (port : MgmtPort) (tag : Byte) (carrier : Nat)
  | ruGet (port : MgmtPort) (tag : Byte) (position : Nat)
  | ruSet (port : MgmtPort) (tag : Byte) (a : RuSetArgs)
  | zoneGet (port : MgmtPort) (tag : Byte) (zone : Nat)
  | zoneSet (port : MgmtPort) (tag : Byte) (a : ZoneSetArgs)
  | ruAllocation (port : MgmtPort) (tag : Byte) (position : Nat)
  | portStatus (port : MgmtPort) (tag : Byte) (span : Nat)
  | ringStatus (port : MgmtPort) (tag : Byte) (ring : Nat)
  | portRenegotiate (port : MgmtPort) (tag : Byte) (span : Nat)
  | portConfig (port : MgmtPort) (tag : Byte) (a : PortConfigArgs)
  | portEnable (port : MgmtPort) (tag : Byte) (span : Nat)
  | portDisable (port : MgmtPort) (tag : Byte) (span : Nat)
  | spanTestStart (port : MgmtPort) (tag : Byte) (a : SpanTestArgs)
  | spanTestStop (port : MgmtPort) (tag : Byte) (span : Nat)
  | ringRevert (port : MgmtPort) (tag : Byte) (ring : Nat)
  | refStatus (port : MgmtPort) (tag : Byte)
  | refConfig (port : MgmtPort) (tag : Byte) (a : RefConfigArgs)
  | refForceHoldover (port : MgmtPort) (tag : Byte)
  | refResume (port : MgmtPort) (tag : Byte)
  | rescueStatus (port : MgmtPort) (tag : Byte) (channel : Nat)
  | consoleKey (port : MgmtPort) (tag : Byte) (channel : Nat)
  | consoleUnkey (port : MgmtPort) (tag : Byte) (channel : Nat)
  | voterConfig (port : MgmtPort) (tag : Byte) (a : VoterConfigArgs)
  | breakinList (port : MgmtPort) (tag : Byte)
  | breakinPost (port : MgmtPort) (tag : Byte) (a : BreakInArgs)
  | breakinWithdraw (port : MgmtPort) (tag : Byte) (request : Nat)
  | clipList (port : MgmtPort) (tag : Byte) (clip : Nat)
  | clipOpen (port : MgmtPort) (tag : Byte) (clip : Nat) (pages : Nat)
  | clipPage (port : MgmtPort) (tag : Byte) (clip : Nat) (index : Nat) (payload : List Byte)
  | clipDelete (port : MgmtPort) (tag : Byte) (clip : Nat)
  | planRead (port : MgmtPort) (tag : Byte) (selector : Nat)
  | stackRead (port : MgmtPort) (tag : Byte)
  | invoke (port : MgmtPort) (tag : Byte) (trigger : Nat)
  | standDown (port : MgmtPort) (tag : Byte)
  | standDownAll (port : MgmtPort) (tag : Byte)
  | planLoad (port : MgmtPort) (tag : Byte) (plan : Nat) (record : Option PlanArgs)
  | triggerSet (port : MgmtPort) (tag : Byte) (a : TriggerSetArgs)
  | contactSet (port : MgmtPort) (tag : Byte) (a : ContactSetArgs)
  /-- A player's one-second page ends (R136). -/
  | pageEnd (player : PlayerNo)
  | breakTimerExpiry (span : SpanPort)
  /-- The partner's advertisement arrives: its set, its acknowledge flag, its identity (R24). -/
  | advertisementReceived (span : SpanPort) (grades : GradeSet) (ack : Bool) (identity : Nat)
  | idlePatternReceived (span : SpanPort) (pattern : IdlePattern)
  | advertiseTimerExpiry (span : SpanPort)
  | lossOfSignal (span : SpanPort)
  | signalRestored (span : SpanPort)
  | beaconReceived (span : SpanPort) (beacon : Beacon)
  | silenceTimerExpiry (position : Position)
  | waitToRestoreExpiry (ring : Ring)
  | uplinkBlockArrival (span : SpanPort) (block : UplinkBlock)
  | blockTick
  | slipBurstClear (span : SpanPort)
  | hangExpiry (channel : ChannelNo)
  | keyLimitExpiry (channel : ChannelNo)
  | baseKeyChange (channel : ChannelNo) (asserted : Bool)
  | testLock (span : SpanPort)
  | testLockTimeout (span : SpanPort)
  | spanTestTimerExpiry (span : SpanPort)
  /-- A source's signal becomes valid or invalid (R63). -/
  | sourceSignalChange (source : Source) (valid : Bool)
  | sourcePresent (source : Source)
  | sourceAbsent (source : Source)
  | warmupEnd
  /-- A measurement interval ends: the offset in ppb (R65). -/
  | measurement (offset : Int)
  | switchTimerExpiry
  | holdoverExpiry
  | contactLevelChange (contact : ContactNo) (level : Level)
  | debounceTimerExpiry (contact : ContactNo)
  | watchExpiry
  | testBitError (span : SpanPort)
  deriving DecidableEq, Repr

end Sys2Proof
end

