-- ==== Sys2Proof/Decode.lean ====
section
/-! DEFINITION. Reading commands from their bytes. No row of spec/opcode_table.json has bits, so
`decodeTableWord` answers none. What the manual does give is the payload of a request frame (R164):
`decodeRequest` reads a kind value and a payload, and `encodeRequest` writes a request's payload. -/

namespace Sys2Proof

/-- The command that a word spells by the bits of the opcode table: no row of it has bits. -/
def decodeTableWord (_nbits _w : Nat) : Option Instr := none

/-- One byte, as the number it spells. -/
def takeByte : List Byte → Option (Nat × List Byte)
  | b :: rest => some (b.toNat, rest)
  | [] => none

/-- A count: two bytes, most significant first, unsigned (R164). -/
def takeCount : List Byte → Option (Nat × List Byte)
  | h :: l :: rest => some (h.toNat * 256 + l.toNat, rest)
  | _ => none

/-- A quantity: two bytes, most significant first, two's complement (R164). -/
def takeQuantity (bs : List Byte) : Option (Int × List Byte) := do
  let (n, rest) ← takeCount bs
  return ((BitVec.ofNat 16 n).toInt, rest)

/-- An identity serial: four bytes, most significant first (R164). -/
def takeSerial (bs : List Byte) : Option (Nat × List Byte) := do
  let (h, rest) ← takeCount bs
  let (l, rest) ← takeCount rest
  return (h * 65536 + l, rest)

/-- A flag, or the presence byte of an optional field: 0 or 1, and nothing else (R164, R169). -/
def takeFlag : List Byte → Option (Bool × List Byte)
  | b :: rest => if b = 0 then some (false, rest) else if b = 1 then some (true, rest) else none
  | [] => none

/-- An optional field (R164). -/
def takeOption {α : Type} (take : List Byte → Option (α × List Byte)) (bs : List Byte) :
    Option (Option α × List Byte) := do
  let (present, rest) ← takeFlag bs
  if present then
    let (x, rest) ← take rest
    return (some x, rest)
  else
    return (none, rest)

/-- `n` entries one after another. -/
def takeMany {α : Type} (take : List Byte → Option (α × List Byte)) :
    Nat → List Byte → Option (List α × List Byte)
  | 0, bs => some ([], bs)
  | n + 1, bs => do
    let (x, rest) ← take bs
    let (xs, rest) ← takeMany take n rest
    return (x :: xs, rest)

/-- A list or set, and a label: one byte of count and then the entries (R164). -/
def takeList {α : Type} (take : List Byte → Option (α × List Byte)) (bs : List Byte) :
    Option (List α × List Byte) := do
  let (n, rest) ← takeByte bs
  takeMany take n rest

/-- One raw byte. -/
def takeChar : List Byte → Option (Byte × List Byte)
  | b :: rest => some (b, rest)
  | [] => none

/-- An entry of a carriage list: carrier id and plan level (R145). -/
def takeEntry (bs : List Byte) : Option ((Nat × Int) × List Byte) := do
  let (c, rest) ← takeByte bs
  let (l, rest) ← takeQuantity rest
  return ((c, l), rest)

/-- Zone set, clip list, priority and repeat of a break-in post or a template (R131, R145). -/
def takeBreakIn (bs : List Byte) : Option (BreakInArgs × List Byte) := do
  let (zones, rest) ← takeList takeByte bs
  let (clips, rest) ← takeList takeByte rest
  let (priority, rest) ← takeQuantity rest
  let (repeats, rest) ← takeCount rest
  return (⟨zones, clips, priority, repeats⟩, rest)

/-- The full record of a PLAN LOAD (R145). -/
def takePlan (bs : List Byte) : Option (PlanArgs × List Byte) := do
  let (label, rest) ← takeOption (takeList takeChar) bs
  let (authority, rest) ← takeByte rest
  let (listN, rest) ← takeList takeEntry rest
  let (listS, rest) ← takeList takeEntry rest
  let (templates, rest) ← takeList takeBreakIn rest
  let (override, rest) ← takeOption takeQuantity rest
  return (⟨label, authority, listN, listS, templates, override⟩, rest)

/-- The kind value of a request: 16 times its group and then its place in the group (R172). -/
def Request.kind : Request → Nat
  | .hello => 0x01 | .status => 0x02 | .keepalive => 0x03 | .readEvents => 0x04
  | .permitSet .. => 0x05 | .watchSet .. => 0x06 | .restart => 0x07
  | .carrierGet .. => 0x11 | .ruGet .. => 0x12 | .zoneGet .. => 0x13 | .ruAllocation .. => 0x14
  | .carrierSet .. => 0x15 | .carrierClear .. => 0x16 | .ruSet .. => 0x17 | .zoneSet .. => 0x18
  | .portStatus .. => 0x21 | .ringStatus .. => 0x22 | .portRenegotiate .. => 0x23
  | .portConfig .. => 0x24 | .portEnable .. => 0x25 | .portDisable .. => 0x26
  | .spanTestStart .. => 0x27 | .spanTestStop .. => 0x28 | .ringRevert .. => 0x29
  | .refStatus => 0x31 | .refConfig .. => 0x32 | .refForceHoldover => 0x33 | .refResume => 0x34
  | .rescueStatus .. => 0x41 | .consoleKey .. => 0x42 | .consoleUnkey .. => 0x43
  | .voterConfig .. => 0x44
  | .breakinList => 0x51 | .breakinPost .. => 0x52 | .breakinWithdraw .. => 0x53
  | .clipList .. => 0x61 | .clipOpen .. => 0x62 | .clipPage .. => 0x63 | .clipDelete .. => 0x64
  | .planRead .. => 0x71 | .stackRead => 0x72 | .invoke .. => 0x73 | .standDown => 0x74
  | .standDownAll => 0x75 | .planLoad .. => 0x76 | .triggerSet .. => 0x77 | .contactSet .. => 0x78

/-- The fields that follow the kind, in the order the kind's rule names them (R164). None when the kind
is not in the catalogue; `some none` when the payload ends before its fields do. DESIGN CHOICE (assumption 13): the
programme number of CARRIER SET, which R164 classes nowhere, is one byte, as identifiers are. -/
def takeRequest (kind : Nat) (bs : List Byte) : Option (Option (Request × List Byte)) :=
  match kind with
  | 0x01 => some (some (.hello, bs))
  | 0x02 => some (some (.status, bs))
  | 0x03 => some (some (.keepalive, bs))
  | 0x04 => some (some (.readEvents, bs))
  | 0x05 => some do
    let (t, bs) ← takeByte bs
    let (g, bs) ← takeList takeByte bs
    return (.permitSet t g, bs)
  | 0x06 => some do
    let (w, bs) ← takeQuantity bs
    return (.watchSet w, bs)
  | 0x07 => some (some (.restart, bs))
  | 0x11 => some do
    let (c, bs) ← takeByte bs
    return (.carrierGet c, bs)
  | 0x12 => some do
    let (p, bs) ← takeByte bs
    return (.ruGet p, bs)
  | 0x13 => some do
    let (z, bs) ← takeByte bs
    return (.zoneGet z, bs)
  | 0x14 => some do
    let (p, bs) ← takeByte bs
    return (.ruAllocation p, bs)
  | 0x15 => some do
    let (c, bs) ← takeByte bs
    let (k, bs) ← takeByte bs
    let (l, bs) ← takeByte bs
    let (ch, bs) ← takeOption takeByte bs
    let (pr, bs) ← takeOption takeByte bs
    return (.carrierSet ⟨c, k, l, ch, pr⟩, bs)
  | 0x16 => some do
    let (c, bs) ← takeByte bs
    return (.carrierClear c, bs)
  | 0x17 => some do
    let (p, bs) ← takeByte bs
    let (f, bs) ← takeFlag bs
    let (i, bs) ← takeOption takeSerial bs
    let (c, bs) ← takeQuantity bs
    let (m, bs) ← takeQuantity bs
    let (t, bs) ← takeQuantity bs
    return (.ruSet ⟨p, f, i, c, m, t⟩, bs)
  | 0x18 => some do
    let (z, bs) ← takeByte bs
    let (m, bs) ← takeList takeByte bs
    return (.zoneSet ⟨z, m⟩, bs)
  | 0x21 => some do
    let (p, bs) ← takeByte bs
    return (.portStatus p, bs)
  | 0x22 => some do
    let (r, bs) ← takeByte bs
    return (.ringStatus r, bs)
  | 0x23 => some do
    let (p, bs) ← takeByte bs
    return (.portRenegotiate p, bs)
  | 0x24 => some do
    let (p, bs) ← takeByte bs
    let (g, bs) ← takeList takeByte bs
    let (t, bs) ← takeQuantity bs
    let (w, bs) ← takeOption takeQuantity bs
    return (.portConfig ⟨p, g, t, w⟩, bs)
  | 0x25 => some do
    let (p, bs) ← takeByte bs
    return (.portEnable p, bs)
  | 0x26 => some do
    let (p, bs) ← takeByte bs
    return (.portDisable p, bs)
  | 0x27 => some do
    let (p, bs) ← takeByte bs
    let (a, bs) ← takeByte bs
    let (l, bs) ← takeByte bs
    let (d, bs) ← takeQuantity bs
    return (.spanTestStart ⟨p, a, l, d⟩, bs)
  | 0x28 => some do
    let (p, bs) ← takeByte bs
    return (.spanTestStop p, bs)
  | 0x29 => some do
    let (r, bs) ← takeByte bs
    return (.ringRevert r, bs)
  | 0x31 => some (some (.refStatus, bs))
  | 0x32 => some do
    let (p, bs) ← takeByte bs
    let (l, bs) ← takeQuantity bs
    return (.refConfig ⟨p, l⟩, bs)
  | 0x33 => some (some (.refForceHoldover, bs))
  | 0x34 => some (some (.refResume, bs))
  | 0x41 => some do
    let (c, bs) ← takeByte bs
    return (.rescueStatus c, bs)
  | 0x42 => some do
    let (c, bs) ← takeByte bs
    return (.consoleKey c, bs)
  | 0x43 => some do
    let (c, bs) ← takeByte bs
    return (.consoleUnkey c, bs)
  | 0x44 => some do
    let (c, bs) ← takeByte bs
    let (h, bs) ← takeQuantity bs
    let (t, bs) ← takeQuantity bs
    return (.voterConfig ⟨c, h, t⟩, bs)
  | 0x51 => some (some (.breakinList, bs))
  | 0x52 => some do
    let (a, bs) ← takeBreakIn bs
    return (.breakinPost a, bs)
  | 0x53 => some do
    let (r, bs) ← takeByte bs
    return (.breakinWithdraw r, bs)
  | 0x61 => some do
    let (c, bs) ← takeByte bs
    return (.clipList c, bs)
  | 0x62 => some do
    let (c, bs) ← takeByte bs
    let (n, bs) ← takeCount bs
    return (.clipOpen c n, bs)
  | 0x63 => some do
    let (c, bs) ← takeByte bs
    let (i, bs) ← takeCount bs
    let (p, bs) ← takeMany takeChar 1536 bs
    return (.clipPage c i p, bs)
  | 0x64 => some do
    let (c, bs) ← takeByte bs
    return (.clipDelete c, bs)
  | 0x71 => some do
    let (x, bs) ← takeByte bs
    return (.planRead x, bs)
  | 0x72 => some (some (.stackRead, bs))
  | 0x73 => some do
    let (t, bs) ← takeByte bs
    return (.invoke t, bs)
  | 0x74 => some (some (.standDown, bs))
  | 0x75 => some (some (.standDownAll, bs))
  | 0x76 => some do
    let (p, bs) ← takeByte bs
    let (r, bs) ← takeOption takePlan bs
    return (.planLoad p r, bs)
  | 0x77 => some do
    let (t, bs) ← takeByte bs
    let (f, bs) ← takeFlag bs
    let (a, bs) ← takeByte bs
    let (p, bs) ← takeByte bs
    let (m, bs) ← takeByte bs
    return (.triggerSet ⟨t, f, a, p, m⟩, bs)
  | 0x78 => some do
    let (c, bs) ← takeByte bs
    let (t, bs) ← takeOption takeByte bs
    let (r, bs) ← takeByte bs
    let (p, bs) ← takeByte bs
    return (.contactSet ⟨c, t, r, p⟩, bs)
  | _ => none

/-- What checks 1 and 2 of R169 make of a frame's kind and payload. -/
inductive Decoded where
  | unknownKind
  | badLength
  | request (r : Request)
  deriving DecidableEq, Repr

/-- Checks 1 and 2 of R169: the kind is in the catalogue, and the payload is exactly its fields. -/
def decodeRequest (kind : Nat) (payload : List Byte) : Decoded :=
  match takeRequest kind payload with
  | none => .unknownKind
  | some (some (r, [])) => .request r
  | some _ => .badLength

/-! ### The encoder: the payload bytes of a request (R164) -/

/-- One byte. -/
def putByte (n : Nat) : List Byte := [BitVec.ofNat 8 n]

/-- Two bytes, most significant first. -/
def putCount (n : Nat) : List Byte := [BitVec.ofNat 8 (n / 256), BitVec.ofNat 8 n]

/-- A quantity, two's complement. -/
def putQuantity (v : Int) : List Byte := putCount (BitVec.ofInt 16 v).toNat

/-- Four bytes, most significant first. -/
def putSerial (n : Nat) : List Byte := putCount (n / 65536) ++ putCount n

/-- A flag. -/
def putFlag (b : Bool) : List Byte := [if b then 1 else 0]

/-- An optional field. -/
def putOption {α : Type} (put : α → List Byte) : Option α → List Byte
  | none => putFlag false
  | some x => putFlag true ++ put x

/-- A list or set: its count and its entries. -/
def putList {α : Type} (put : α → List Byte) (xs : List α) : List Byte :=
  putByte xs.length ++ xs.flatMap put

/-- An entry of a carriage list. -/
def putEntry (e : Nat × Int) : List Byte := putByte e.1 ++ putQuantity e.2

/-- The fields of a break-in post or a template. -/
def putBreakIn (a : BreakInArgs) : List Byte :=
  putList putByte a.zones ++ putList putByte a.clips ++ putQuantity a.priority ++ putCount a.repeats

/-- The full record of a PLAN LOAD. -/
def putPlan (a : PlanArgs) : List Byte :=
  putOption (putList fun b => [b]) a.label ++ putByte a.authority ++ putList putEntry a.listN
    ++ putList putEntry a.listS ++ putList putBreakIn a.templates ++ putOption putQuantity a.override

/-- The payload of a request: its fields in the order its rule names them (R164). -/
def encodeRequest : Request → List Byte
  | .hello => [] | .status => [] | .keepalive => [] | .readEvents => []
  | .permitSet t g => putByte t ++ putList putByte g
  | .watchSet w => putQuantity w
  | .restart => []
  | .carrierGet c => putByte c
  | .ruGet p => putByte p
  | .zoneGet z => putByte z
  | .ruAllocation p => putByte p
  | .carrierSet a => putByte a.carrier ++ putByte a.kind ++ putByte a.lane ++ putOption putByte a.channel
      ++ putOption putByte a.programme
  | .carrierClear c => putByte c
  | .ruSet a => putByte a.position ++ putFlag a.commissioned ++ putOption putSerial a.identity
      ++ putQuantity a.ceiling ++ putQuantity a.margin ++ putQuantity a.trim
  | .zoneSet a => putByte a.zone ++ putList putByte a.members
  | .portStatus p => putByte p
  | .ringStatus r => putByte r
  | .portRenegotiate p => putByte p
  | .portConfig a => putByte a.port ++ putList putByte a.grades ++ putQuantity a.threshold
      ++ putOption putQuantity a.restore
  | .portEnable p => putByte p
  | .portDisable p => putByte p
  | .spanTestStart a => putByte a.port ++ putByte a.pattern ++ putByte a.loop ++ putQuantity a.duration
  | .spanTestStop p => putByte p
  | .ringRevert r => putByte r
  | .refStatus => []
  | .refConfig a => putByte a.preferred ++ putQuantity a.limit
  | .refForceHoldover => [] | .refResume => []
  | .rescueStatus c => putByte c
  | .consoleKey c => putByte c
  | .consoleUnkey c => putByte c
  | .voterConfig a => putByte a.channel ++ putQuantity a.hysteresis ++ putQuantity a.hang
  | .breakinList => []
  | .breakinPost a => putBreakIn a
  | .breakinWithdraw r => putByte r
  | .clipList c => putByte c
  | .clipOpen c n => putByte c ++ putCount n
  | .clipPage c i p => putByte c ++ putCount i ++ p
  | .clipDelete c => putByte c
  | .planRead x => putByte x
  | .stackRead => []
  | .invoke t => putByte t
  | .standDown => [] | .standDownAll => []
  | .planLoad p r => putByte p ++ putOption putPlan r
  | .triggerSet a => putByte a.trigger ++ putFlag a.present ++ putByte a.minimum ++ putByte a.plan
      ++ putByte a.mode
  | .contactSet a => putByte a.contact ++ putOption putByte a.trigger ++ putByte a.release
      ++ putByte a.polarity

end Sys2Proof
end

