-- ==== Sys2Proof/Config.lean ====
section
/-! DEFINITION. What one chip or its surroundings fix and the manual leaves open: constants without a body, so
that no proof can see their values. Parts of the identity that HELLO returns (R178, assumption 3), and the strap
pins (R163, assumption 4). -/

namespace Sys2Proof

/-- The silicon revision that HELLO returns (R178); the manual gives no value. -/
opaque Config.siliconRevision : BitVec 16

/-- The head-end's own 32-bit serial that HELLO returns (R178); every head-end has its own. -/
opaque Config.serialNumber : BitVec 32

/-- The value of port 0's three strap pins at the end of each RESTART, by how many RESTARTs there have been before:
the pins may be set anew at any time (R163). -/
opaque Config.strapPins : Nat → Fin 8

end Sys2Proof
end

