-- ==== Sys2Proof/Machine/State.lean ====
section
/-! DEFINITION. Everything the manual says the head-end holds, as plain data, and the machine right after
reset. Times are kept on one clock of milliseconds: a running timer is the moment it started from. -/

namespace Sys2Proof.Machine

open Sys2Proof

/-- One thing for each ring. -/
structure PerRing (α : Type) where
  n : α
  s : α
  deriving DecidableEq, Repr

/-- One thing for each span port, and so for each feeding path. -/
structure PerSpan (α : Type) where
  na : α
  nb : α
  sa : α
  sb : α
  deriving DecidableEq, Repr

/-- One thing for each management port. -/
structure PerMgmt (α : Type) where
  control : α
  console : α
  deriving DecidableEq, Repr

/-- One thing for each of the 24 positions. -/
abbrev PerPosition (α : Type) := PerRing (Vector α 12)

/-! ### Outcome codes, event records and payload fields (R164, R172, R173) -/

/-- The outcome codes of a reply, in the order of their numbers 0x00 to 0x19 (R172). -/
inductive Answer where
  | accepted | acceptedClamped | acceptedDuplicate | alreadyActive | unknownKind | badLength | authority
  | denied | badId | badValue | overlap | inUse | busy | noRoom | notReady | wrongState | clipInUse
  | queueFull | stackFull | alreadyStacked | triggerAbsent | planAbsent | nothingToStandDown
  | noProtection | selfLockout | wrongPort
  deriving DecidableEq, Repr

/-- One field of a payload or of an event's detail, by its type of encoding (R164). A list is its count
and then its entries; an optional field is its presence and then the field when present. -/
inductive Field where
  | ident (n : Nat)
  | span (p : SpanPort)
  | ring (r : Ring)
  | position (p : Position)
  | channel (c : ChannelNo)
  | named (n : Nat)
  | flag (b : Bool)
  | quantity (v : Int)
  | count (n : Nat)
  | wide (v : Int)
  | power (n : Nat)
  | serial (n : Nat)
  | entries (n : Nat)
  | present (b : Bool)
  | char (b : Byte)
  deriving DecidableEq, Repr

/-- The event kinds, in the order of their codes 1 to 31 (R174). -/
inductive EventKind where
  | resetDone | portUp | portDown | negotiationFault | parallelFault | slipBurst | testDone | ruLost
  | ruFound | ruMismatch | ruPaFault | feedChange | refState | carrierShed | carrierRestored
  | carrierMuted | carrierUnmuted | allocationLimited | rescueActive | rescueIdle | consoleKeyLimit
  | breakinOnAir | breakinDone | breakinEvicted | breakinSkipped | planChanged | triggerRefused
  | contactActive | contactReleased | controlLost | controlRestored
  deriving DecidableEq, Repr

/-- The severities, in the order of their codes 0 to 2 (R164). -/
inductive Severity where
  | notice | warning | alarm
  deriving DecidableEq, Repr

/-- The subject of an event record (R164). -/
inductive Subject where
  | none
  | span (p : SpanPort)
  | position (p : Position)
  | carrier (c : CarrierNo)
  | breakin (id : Nat)
  | plan (p : PlanNo)
  | trigger (t : TriggerNo)
  | contact (c : ContactNo)
  | channel (c : ChannelNo)
  deriving DecidableEq, Repr

/-- An event record; the time is in milliseconds since the last reset (R164, R174). -/
structure Record where
  kind : EventKind
  severity : Severity
  time : Nat
  subject : Subject
  detail : List Field
  deriving DecidableEq, Repr

/-- A reply: the kind value and tag of its request, the outcome and the payload (R164). -/
structure Reply where
  kind : Byte
  tag : Byte
  answer : Answer
  payload : List Field
  deriving DecidableEq, Repr

/-! ### The Configuration Store (R15, R171) -/

/-- The kinds of a carrier, in the order of R1. -/
inductive CarrierKind where
  | mobile | broadcast | rescue
  deriving DecidableEq, Repr

/-- A record of the Carrier Catalogue (R1); its id is its place in the table. -/
structure Carrier where
  kind : CarrierKind
  lane : Nat
  channel : Option ChannelNo
  programme : Option (Fin 4)
  deriving DecidableEq, Repr

/-- A record of the Remote Unit Table (R8). -/
structure RuRecord where
  commissioned : Bool
  identity : Option Nat
  ceiling : Int
  margin : Int
  trim : Int
  deriving DecidableEq, Repr

/-- A ring settings record (R21): thresholds in blocks, wait-to-restore time in seconds. -/
structure RingSettings where
  gradesA : GradeSet
  gradesB : GradeSet
  thresholdA : Nat
  thresholdB : Nat
  restore : Nat
  deriving DecidableEq, Repr

/-- The reference settings record (R64): the holdover limit in hours. -/
structure RefSettings where
  preferred : Source
  limit : Nat
  deriving DecidableEq, Repr

/-- A voter settings record (R107): the hang time in tenths of a second. -/
structure VoterSettings where
  hysteresis : Nat
  hang : Nat
  deriving DecidableEq, Repr

/-- States of a clip, in the order of R124. -/
inductive ClipState where
  | empty | loading | ready
  deriving DecidableEq, Repr

/-- A record of the clip directory (R124); the last three fields are 0 in EMPTY. -/
structure Clip where
  state : ClipState
  first : Nat
  pages : Nat
  written : Nat
  deriving DecidableEq, Repr

/-- The four authority levels, lowest first. -/
inductive Authority where
  | view | operate | incident | maintain
  deriving DecidableEq, Repr

/-- An announcement template of a plan (R144). -/
structure Template where
  zones : List ZoneNo
  clips : List ClipNo
  priority : Nat
  repeats : Nat
  deriving DecidableEq, Repr

/-- An entry of a carriage list: the carrier and its plan level (R144). -/
abbrev ListEntry := CarrierNo × Int

/-- A loaded plan record (R144). -/
structure PlanRecord where
  label : Option (List Byte)
  authority : Authority
  listN : List ListEntry
  listS : List ListEntry
  templates : List Template
  override : Option Nat
  deriving DecidableEq, Repr

/-- Modes of a trigger, in the order of R147. -/
inductive TriggerMode where
  | nest | replace
  deriving DecidableEq, Repr

/-- An entry of the trigger table (R147). -/
structure Trigger where
  present : Bool
  minimum : Authority
  plan : PlanNo
  mode : TriggerMode
  deriving DecidableEq, Repr

/-- Release actions, in the order of R156. -/
inductive ReleaseAction where
  | none | withdraw
  deriving DecidableEq, Repr

/-- Polarities, in the order of R156. -/
inductive Polarity where
  | activeClosed | activeOpen
  deriving DecidableEq, Repr

/-- An entry of the contact table (R156). -/
structure ContactEntry where
  trigger : Option TriggerNo
  release : ReleaseAction
  polarity : Polarity
  deriving DecidableEq, Repr

/-- All records of the Configuration Store (R171). The state holds them twice, in working form and in
stored form (R15). `pages` is the clip store: byte o of page p is at address 1536 p + o (R124). -/
structure Store where
  catalogue : Vector (Option Carrier) 24
  units : PerPosition RuRecord
  zones : Vector (List Position) 8
  rings : PerRing RingSettings
  reference : RefSettings
  voters : Vector VoterSettings 4
  clips : Vector Clip 64
  pages : List Host.Cell
  plans : Vector (Option PlanRecord) 16
  triggers : Vector Trigger 32
  contacts : Vector ContactEntry 16
  denied : PerMgmt (List GroupNo)
  window : Nat
  deriving DecidableEq, Repr

/-! ### Span ports (chapter 2) -/

/-- Modes of a port in UP, in the order of R20. -/
inductive LinkMode where
  | negotiated | parallel
  deriving DecidableEq, Repr

/-- Negotiation state of a span port (R20). -/
inductive PortState where
  | disabled | breaking | advertise
  | up (grade : Grade) (mode : LinkMode)
  | test
  deriving DecidableEq, Repr

/-- What a port has recorded of its partner (R24, R26, R41). -/
inductive Partner where
  | none
  | advertised (grades : GradeSet) (identity : Nat)
  | notNegotiating (pattern : IdlePattern)
  deriving DecidableEq, Repr

/-- Kinds of fault the latch keeps, in the order of R26. -/
inductive LinkFault where
  | negotiation | parallel
  deriving DecidableEq, Repr

/-- The uplink elasticity buffer (R34 to R37): blocks oldest first, the pending invalid mark, the slip
count, the slip record as the moments of its slips, and the burst flag. -/
structure Buffer where
  blocks : List UplinkBlock
  running : Bool
  mark : Bool
  slips : Nat
  record : List Nat
  burst : Bool
  deriving DecidableEq, Repr

/-- Test patterns, in the order of R38. -/
inductive Pattern where
  | short | long
  deriving DecidableEq, Repr

/-- Test loops, in the order of R38. -/
inductive Loop where
  | internal | far
  deriving DecidableEq, Repr

/-- Ways a test ends, in the order of R40. -/
inductive TestEnding where
  | duration | stopped | disabled | noLock | lineLoss
  deriving DecidableEq, Repr

/-- A running span test (R38, R39): duration in seconds, start of the test timer. -/
structure SpanTest where
  pattern : Pattern
  loop : Loop
  duration : Nat
  since : Nat
  locked : Bool
  errors : Nat
  deriving DecidableEq, Repr

/-- The last test result of a port (R40). -/
structure TestResult where
  pass : Bool
  errors : Nat
  pattern : Pattern
  loop : Loop
  seconds : Nat
  ending : TestEnding
  deriving DecidableEq, Repr

/-- A span port. `timer` is the start of the break timer in BREAK and of the advertise timer in
ADVERTISE; `advertising` is the set of the present ADVERTISE period (R21, R24). -/
structure Span where
  state : PortState
  timer : Option Nat
  advertising : GradeSet
  ownAck : Bool
  heardAck : Bool
  seen1 : Bool
  seen2 : Bool
  partner : Partner
  failed : Nat
  latch : Option LinkFault
  buffer : Buffer
  stray : Nat
  lossOfSignal : Bool
  test : Option SpanTest
  lastTest : Option TestResult
  deriving DecidableEq, Repr

/-- Beacon status, in the order of R31. -/
inductive BeaconStatus where
  | awaited | present | lost
  deriving DecidableEq, Repr

/-- What the beacon handling keeps for a position (R30 to R33); no status when not commissioned. -/
structure BeaconRec where
  status : Option BeaconStatus
  silence : Option Nat
  identity : Option Nat
  reports : Option (HopState × HopState)
  amplifier : Amplifier
  loopback : Bool
  deriving DecidableEq, Repr

/-! ### Ring Feed Controllers (chapter 3) -/

/-- Unit states, in the order of R44. -/
inductive UnitState where
  | absent | fedA | fedB | unreachable | mismatch
  deriving DecidableEq, Repr

/-- A ring topology record (R44): hops 1 to n+1, unit states, reachability flags, and the start of the
wait-to-restore timer when it runs. Ring length and paths are read from these and the unit table. -/
structure RingRec where
  hops : List HopState
  units : Vector UnitState 12
  reachA : Vector Bool 12
  reachB : Vector Bool 12
  timer : Option Nat
  deriving DecidableEq, Repr

/-! ### Reference Clock Unit (chapter 4) -/

/-- Reference states, in the order of R65. -/
inductive RefState where
  | warmup | free | acquire | track | locked | holdover
  deriving DecidableEq, Repr

/-- A presence monitor (R63): the presence state, whether the signal is valid now, and since when. -/
structure Presence where
  present : Bool
  valid : Bool
  since : Nat
  deriving DecidableEq, Repr

/-- The reference state record (R65) with the presence monitors (R63). `warmup`, `held age`, `switch`
and `interval` timers are kept as the moments they started from. -/
structure RefRec where
  state : RefState
  warmupSince : Option Nat
  selected : Option Source
  held : Option Source
  lastOffset : Option Int
  good : Nat
  bad : Nat
  heldSince : Option Nat
  forced : Bool
  switchSince : Option Nat
  intervalSince : Option Nat
  refIn : Presence
  pilot : Presence
  deriving DecidableEq, Repr

/-! ### Carriage Planners (chapter 5) -/

/-- An entry of a wanted list: what the planner takes from the Catalogue and the plan (R78). -/
structure Wanted where
  carrier : CarrierNo
  kind : CarrierKind
  channel : Option ChannelNo
  level : Int
  deriving DecidableEq, Repr

/-- A carriage record (R77): `carried` pairs each carried entry with its slot, which is the slot map. `list` is the
ring's carriage list as the last plan change has handed it (R83, R84). -/
structure CarriageRec where
  list : List ListEntry
  units : List UnitNo
  capacity : Option Nat
  announcing : Bool
  wanted : List Wanted
  carried : List (Wanted × Nat)
  shed : List Wanted
  deriving DecidableEq, Repr

/-! ### Power Allocators (chapter 6) -/

/-- Reasons of a NONE record, in the order of R91. -/
inductive NoneReason where
  | absent | unreachable | mismatch | amplifierFault
  deriving DecidableEq, Repr

/-- Status of an allocation record (R91): ACTIVE with the side of the unit's path, or NONE. -/
inductive AllocStatus where
  | active (side : Side)
  | none (reason : NoneReason)
  deriving DecidableEq, Repr

/-- A candidate (R91, R92): class at the unit, requested level and floor. -/
structure Cand where
  carrier : CarrierNo
  kind : CarrierKind
  cls : Nat
  request : Int
  floor : Int
  deriving DecidableEq, Repr

/-- Why a carrier of the carried set is not a candidate, in the order of R92. -/
inductive Exclusion where
  | gate | idle
  deriving DecidableEq, Repr

/-- The stage that ended an allocation (R91). -/
inductive Ending where
  | fit
  | backoff (cls : Nat) (d : Nat)
  | rescueLimit (d : Nat)
  deriving DecidableEq, Repr

/-- An allocation record (R91). Of its inputs `carried` is the carried set as it was handed, carriers and plan levels,
and `announced` the class of BROADCAST carriers at the unit, 1 or 2, as last handed (R3, R96). The limited flag is set
while the ending stage is RESCUE_LIMIT. -/
structure AllocRec where
  status : AllocStatus
  carried : List ListEntry
  announced : Bool
  gate : Bool
  rescue : Vector Bool 4
  override : Option (PlanNo × Nat)
  margin : Int
  budget : Nat
  cands : List Cand
  excluded : List (CarrierNo × Exclusion)
  mute : List CarrierNo
  grants : List (CarrierNo × Int)
  composite : Nat
  ending : Option Ending
  deriving DecidableEq, Repr

/-! ### Rescue Voters (chapter 7) -/

/-- Voter states, in the order of R107. -/
inductive VoterState where
  | idle | repeating | console | base | hang
  deriving DecidableEq, Repr

/-- A candidate of a voter (R107): its quality of the last block event, none for NEW. -/
structure VoterCand where
  position : Position
  quality : Option Nat
  deriving DecidableEq, Repr

/-- A voter record (R107). `hang` is the start of a running hang and its length in tenths of a second;
`consoleKey` the start of the key limit while KEYED; `forwarded` the audio of the last block (R110). -/
structure VoterRec where
  state : VoterState
  source : Option Position
  hang : Option (Nat × Nat)
  consoleKey : Option Nat
  baseKey : Bool
  covers : PerRing Bool
  cands : List VoterCand
  forwarded : Option Nat
  deriving DecidableEq, Repr

/-! ### Broadcast Insertion Unit (chapter 8) -/

/-- Sources of a break-in request, in the order of R130. -/
inductive BreakInSource where
  | controlPort | consolePort | plan
  deriving DecidableEq, Repr

/-- States of a break-in request, in the order of R130. -/
inductive BreakInState where
  | waiting | held | onAir
  deriving DecidableEq, Repr

/-- A break-in request (R130). `pageSince` is when the page now playing began. -/
structure BreakIn where
  id : Nat
  source : BreakInSource
  plan : Option PlanNo
  zones : List ZoneNo
  clips : List ClipNo
  priority : Nat
  repeats : Nat
  clipIndex : Nat
  page : Nat
  done : Nat
  state : BreakInState
  player : Option PlayerNo
  owned : List ZoneNo
  acceptance : Nat
  pageSince : Nat
  deriving DecidableEq, Repr

/-- The break-in queue in queue order, the count of acceptances since the last reset, for each zone whether it
carries an announcement (R130, R137), and for each position the request whose player it hears, by its acceptance
number: a new owner's at once (R135), a joining position's only from the next page on (R139). -/
structure BreakInUnit where
  queue : List BreakIn
  accepted : Nat
  carrying : Vector Bool 8
  heard : PerPosition (Option Nat)
  deriving DecidableEq, Repr

/-! ### Incident Plan Unit and Contact Input Unit (chapter 9) -/

/-- Causes of an activation, in the order of R148. -/
inductive ActivationCause where
  | reset | invoke | standDown | standDownAll | release
  deriving DecidableEq, Repr

/-- Sources of an activation, in the order of R148. -/
inductive ActivationSource where
  | port (p : MgmtPort)
  | contact (c : ContactNo)
  | controlWatch
  deriving DecidableEq, Repr

/-- How the active plan became active (R148): `time` is in milliseconds since the last reset. -/
structure Activation where
  cause : ActivationCause
  source : Option ActivationSource
  trigger : Option TriggerNo
  time : Nat
  deriving DecidableEq, Repr

/-- The plan state record (R148): the stack has its newest entry first. -/
structure PlanState where
  active : PlanNo
  activation : Activation
  stack : List PlanNo
  deriving DecidableEq, Repr

/-- Contact states, in the order of R157. -/
inductive ContactState where
  | unsettled | active | inactive
  deriving DecidableEq, Repr

/-- What the Contact Input Unit keeps for a contact (R157), with the raw level at its input. -/
structure ContactRec where
  raw : Level
  level : Option Level
  timer : Option Nat
  state : ContactState
  deriving DecidableEq, Repr

/-! ### Management ports (chapter 10) -/

/-- An open exchange of a port: one whose first byte is the summary byte of the opening of the select (R167), or one that
a select opened during a reset, which is answered with 0x00 in every byte (R177). -/
inductive Exchange where
  | answered (summary : Byte)
  | dark
  deriving DecidableEq, Repr

/-- A port record (R163). The outstanding list is the HELD replies, each with the record whose write it
waits for, and the READY replies in ready order. `exchange` is the open exchange. -/
structure MgmtRec where
  authority : Authority
  synced : Bool
  syncCount : Nat
  exchange : Option Exchange
  held : List (StoreKey × Reply)
  ready : List Reply
  events : List Record
  overflow : Bool
  framing : Nat
  room : Nat
  deriving DecidableEq, Repr

/-- The control watch of port 0 (R175). -/
inductive Watch where
  | off
  | running (since : Nat)
  | expired
  deriving DecidableEq, Repr

/-- The four reset kinds, in the order of R177's table. -/
inductive ResetKind where
  | powerOn | resetLine | supplyDip | restart
  deriving DecidableEq, Repr

/-- The whole head-end. `now` is the model's clock in milliseconds; `causes` are the causes that have
acted in the reset now running, none when no reset runs; `straps` is the strap value read at the end of the last
reset; `baseLane` and the raw levels of the contacts are input pins. `restarts` and `choices` are the model's own:
the first counts the RESTARTs, each of which reads the strap pins anew (assumption 4), the second settles every
order the manual leaves open (assumption 1). `pending` is the queue of commands. -/
structure State where
  now : Nat
  resetAt : Nat
  lastReset : ResetKind
  causes : List ResetKind
  straps : Nat
  restarts : Nat
  baseLane : Vector Bool 4
  work : Store
  stored : Store
  inFlight : List StoreKey
  spans : PerSpan Span
  beacons : PerPosition BeaconRec
  rings : PerRing RingRec
  reference : RefRec
  carriage : PerSpan CarriageRec
  alloc : PerPosition AllocRec
  voters : Vector VoterRec 4
  breakin : BreakInUnit
  plans : PlanState
  contacts : Vector ContactRec 16
  mgmt : PerMgmt MgmtRec
  watch : Watch
  choices : List Nat
  pending : List Instr
  deriving DecidableEq, Repr

/-- No command of this block faults: the manual gives every command an effect in every state.
The type has no constructor, so that "exec never faults" is plain from it. -/
inductive Fault where
  deriving DecidableEq, Repr

/-- Why a command is refused by the model. -/
inductive Refusal where
  /-- Raised by an arm of `exec` whose command has no meaning yet; safe. No arm raises it now. -/
  | notModelled (mnemonic : String)
  deriving DecidableEq, Repr

/-! ### The head-end as delivered, right after a POWER_ON reset -/

/-- Every grade (R21). -/
def GradeSet.all : GradeSet := ⟨true, true, true, true⟩

/-- An uncommissioned position as delivered (R19). -/
def RuRecord.delivered : RuRecord := ⟨false, none, 300, 10, 0⟩

/-- A ring's records as delivered: position 1 commissioned alone (R19). -/
def RuRecord.ringDelivered : Vector RuRecord 12 :=
  (Vector.replicate 12 RuRecord.delivered).set 0 { RuRecord.delivered with commissioned := true }

/-- Ring settings as delivered (R21). -/
def RingSettings.delivered : RingSettings := ⟨GradeSet.all, GradeSet.all, 2, 2, 60⟩

/-- An EMPTY clip (R124). -/
def Clip.vacant : Clip := ⟨.empty, 0, 0, 0⟩

/-- Plan 0 as delivered (R144). -/
def PlanRecord.standing : PlanRecord := ⟨none, .operate, [], [], [], none⟩

/-- An absent trigger as delivered (R147); the fields but the flag are DESIGN CHOICE (assumption 5). -/
def Trigger.delivered : Trigger := ⟨false, .view, 1, .nest⟩

/-- A contact entry as delivered (R156). -/
def ContactEntry.delivered : ContactEntry := ⟨none, .none, .activeClosed⟩

/-- The Configuration Store of a head-end as delivered (R19, R21, R64, R107, R124, R144, R147, R156,
R170, R175). -/
def Store.delivered : Store where
  catalogue := Vector.replicate 24 none
  units := ⟨RuRecord.ringDelivered, RuRecord.ringDelivered⟩
  zones := Vector.replicate 8 []
  rings := ⟨.delivered, .delivered⟩
  reference := ⟨.refIn, 8⟩
  voters := Vector.replicate 4 ⟨6, 20⟩
  clips := Vector.replicate 64 .vacant
  pages := []
  plans := (Vector.replicate 16 none).set 0 (some .standing)
  triggers := Vector.replicate 32 .delivered
  contacts := Vector.replicate 16 .delivered
  denied := ⟨[], []⟩
  window := 10

/-- An elasticity buffer after reset (R43). -/
def Buffer.start : Buffer := ⟨[], false, false, 0, [], false⟩

/-- A span port after reset: BREAK with a full break timer started at `t` (R43). R43 gives no value for the grade set of
the ADVERTISE period, the own acknowledge flag, the heard acknowledge and the patterns seen, which entry into ADVERTISE
sets (R24), nor for the loss of signal: the model takes them empty and false (DESIGN CHOICE, assumption 10). -/
def Span.start (t : Nat) : Span where
  state := .breaking
  timer := some t
  advertising := ⟨false, false, false, false⟩
  ownAck := false
  heardAck := false
  seen1 := false
  seen2 := false
  partner := .none
  failed := 0
  latch := none
  buffer := .start
  stray := 0
  lossOfSignal := false
  test := none
  lastTest := none

/-- A position that is not commissioned (R31). It has lost its amplifier state; which one RING STATUS then shows the
manual does not say, and the model holds OK (DESIGN CHOICE, assumption 25). Nor does it say what becomes of the loopback
flag kept of the last beacon, here and after a reset or on commissioning; the model holds false (DESIGN CHOICE, assumption
28). -/
def BeaconRec.absent : BeaconRec := ⟨none, none, none, none, .ok, false⟩

/-- A commissioned position after reset or on commissioning (R31, R33, R43). -/
def BeaconRec.awaited : BeaconRec := { BeaconRec.absent with status := some .awaited }

/-- The reference unit after POWER_ON or SUPPLY_DIP, in WARMUP since `t` (R76). -/
def RefRec.start (t : Nat) : RefRec where
  state := .warmup
  warmupSince := some t
  selected := none
  held := none
  lastOffset := none
  good := 0
  bad := 0
  heldSince := none
  forced := false
  switchSince := none
  intervalSince := none
  refIn := ⟨false, false, t⟩
  pilot := ⟨false, false, t⟩

/-- The carriage record of an empty path, after reset (R89), over a carriage list. -/
def CarriageRec.start (list : List ListEntry) : CarriageRec := ⟨list, [], none, false, [], [], []⟩

/-- A NONE allocation record after reset (R106) under an override, a margin and a budget. -/
def AllocRec.start (reason : NoneReason) (gate : Bool) (override : Option (PlanNo × Nat)) (margin : Int)
    (budget : Nat) : AllocRec where
  status := .none reason
  carried := []
  announced := false
  gate := gate
  rescue := Vector.replicate 4 false
  override := override
  margin := margin
  budget := budget
  cands := []
  excluded := []
  mute := []
  grants := []
  composite := 0
  ending := none

/-- A voter record after reset that covers some rings (R123). -/
def VoterRec.start (covers : PerRing Bool) : VoterRec :=
  ⟨.idle, none, none, none, false, covers, [], none⟩

/-- The Broadcast Insertion Unit after reset, before plan 0's templates (R143). -/
def BreakInUnit.start : BreakInUnit :=
  ⟨[], 0, Vector.replicate 8 false, ⟨Vector.replicate 12 none, Vector.replicate 12 none⟩⟩

/-- The plan state after reset (R162). -/
def PlanState.start : PlanState := ⟨0, ⟨.reset, none, none, 0⟩, []⟩

/-- The RESET_DONE record of a reset kind: its code, its severity and the strap value (R177). That the strap value is sent
as an identifier of one byte is the model's choice (DESIGN CHOICE, assumption 13). -/
def Record.resetDone (kind : ResetKind) (straps : Nat) : Record where
  kind := .resetDone
  severity := match kind with
    | .powerOn => .notice
    | .resetLine => .warning
    | .supplyDip => .alarm
    | .restart => .notice
  time := 0
  subject := .none
  detail := [.named kind.ctorIdx, .ident straps]

/-- A port record after reset that holds RESET_DONE alone (R179). -/
def MgmtRec.start (authority : Authority) (kind : ResetKind) (straps : Nat) : MgmtRec where
  authority := authority
  synced := false
  syncCount := 0
  exchange := none
  held := []
  ready := []
  events := [Record.resetDone kind straps]
  overflow := false
  framing := 0
  room := 0

/-- A ring topology record after reset with only position 1 commissioned (R62). -/
def RingRec.delivered : RingRec where
  hops := [none, none]
  units := (Vector.replicate 12 .absent).set 0 .unreachable
  reachA := Vector.replicate 12 false
  reachB := Vector.replicate 12 false
  timer := none

/-- Beacon records after reset with only position 1 commissioned (R43). -/
def BeaconRec.ringDelivered : Vector BeaconRec 12 :=
  (Vector.replicate 12 .absent).set 0 .awaited

/-- Allocation records after reset with only position 1 commissioned (R106): the budget is
lin(300 − 10) = 794,330,000 nanowatts (R94, R95). -/
def AllocRec.ringDelivered : Vector AllocRec 12 :=
  (Vector.replicate 12 (.start .absent false none 10 794330000)).set 0
    (.start .unreachable false none 10 794330000)

/-- The head-end right after a POWER_ON reset, as delivered (R19, R43, R62, R76, R89, R106, R123, R143,
R162, R179). The pins are DESIGN CHOICE: straps 0, contacts open, base keys released (assumption 4). -/
def State.reset : State where
  now := 0
  resetAt := 0
  lastReset := .powerOn
  causes := []
  straps := 0
  restarts := 0
  baseLane := Vector.replicate 4 false
  work := .delivered
  stored := .delivered
  inFlight := []
  spans := ⟨.start 0, .start 0, .start 0, .start 0⟩
  beacons := ⟨BeaconRec.ringDelivered, BeaconRec.ringDelivered⟩
  rings := ⟨.delivered, .delivered⟩
  reference := .start 0
  carriage := ⟨.start [], .start [], .start [], .start []⟩
  alloc := ⟨AllocRec.ringDelivered, AllocRec.ringDelivered⟩
  voters := Vector.replicate 4 (.start ⟨false, false⟩)
  breakin := .start
  plans := .start
  contacts := Vector.replicate 16 ⟨.opened, none, some 0, .unsettled⟩
  mgmt := ⟨.start .operate .powerOn 0, .start .incident .powerOn 0⟩
  watch := .running 0
  choices := []
  pending := []

end Sys2Proof.Machine
end

