-- ==== Sys2Proof/Machine/Frames.lean ====
section
/-! DEFINITION. The byte layouts of R164 that the head-end sends: payload fields, event records, the reply
frame with its CRC; and the request frame a station sends. -/

namespace Sys2Proof.Machine

open Sys2Proof

/-- The number of a ring in a payload: N 1, S 2 (R164). -/
def ringNumber : Ring → Nat
  | .n => 1
  | .s => 2

/-- The number of a span port in a payload: NA 1, NB 2, SA 3, SB 4 (R164). -/
def spanNumber (p : SpanPort) : Nat :=
  match p.ring, p.side with
  | .n, .a => 1
  | .n, .b => 2
  | .s, .a => 3
  | .s, .b => 4

/-- The byte of a position: 16 times the ring and then the unit number (R164). -/
def positionNumber (p : Position) : Nat := 16 * ringNumber p.ring + (p.unit.val + 1)

/-- `n` bytes of a number, most significant first (R164). -/
def bytesOf : Nat → Nat → List Byte
  | 0, _ => []
  | k + 1, v => BitVec.ofNat 8 (v / 256 ^ k) :: bytesOf k v

/-- The bytes of a field by its type (R164). -/
def Field.bytes : Field → List Byte
  | .ident n => bytesOf 1 n
  | .span p => bytesOf 1 (spanNumber p)
  | .ring r => bytesOf 1 (ringNumber r)
  | .position p => bytesOf 1 (positionNumber p)
  | .channel c => bytesOf 1 (c.val + 1)
  | .named n => bytesOf 1 n
  | .flag b => bytesOf 1 (if b then 1 else 0)
  | .quantity v => bytesOf 2 (BitVec.ofInt 16 v).toNat
  | .count n => bytesOf 2 n
  | .wide v => bytesOf 4 (BitVec.ofInt 32 v).toNat
  | .power n => bytesOf 8 n
  | .serial n => bytesOf 4 n
  | .entries n => bytesOf 1 n
  | .present b => bytesOf 1 (if b then 1 else 0)
  | .char b => [b]

/-- An optional field: its presence and then the field when present (R164). -/
def optField {α : Type} (f : α → Field) : Option α → List Field
  | none => [.present false]
  | some x => [.present true, f x]

/-- A list or set: its count and then its entries (R164). -/
def listField {α : Type} (f : α → Field) (xs : List α) : List Field := .entries xs.length :: xs.map f

/-- Identifiers that are counted from 1: carrier, zone, clip, player (R164). -/
def fromOne {m : Nat} (i : Fin m) : Field := .ident (i.val + 1)

/-- Identifiers that are counted from 0: plan, trigger, contact (R164). -/
def fromZero {m : Nat} (i : Fin m) : Field := .ident i.val

/-- The bytes of a payload: its fields one after another (R164). -/
def payloadBytes (fs : List Field) : List Byte := fs.flatMap Field.bytes

/-- Subject type of an event record (R164). -/
def Subject.type : Subject → Nat
  | .none => 0
  | .span _ => 1
  | .position _ => 2
  | .carrier _ => 3
  | .breakin _ => 4
  | .plan _ => 5
  | .trigger _ => 6
  | .contact _ => 7
  | .channel _ => 8

/-- Subject value of an event record, encoded as a field (R164). -/
def Subject.value : Subject → Field
  | .none => .ident 0
  | .span p => .span p
  | .position p => .position p
  | .carrier c => .ident (c.val + 1)
  | .breakin id => .ident id
  | .plan p => .ident p.val
  | .trigger t => .ident t.val
  | .contact c => .ident c.val
  | .channel c => .channel c

/-- The code of an event kind, 1 to 31 (R174). -/
def eventCode (k : EventKind) : Nat := k.ctorIdx + 1

/-- An event record in its layout (R164): kind code, severity, seconds, milliseconds, subject type and
value, detail length in bytes, detail fields. -/
def Record.fields (r : Record) : List Field :=
  [.named (eventCode r.kind), .named r.severity.ctorIdx, .wide (r.time / 1000), .count (r.time % 1000),
    .named r.subject.type, r.subject.value, .entries (payloadBytes r.detail).length] ++ r.detail

/-- One bit of the CRC: polynomial x^16 + x^12 + x^5 + 1 (R164). -/
def crcBit (crc : BitVec 16) (bit : Bool) : BitVec 16 :=
  if crc.msb ^^ bit then (crc <<< 1) ^^^ 0x1021 else crc <<< 1

/-- One byte of the CRC, most significant bit first (R164). -/
def crcByte (crc : BitVec 16) (b : Byte) : BitVec 16 :=
  [7, 6, 5, 4, 3, 2, 1, 0].foldl (fun c i => crcBit c (b.getLsbD i)) crc

/-- The CRC of some bytes, from the initial value 0xFFFF, without inversion (R164). -/
def crc16 (bs : List Byte) : BitVec 16 := bs.foldl crcByte 0xFFFF

/-- What R164 puts around a body: the start byte before it, the CRC over it after it. -/
def framed (start : Byte) (body : List Byte) : List Byte :=
  start :: (body ++ bytesOf 2 (crc16 body).toNat)

/-- A reply frame (R164): start 0x5A, kind with its high bit set, tag, outcome code, length, payload, CRC. -/
def Reply.frame (r : Reply) : List Byte :=
  framed 0x5A ([r.kind ||| 0x80, r.tag] ++ bytesOf 1 r.answer.ctorIdx
    ++ bytesOf 2 (payloadBytes r.payload).length ++ payloadBytes r.payload)

/-- A request frame (R164): start 0xA5, kind, tag, length, payload, CRC. -/
def requestFrame (kind tag : Byte) (payload : List Byte) : List Byte :=
  framed 0xA5 ([kind, tag] ++ bytesOf 2 payload.length ++ payload)

end Sys2Proof.Machine
end

