-- ==== Sys2Proof/Machine/Operands.lean ====
section
/-! DEFINITION. What the fields of a request and of an event stand for: identifiers and named values from
their numbers (R164), clamping into ranges, saturating counts, sets, grades, and time. -/

namespace Sys2Proof.Machine

open Sys2Proof

/-! ### Identifiers -/

/-- The number `n` counted from `first`, when it lies among the `m` numbers from there. -/
def identOf (m first n : Nat) : Option (Fin m) :=
  if h : first ≤ n ∧ n - first < m then some ⟨n - first, h.2⟩ else none

/-- Carrier 1 to 24. -/
def carrierOf (n : Nat) : Option CarrierNo := identOf 24 1 n

/-- Zone 1 to 8. -/
def zoneOf (n : Nat) : Option ZoneNo := identOf 8 1 n

/-- Clip 1 to 64. -/
def clipOf (n : Nat) : Option ClipNo := identOf 64 1 n

/-- Plan 0 to 15. -/
def planOf (n : Nat) : Option PlanNo := identOf 16 0 n

/-- Trigger 0 to 31. -/
def triggerOf (n : Nat) : Option TriggerNo := identOf 32 0 n

/-- Contact 0 to 15. -/
def contactOf (n : Nat) : Option ContactNo := identOf 16 0 n

/-- Rescue channel RC1 to RC4. -/
def channelOf (n : Nat) : Option ChannelNo := identOf 4 1 n

/-- Request group 0 to 7. -/
def groupOf (n : Nat) : Option GroupNo := identOf 8 0 n

/-- Ring N 1, S 2. -/
def ringOf (n : Nat) : Option Ring :=
  match n with
  | 1 => some .n
  | 2 => some .s
  | _ => none

/-- Span port NA 1, NB 2, SA 3, SB 4. -/
def spanOf (n : Nat) : Option SpanPort :=
  match n with
  | 1 => some ⟨.n, .a⟩
  | 2 => some ⟨.n, .b⟩
  | 3 => some ⟨.s, .a⟩
  | 4 => some ⟨.s, .b⟩
  | _ => none

/-- Position, 16 times the ring and then the number 1 to 12. -/
def positionOf (n : Nat) : Option Position := do
  let ring ← ringOf (n / 16)
  let unit ← identOf 12 1 (n % 16)
  return ⟨ring, unit⟩

/-- Management port 0 or 1. -/
def mgmtOf (n : Nat) : Option MgmtPort :=
  match n with
  | 0 => some .control
  | 1 => some .console
  | _ => none

/-- Every one of a list of numbers read by `f`, or none. -/
def allOf {α : Type} (f : Nat → Option α) : List Nat → Option (List α)
  | [] => some []
  | n :: ns => do
    let x ← f n
    let xs ← allOf f ns
    return x :: xs

/-! ### Named values, numbered from 0 in the order their rule lists them (R164) -/

/-- MOBILE, BROADCAST, RESCUE (R1). -/
def kindOf (n : Nat) : Option CarrierKind :=
  match n with
  | 0 => some .mobile
  | 1 => some .broadcast
  | 2 => some .rescue
  | _ => none

/-- VIEW, OPERATE, INCIDENT, MAINTAIN. -/
def authorityOf (n : Nat) : Option Authority :=
  match n with
  | 0 => some .view
  | 1 => some .operate
  | 2 => some .incident
  | 3 => some .maintain
  | _ => none

/-- NEST, REPLACE (R147). -/
def modeOf (n : Nat) : Option TriggerMode :=
  match n with
  | 0 => some .nest
  | 1 => some .replace
  | _ => none

/-- NONE, WITHDRAW (R156). -/
def releaseOf (n : Nat) : Option ReleaseAction :=
  match n with
  | 0 => some .none
  | 1 => some .withdraw
  | _ => none

/-- ACTIVE_CLOSED, ACTIVE_OPEN (R156). -/
def polarityOf (n : Nat) : Option Polarity :=
  match n with
  | 0 => some .activeClosed
  | 1 => some .activeOpen
  | _ => none

/-- REF_IN, PILOT (R64). -/
def sourceOf (n : Nat) : Option Source :=
  match n with
  | 0 => some .refIn
  | 1 => some .pilot
  | _ => none

/-- SHORT, LONG (R38). -/
def patternOf (n : Nat) : Option Pattern :=
  match n with
  | 0 => some .short
  | 1 => some .long
  | _ => none

/-- INTERNAL, FAR (R38). -/
def loopOf (n : Nat) : Option Loop :=
  match n with
  | 0 => some .internal
  | 1 => some .far
  | _ => none

/-- Level number of an authority: 0 VIEW to 3 MAINTAIN. -/
def Authority.rank : Authority → Nat
  | .view => 0
  | .operate => 1
  | .incident => 2
  | .maintain => 3

/-- One authority is at least another when its level number is equal or greater. -/
def Authority.atLeast (a b : Authority) : Bool := b.rank ≤ a.rank

/-! ### Clamping and saturating counts -/

/-- A quantity brought into a range (R169). -/
def clamp (lo hi v : Int) : Int := if v < lo then lo else if hi < v then hi else v

/-- A quantity brought into a range of naturals. -/
def clampNat (lo hi : Nat) (v : Int) : Nat := (clamp lo hi v).toNat

/-- ACCEPTED_CLAMPED when some value was changed by clamping, ACCEPTED otherwise. -/
def clampAnswer (changed : Bool) : Answer := if changed then .acceptedClamped else .accepted

/-- A count that rises by one and saturates at 65535. -/
def bump (n : Nat) : Nat := if n < 65535 then n + 1 else 65535

/-! ### Sets, positions, grades -/

/-- The entries of a list as a set: each once. A set has no order of the manual's; that it is held and sent in ascending
order is the model's choice (DESIGN CHOICE, assumption 13). -/
def asSet {m : Nat} (xs : List (Fin m)) : List (Fin m) := (List.finRange m).filter (· ∈ xs)

/-- The 24 positions in ascending order, N before S. -/
def allPositions : List Position :=
  (List.finRange 12).map (⟨.n, ·⟩) ++ (List.finRange 12).map (⟨.s, ·⟩)

/-- The positions of a list as a set in ascending order. -/
def positionSet (xs : List Position) : List Position := allPositions.filter (· ∈ xs)

/-- The four span ports in the order NA, NB, SA, SB. -/
def allSpans : List SpanPort := [⟨.n, .a⟩, ⟨.n, .b⟩, ⟨.s, .a⟩, ⟨.s, .b⟩]

/-- Number of a grade. -/
def Grade.number : Grade → Nat
  | .g1 => 1
  | .g2 => 2
  | .g3 => 3
  | .g4 => 4

/-- Slots of a grade (R44). -/
def Grade.slots (g : Grade) : Nat := 4 * Grade.number g

/-- Grade 1 to 4. -/
def gradeOf (n : Nat) : Option Grade :=
  match n with
  | 1 => some .g1
  | 2 => some .g2
  | 3 => some .g3
  | 4 => some .g4
  | _ => none

/-- A hop state as a number: DOWN 0, then the grades (R47). -/
def hopNumber : HopState → Nat
  | none => 0
  | some g => Grade.number g

/-- The lower of two reports; DOWN is lower than any grade (R47). -/
def hopMin (x y : HopState) : HopState := if hopNumber x ≤ hopNumber y then x else y

/-- Whether a set holds a grade. -/
def GradeSet.has (g : GradeSet) : Grade → Bool
  | .g1 => g.g1
  | .g2 => g.g2
  | .g3 => g.g3
  | .g4 => g.g4

/-- The set of the grades of a list (R21). -/
def GradeSet.ofList (gs : List Grade) : GradeSet :=
  ⟨Grade.g1 ∈ gs, Grade.g2 ∈ gs, Grade.g3 ∈ gs, Grade.g4 ∈ gs⟩

/-- The grades of a set, ascending. -/
def GradeSet.toList (g : GradeSet) : List Grade := [Grade.g1, .g2, .g3, .g4].filter (GradeSet.has g)

/-- The intersection of two sets (R25). -/
def GradeSet.inter (g h : GradeSet) : GradeSet :=
  ⟨g.g1 && h.g1, g.g2 && h.g2, g.g3 && h.g3, g.g4 && h.g4⟩

/-- The highest grade of a set (R25). -/
def GradeSet.highest (g : GradeSet) : Option Grade :=
  if g.g4 then some .g4 else if g.g3 then some .g3 else if g.g2 then some .g2
  else if g.g1 then some .g1 else none

/-- The grade an idle pattern names (R22). -/
def patternGrade : IdlePattern → Grade
  | .grade1 => .g1
  | .grade2 => .g2

/-- The other source (R63). -/
def Source.other : Source → Source
  | .refIn => .pilot
  | .pilot => .refIn

/-! ### Time -/

/-- Milliseconds a timer started at `since` has run. -/
def elapsed (s : State) (since : Nat) : Nat := s.now - since

/-- Whether something timed has begun at this very moment: its end is then not yet due. Where the manual lets the
event that starts a timer anew and the timer's end meet, the end, taken second, does not happen (R31, R65, R140,
R175; DEDUCED, assumption 24). -/
def justBegun (s : State) (since : Option Nat) : Bool := decide (since = some s.now)

/-- Milliseconds since the last reset ended. -/
def sinceReset (s : State) : Nat := s.now - s.resetAt

end Sys2Proof.Machine
end

