-- ==== Sys2Proof/Machine/Ops.lean ====
section
/-! DEFINITION. The named operations over the state: reading and replacing one record, the clip store's
memory, the Configuration Store's writes, and posting an event record to both queues. -/

namespace Sys2Proof.Machine

open Sys2Proof

/-! ### Reading and replacing one of several records -/

/-- The thing of a ring. -/
def PerRing.get {α : Type} (t : PerRing α) : Ring → α
  | .n => t.n
  | .s => t.s

/-- The thing of a ring replaced. -/
def PerRing.set {α : Type} (t : PerRing α) (r : Ring) (x : α) : PerRing α :=
  match r with
  | .n => { t with n := x }
  | .s => { t with s := x }

/-- The thing of a span port. -/
def PerSpan.get {α : Type} (t : PerSpan α) (p : SpanPort) : α :=
  match p.ring, p.side with
  | .n, .a => t.na
  | .n, .b => t.nb
  | .s, .a => t.sa
  | .s, .b => t.sb

/-- The thing of a span port replaced. -/
def PerSpan.set {α : Type} (t : PerSpan α) (p : SpanPort) (x : α) : PerSpan α :=
  match p.ring, p.side with
  | .n, .a => { t with na := x }
  | .n, .b => { t with nb := x }
  | .s, .a => { t with sa := x }
  | .s, .b => { t with sb := x }

/-- The thing of a management port. -/
def PerMgmt.get {α : Type} (t : PerMgmt α) : MgmtPort → α
  | .control => t.control
  | .console => t.console

/-- The thing of a management port replaced. -/
def PerMgmt.set {α : Type} (t : PerMgmt α) (p : MgmtPort) (x : α) : PerMgmt α :=
  match p with
  | .control => { t with control := x }
  | .console => { t with console := x }

/-- The thing of a position. -/
def posGet {α : Type} (t : PerPosition α) (p : Position) : α := (t.get p.ring)[p.unit]

/-- The thing of a position replaced. -/
def posSet {α : Type} (t : PerPosition α) (p : Position) (x : α) : PerPosition α :=
  t.set p.ring ((t.get p.ring).set p.unit x)

/-- A table whose entry `i` is `f i`. -/
def tabulate {α : Type} {m : Nat} (f : Fin m → α) : Vector α m :=
  ⟨⟨(List.finRange m).map f⟩, by simp⟩

/-- One thing for each position. -/
def forPositions {α : Type} (f : Position → α) : PerPosition α :=
  ⟨tabulate fun u => f ⟨.n, u⟩, tabulate fun u => f ⟨.s, u⟩⟩

/-- A span port's record replaced. -/
def State.setSpan (s : State) (p : SpanPort) (x : Span) : State := { s with spans := s.spans.set p x }

/-- A ring topology record replaced. -/
def State.setRing (s : State) (r : Ring) (x : RingRec) : State := { s with rings := s.rings.set r x }

/-- A position's beacon record replaced. -/
def State.setBeacon (s : State) (p : Position) (x : BeaconRec) : State :=
  { s with beacons := posSet s.beacons p x }

/-- A path's carriage record replaced. -/
def State.setCarriage (s : State) (p : SpanPort) (x : CarriageRec) : State :=
  { s with carriage := s.carriage.set p x }

/-- A position's allocation record replaced. -/
def State.setAlloc (s : State) (p : Position) (x : AllocRec) : State :=
  { s with alloc := posSet s.alloc p x }

/-- A channel's voter record replaced. -/
def State.setVoter (s : State) (c : ChannelNo) (x : VoterRec) : State :=
  { s with voters := s.voters.set c x }

/-- A contact's record replaced. -/
def State.setContact (s : State) (c : ContactNo) (x : ContactRec) : State :=
  { s with contacts := s.contacts.set c x }

/-- A management port's record replaced. -/
def State.setMgmt (s : State) (p : MgmtPort) (x : MgmtRec) : State := { s with mgmt := s.mgmt.set p x }

/-- Whether a reset is running (R177). -/
def State.inReset (s : State) : Bool := !s.causes.isEmpty

/-! ### The clip store's memory: a list of cells, addresses strictly rising, no cell at the default -/

/-- What a byte of the clip store that nothing has written reads as (assumption 6). -/
def cellDefault : Byte := 0

/-- Bytes of a clip page (R124). -/
def pageBytes : Nat := 1536

/-- The byte at an address. -/
def memRead : List Host.Cell → Nat → Byte
  | [], _ => cellDefault
  | (k, v) :: rest, a => if k = a then v else memRead rest a

/-- The memory with one byte written; a byte at the default is not listed. -/
def memWrite : List Host.Cell → Nat → Byte → List Host.Cell
  | [], a, b => if b = cellDefault then [] else [(a, b)]
  | (k, v) :: rest, a, b =>
    if k < a then (k, v) :: memWrite rest a b
    else if k = a then (if b = cellDefault then rest else (a, b) :: rest)
    else if b = cellDefault then (k, v) :: rest else (a, b) :: (k, v) :: rest

/-- The memory with bytes written from an address upward. -/
def memWriteBytes (m : List Host.Cell) (a : Nat) : List Byte → List Host.Cell
  | [] => m
  | b :: bs => memWriteBytes (memWrite m a b) (a + 1) bs

/-- The bytes from an address upward. -/
def memReadBytes (m : List Host.Cell) (a n : Nat) : List Byte :=
  (List.range n).map fun i => memRead m (a + i)

/-- The canonical form: addresses strictly rising, no cell at the default. -/
def memWf : List Host.Cell → Bool
  | [] => true
  | [(_, v)] => v != cellDefault
  | (k, v) :: (k', v') :: rest => v != cellDefault && k < k' && memWf ((k', v') :: rest)

/-- The payload of a clip page. -/
def pageRead (m : List Host.Cell) (page : Nat) : List Byte := memReadBytes m (page * pageBytes) pageBytes

/-- The memory with the payload of a clip page written. -/
def pageWrite (m : List Host.Cell) (page : Nat) (payload : List Byte) : List Host.Cell :=
  memWriteBytes m (page * pageBytes) payload

/-! ### The Configuration Store -/

/-- The page an accepted CLIP PAGE has written last: the one before the write pointer (R126). -/
def Clip.lastPage (c : Clip) : Option Nat := if c.written = 0 then none else some (c.first + c.written - 1)

/-- The store `stored` with one record taken from `work`: what the write of that record leaves (R15).
A clip's record goes with the page it has written last (R127). -/
def Store.commit (stored work : Store) : StoreKey → Store
  | .carrier c => { stored with catalogue := stored.catalogue.set c work.catalogue[c] }
  | .unit p => { stored with units := posSet stored.units p (posGet work.units p) }
  | .zone z => { stored with zones := stored.zones.set z work.zones[z] }
  | .ring r => { stored with rings := stored.rings.set r (work.rings.get r) }
  | .reference => { stored with reference := work.reference }
  | .voter ch => { stored with voters := stored.voters.set ch work.voters[ch] }
  | .clip c =>
    { stored with
      clips := stored.clips.set c work.clips[c]
      pages := match work.clips[c].lastPage with
        | some page => pageWrite stored.pages page (pageRead work.pages page)
        | none => stored.pages }
  | .plan p => { stored with plans := stored.plans.set p work.plans[p] }
  | .trigger t => { stored with triggers := stored.triggers.set t work.triggers[t] }
  | .contact c => { stored with contacts := stored.contacts.set c work.contacts[c] }
  | .denyMap p => { stored with denied := stored.denied.set p (work.denied.get p) }
  | .watch => { stored with window := work.window }

/-- The write flag of a record: true while a store write to it is in flight (R15). -/
def State.writing (s : State) (key : StoreKey) : Bool := s.inFlight.contains key

/-! ### Event queues (R173) -/

/-- The list without its oldest NOTICE record. -/
def dropNotice : List Record → List Record
  | [] => []
  | r :: rest => if r.severity = .notice then rest else r :: dropNotice rest

/-- A record joins a port's event queue: as newest while fewer than 48 are held; in place of the oldest
NOTICE record when full; else it is discarded and the overflow flag set (R173). -/
def MgmtRec.enqueue (m : MgmtRec) (r : Record) : MgmtRec :=
  if m.events.length < 48 then { m with events := m.events ++ [r] }
  else if m.events.any (·.severity = .notice) then { m with events := dropNotice m.events ++ [r] }
  else { m with overflow := true }

/-- A record before it has its time. -/
structure Note where
  kind : EventKind
  severity : Severity
  subject : Subject
  detail : List Field
  deriving DecidableEq, Repr

/-- An event is posted to the queues of both ports, with its time since the last reset (R173, R174). -/
def State.post (s : State) (e : Note) : State :=
  let r : Record := ⟨e.kind, e.severity, sinceReset s, e.subject, e.detail⟩
  { s with mgmt := ⟨s.mgmt.control.enqueue r, s.mgmt.console.enqueue r⟩ }

/-- Events posted in order. -/
def State.postAll (s : State) (es : List Note) : State := es.foldl State.post s

/-! ### Reading what several blocks read -/

/-- The Remote Unit Table record of a position, in working form. -/
def State.unit (s : State) (p : Position) : RuRecord := posGet s.work.units p

/-- Ring length n: the highest commissioned position (R9, R44). -/
def State.ringLength (s : State) (r : Ring) : Nat :=
  ((List.finRange 12).filter fun u => (s.unit ⟨r, u⟩).commissioned).foldl (fun m u => max m (u.val + 1)) 0

/-- The state of a unit (R50). -/
def State.unitState (s : State) (p : Position) : UnitState := (s.rings.get p.ring).units[p.unit]

/-- The side that feeds a unit, when it is FED_A or FED_B. -/
def UnitState.side : UnitState → Option Side
  | .fedA => some .a
  | .fedB => some .b
  | _ => none

/-- The Emission Gate is open while the unit is in LOCKED or HOLDOVER (R74). -/
def RefState.gateOpen : RefState → Bool
  | .locked => true
  | .holdover => true
  | _ => false

/-- Whether the Emission Gate is open (R74). -/
def State.gateOpen (s : State) : Bool := s.reference.state.gateOpen

/-- The record of the active plan, in working form; an absent record reads as the standing plan's, which
no reachable state shows (R144, R154). -/
def State.activePlan (s : State) : PlanRecord := s.work.plans[s.plans.active].getD .standing

/-- The active plan's carriage list for a ring (R78). -/
def State.carriageList (s : State) : Ring → List ListEntry
  | .n => s.activePlan.listN
  | .s => s.activePlan.listS

/-- The entries of a list whose carriers have a record in the Catalogue, as it stands in working form: kind and rescue
channel are the record's, the level is the entry's (R78). -/
def State.catalogued (s : State) (entries : List ListEntry) : List Wanted :=
  entries.filterMap fun (c, level) => s.work.catalogue[c].map fun x => ⟨c, x.kind, x.channel, level⟩

/-- The active plan's margin override with the plan's number (R91, R94). -/
def State.override (s : State) : Option (PlanNo × Nat) :=
  s.activePlan.override.map fun m => (s.plans.active, m)

/-- The zone that holds a position (R12). -/
def State.zoneOfPosition (s : State) (p : Position) : Option ZoneNo :=
  (List.finRange 8).find? fun z => p ∈ s.work.zones[z]

/-- Whether a position is a member of a zone that carries an announcement (R3). -/
def State.announced (s : State) (p : Position) : Bool :=
  (List.finRange 8).any fun z => s.breakin.carrying[z] && decide (p ∈ s.work.zones[z])

/-- Whether a stored plan, in working form, names a carrier in either carriage list (R5). -/
def State.planNames (s : State) (c : CarrierNo) : Bool :=
  (List.finRange 16).any fun p =>
    match s.work.plans[p] with
    | some r => r.listN.any (·.1 = c) || r.listS.any (·.1 = c)
    | none => false

end Sys2Proof.Machine
end

