-- ==== Sys2Proof/Machine/HandOver.lean ====
section
/-! DEFINITION. The events one block hands to another within a step. The manual gives them no order among
themselves, so a step keeps them in a list and takes them in the order the state's `choices` give
(assumption 1). -/

namespace Sys2Proof.Machine

open Sys2Proof

/-- Causes of a carriage recomputation, in the order of R83. -/
inductive CarriageCause where
  | plan | feed | capacity | cls | catalogue
  deriving DecidableEq, Repr

/-- Events at an allocation record, in the order of R96; a rescue event names its channel. -/
inductive AllocEvent where
  | carriage | feed | cls | model | plan | gate
  | rescue (ch : ChannelNo)
  | amplifier
  deriving DecidableEq, Repr

/-- What a span port outputs at a tick of the block schedule (R34). -/
inductive Output where
  | nothing
  | invalid
  | valid (block : UplinkBlock)
  deriving DecidableEq, Repr

/-- An event handed to a block and not yet taken by it. -/
inductive HandOver where
  /-- A path's Carriage Planner recomputes; `joined` are the units the Ring Feed Controller has moved onto
  the path in this event (R53, R83). -/
  | planner (path : SpanPort) (cause : CarriageCause) (joined : List UnitNo)
  /-- A path's announcement flag is judged afresh (R79, R138). -/
  | flag (path : SpanPort)
  /-- An event at a unit's allocation record (R96). -/
  | alloc (p : Position) (e : AllocEvent)
  /-- A voter judges its coverage afresh (R108). -/
  | coverage (ch : ChannelNo)
  /-- A unit of a ring has entered or left FED_A or FED_B: a voter's candidates change (R109). -/
  | candidates (ch : ChannelNo)
  /-- The block event of a tick at a voter (R110). -/
  | block (ch : ChannelNo) (outputs : PerSpan Output)
  /-- A base key found ASSERTED at the end of a reset (R123). -/
  | baseKey (ch : ChannelNo)
  /-- A plan activation at the Broadcast Insertion Unit (R132). -/
  | activation
  /-- Changed reference settings at the Reference Clock Unit: the preferred source, the limit (R64, R73). -/
  | settings (preferred limit : Bool)
  /-- Event records posted in this order (R173). -/
  | posts (notes : List Note)
  deriving DecidableEq, Repr

/-- A state and the events its blocks have handed on. -/
abbrev Handed := State × List HandOver

/-- One operation after another; what both hand on stands in that order. -/
def andThen (x : Handed) (f : State → Handed) : Handed :=
  let y := f x.1
  (y.1, x.2 ++ y.2)

/-- What the kind-specific part of a request comes to (R169): the outcome, the reply's payload, the state and
the events handed on, and the record whose store write holds the reply, if a write is begun (R171). -/
structure Result where
  answer : Answer
  payload : List Field
  state : State
  hands : List HandOver
  writes : Option StoreKey
  deriving DecidableEq, Repr

/-- A refused request changes nothing; its reply has an empty payload (R169). -/
def refuse (s : State) (a : Answer) : Result := ⟨a, [], s, [], none⟩

/-- A refused request whose rule names a payload. -/
def refuseWith (s : State) (a : Answer) (payload : List Field) : Result := ⟨a, payload, s, [], none⟩

/-- A request answered at once with a payload, that changes nothing. -/
def answered (s : State) (payload : List Field) : Result := ⟨.accepted, payload, s, [], none⟩

/-- A request carried out and answered at once. -/
def done (a : Answer) (payload : List Field) (x : Handed) : Result := ⟨a, payload, x.1, x.2, none⟩

/-- A request carried out whose store write of a record begins: the reply is HELD (R15, R171). -/
def written (key : StoreKey) (a : Answer) (payload : List Field) (x : Handed) : Result :=
  ⟨a, payload, x.1, x.2, some key⟩

end Sys2Proof.Machine
end

