-- ==== Sys2Proof/Machine/Allocation.lean ====
section
/-! DEFINITION. Composite power allocation (chapter 6): the level conversion, the four stages, the events
at an allocation record and the reports of a recomputation. -/

namespace Sys2Proof.Machine

open Sys2Proof

/-! ### The level conversion (R95) -/

/-- T[r] for r from 0 to 99: 10000 × 10^(r/100) to the nearest integer, a half rounded up (R95). -/
def linTable : List Nat := [
  10000, 10233, 10471, 10715, 10965, 11220, 11482, 11749, 12023, 12303,
  12589, 12882, 13183, 13490, 13804, 14125, 14454, 14791, 15136, 15488,
  15849, 16218, 16596, 16982, 17378, 17783, 18197, 18621, 19055, 19498,
  19953, 20417, 20893, 21380, 21878, 22387, 22909, 23442, 23988, 24547,
  25119, 25704, 26303, 26915, 27542, 28184, 28840, 29512, 30200, 30903,
  31623, 32359, 33113, 33884, 34674, 35481, 36308, 37154, 38019, 38905,
  39811, 40738, 41687, 42658, 43652, 44668, 45709, 46774, 47863, 48978,
  50119, 51286, 52481, 53703, 54954, 56234, 57544, 58884, 60256, 61660,
  63096, 64565, 66069, 67608, 69183, 70795, 72444, 74131, 75858, 77625,
  79433, 81283, 83176, 85114, 87096, 89125, 91201, 93325, 95499, 97724]

/-- The linear power in nanowatts of a level in tenths of a dBm, for levels from −300 to 370 (R95). -/
def lin (x : Int) : Nat :=
  let q := x / 100
  let t := linTable.getD (x % 100).toNat 0
  if q < -2 then (t + 5) / 10 else t * 10 ^ (q + 2).toNat

/-! ### Candidates, requests, floors (R92, R93) -/

/-- The class of a kind at a unit: a broadcast carrier is class 1 where an announcement is carried (R3). -/
def classOf (kind : CarrierKind) (announced : Bool) : Nat :=
  match kind with
  | .rescue => 0
  | .broadcast => if announced then 1 else 2
  | .mobile => 3

/-- Backoff limit of a class in tenths of a dB (R93). -/
def backoffLimit : Nat → Nat
  | 0 => 0
  | 1 => 30
  | 2 => 60
  | _ => 150

/-- A level lowered by d, but not below −300 (R93, R100). -/
def lowered (a : Int) (d : Nat) : Int := max (-300) (a - d)

/-- Why a carrier of the carried set is not a candidate: the gate is closed and its class is not 0, or its
rescue channel is IDLE (R92). -/
def exclusion (gate : Bool) (rescue : Vector Bool 4) (announced : Bool) (w : Wanted) : Option Exclusion :=
  if classOf w.kind announced ≠ 0 ∧ gate = false then some .gate
  else if w.kind = .rescue ∧ w.channel.all (fun ch => !rescue[ch]) then some .idle
  else none

/-- The candidate a carried carrier makes at a unit with a trim (R92, R93). -/
def candOf (trim : Int) (announced : Bool) (w : Wanted) : Cand :=
  let cls := classOf w.kind announced
  let request := clamp (-300) 370 (w.level + trim)
  ⟨w.carrier, w.kind, cls, request, lowered request (backoffLimit cls)⟩

/-! ### The four stages (R98 to R101) -/

/-- The sum of the linear powers of some levels. -/
def linSum (levels : List Int) : Nat := (levels.map lin).sum

/-- The candidates of a class by carrier id descending. -/
def ofClass (k : Nat) (cands : List Cand) : List CarrierNo :=
  ((List.finRange 24).reverse).filter fun c => cands.any fun x => x.carrier = c && x.cls = k

/-- The muting order M: class 3, then 2, then 1, each by carrier id descending (R99). -/
def mutingOrder (cands : List Cand) : List CarrierNo := ofClass 3 cands ++ ofClass 2 cands ++ ofClass 1 cands

/-- The candidates that are not muted. -/
def survivors (cands : List Cand) (mute : List CarrierNo) : List Cand :=
  cands.filter fun c => c.carrier ∉ mute

/-- The smallest d from 0 to `top` with a property. -/
def smallest (top : Nat) (p : Nat → Bool) : Option Nat := (List.range (top + 1)).find? p

/-- Stage 2: the shortest beginning of the muting order without which the rest fit at their floors (R99). -/
def seekMute (budget : Nat) (cands : List Cand) (order : List CarrierNo) : Option (List CarrierNo) :=
  (smallest order.length fun j => linSum ((survivors cands (order.take j)).map Cand.floor) ≤ budget).map
    order.take

/-- The level of a survivor while stage 3 takes class k at backoff d (R100). -/
def stageLevel (k d : Nat) (c : Cand) : Int :=
  if k < c.cls then c.floor else if c.cls = k then lowered c.request d else c.request

/-- Stage 3: classes 3, 2, 1 in turn, each with the smallest backoff that fits (R100). -/
def stage3 (budget : Nat) (alive : List Cand) : List Nat → Option (Nat × Nat)
  | [] => none
  | k :: ks =>
    match smallest (backoffLimit k) fun d => linSum (alive.map (stageLevel k d)) ≤ budget with
    | some d => some (k, d)
    | none => stage3 budget alive ks

/-- What an allocation gives: the mute set, the grants, and the stage that ended it. -/
structure Allocation where
  mute : List CarrierNo
  grants : List (CarrierNo × Int)
  ending : Ending
  deriving DecidableEq, Repr

/-- Every candidate paired with the level a rule gives it. -/
def grantsOf (cands : List Cand) (level : Cand → Int) : List (CarrierNo × Int) :=
  cands.map fun c => (c.carrier, level c)

/-- The four stages (R98 to R101). Stage 3 ends at class 1 at the latest and stage 4 at d = 670, where
every rescue carrier stands at −300; the two defaults below stand for searches that never fail. -/
def allocate (budget : Nat) (cands : List Cand) : Allocation :=
  if linSum (cands.map Cand.request) ≤ budget then ⟨[], grantsOf cands Cand.request, .fit⟩
  else
    let order := mutingOrder cands
    match seekMute budget cands order with
    | some mute =>
      let alive := survivors cands mute
      let (k, d) := (stage3 budget alive [3, 2, 1]).getD (1, backoffLimit 1)
      ⟨mute, grantsOf alive (stageLevel k d), .backoff k d⟩
    | none =>
      let rescue := survivors cands order
      let d := (smallest 670 fun d => linSum (rescue.map fun c => lowered c.request d) ≤ budget).getD 670
      ⟨order, grantsOf rescue (fun c => lowered c.request d), .rescueLimit d⟩

/-! ### The record (R91) and its events (R96) -/

/-- The status a unit state and an amplifier state give; the unit state's reason comes first (R91). -/
def allocStatus (u : UnitState) (a : Amplifier) : AllocStatus :=
  match u with
  | .absent => .none .absent
  | .unreachable => .none .unreachable
  | .mismatch => .none .mismatch
  | .fedA => if a = .ok then .active .a else .none .amplifierFault
  | .fedB => if a = .ok then .active .b else .none .amplifierFault

/-- The limited flag: set while the ending stage is RESCUE_LIMIT (R91). -/
def AllocRec.limited (r : AllocRec) : Bool :=
  match r.ending with
  | some (.rescueLimit _) => true
  | _ => false

/-- The carried set a path's planner holds, as it hands it on: the carriers with their plan levels (R86). -/
def CarriageRec.carriedSet (c : CarriageRec) : List ListEntry := c.carried.map fun e => (e.1.carrier, e.1.level)

/-- The margin in force at a unit: the override's, or the unit's own (R94). -/
def marginInForce (override : Option (PlanNo × Nat)) (u : RuRecord) : Int :=
  match override with
  | some (_, m) => m
  | none => u.margin

/-- The record with the input an event brings taken into it (R91, R96). -/
def absorb (s : State) (p : Position) (e : AllocEvent) (r : AllocRec) : AllocRec :=
  match e with
  | .carriage =>
    match r.status with
    | .active side => { r with carried := (s.carriage.get ⟨p.ring, side⟩).carriedSet }
    | .none _ => r
  | .feed | .amplifier =>
    let status := allocStatus (s.unitState p) (posGet s.beacons p).amplifier
    let carried := match status with
      | .active side => (s.carriage.get ⟨p.ring, side⟩).carriedSet
      | .none _ => []
    { r with status := status, carried := carried }
  | .cls => { r with announced := s.announced p }
  | .plan => { r with override := s.override }
  | .gate => { r with gate := s.gateOpen }
  | .rescue ch => { r with rescue := r.rescue.set ch (s.voters[ch].state != .idle) }
  | .model => r

/-- Whether the event makes the record recompute: a rescue event only where an ACTIVE record's carried set
holds the channel's carrier (R96). -/
def recomputes (s : State) (e : AllocEvent) (r : AllocRec) : Bool :=
  match e with
  | .rescue ch =>
    match r.status with
    | .active _ => (s.catalogued r.carried).any fun w => w.kind = .rescue && w.channel = some ch
    | .none _ => false
  | _ => true

/-- The record recomputed from its inputs (R98 to R103). The kind and the channel of a carrier that it was handed are
those of the Catalogue now (assumption 11). -/
def recompute (s : State) (p : Position) (r : AllocRec) : AllocRec :=
  let u := s.unit p
  let margin := marginInForce r.override u
  let budget := lin (u.ceiling - margin)
  match r.status with
  | .none _ =>
    { r with carried := [], margin := margin, budget := budget, cands := [], excluded := [], mute := [],
             grants := [], composite := 0, ending := none }
  | .active _ =>
    let out := exclusion r.gate r.rescue r.announced
    let carried := s.catalogued r.carried
    let cands := (carried.filter fun w => (out w).isNone).map (candOf u.trim r.announced)
    let a := allocate budget cands
    { r with
      margin := margin
      budget := budget
      cands := cands
      excluded := carried.filterMap fun w => (out w).map fun x => (w.carrier, x)
      mute := a.mute
      grants := a.grants
      composite := linSum (a.grants.map (·.2))
      ending := some a.ending }

/-- The number of an allocation cause, in the order of R96. -/
def allocCause : AllocEvent → Nat
  | .carriage => 0
  | .feed => 1
  | .cls => 2
  | .model => 3
  | .plan => 4
  | .gate => 5
  | .rescue _ => 6
  | .amplifier => 7

/-- CARRIER_MUTED for a candidate that joined the mute set (R104). -/
def mutedNote (p : Position) (e : AllocEvent) (new : AllocRec) (c : CarrierNo) : Note where
  kind := .carrierMuted
  severity := .warning
  subject := .carrier c
  detail := [.position p, .ident (((new.cands.find? (·.carrier = c)).map Cand.cls).getD 0),
    .named (allocCause e)]

/-- CARRIER_UNMUTED for a carrier that left the mute set: GRANTED with its level, or NOT_CANDIDATE (R104). The level is sent
without a presence byte: the model's choice (DESIGN CHOICE, assumption 13). -/
def unmutedNote (p : Position) (e : AllocEvent) (new : AllocRec) (c : CarrierNo) : Note where
  kind := .carrierUnmuted
  severity := .notice
  subject := .carrier c
  detail := [.position p] ++ (match new.grants.find? (·.1 = c) with
      | some (_, g) => [.named 0, .quantity g]
      | none => [.named 1]) ++ [.named (allocCause e)]

/-- The reports of a recomputation that leaves a unit ACTIVE, in the order of R104: the carriers newly
muted, those no longer muted, the limited flag's change. The backoff and the count of a limited flag that is set are sent
without a presence byte: the model's choice (DESIGN CHOICE, assumption 13). -/
def allocNotes (p : Position) (e : AllocEvent) (old new : AllocRec) : List Note :=
  match new.status with
  | .none _ => []
  | .active _ =>
    ((new.mute.filter (· ∉ old.mute)).map (mutedNote p e new))
    ++ ((old.mute.filter (· ∉ new.mute)).map (unmutedNote p e new))
    ++ (match old.limited, new.ending with
        | false, some (.rescueLimit d) =>
          [⟨.allocationLimited, .alarm, .position p,
            [.named 0, .quantity d, .count (new.cands.filter (·.cls = 0)).length, .named (allocCause e)]⟩]
        | true, some (.rescueLimit _) => []
        | true, _ => [⟨.allocationLimited, .notice, .position p, [.named 1, .named (allocCause e)]⟩]
        | false, _ => [])

/-- An event at a unit's allocation record: its input is taken, the record recomputes and reports. A record
that was NONE is reported against an empty mute set and a clear flag, which it holds (R103, R104). -/
def allocEvent (p : Position) (e : AllocEvent) (s : State) : State :=
  let old := posGet s.alloc p
  let taken := absorb s p e old
  if recomputes s e taken then
    let new := recompute s p taken
    (s.setAlloc p new).postAll (allocNotes p e old new)
  else s.setAlloc p taken

/-- An event of one kind at every allocation record (R74, R94, R120). -/
def allocEverywhere (e : AllocEvent) : List HandOver := allPositions.map (.alloc · e)

end Sys2Proof.Machine
end

