-- ==== Sys2Proof/Machine/Carriage.lean ====
section
/-! DEFINITION. Carriage planning (chapter 5): wanted list, carried set, slots in three passes, what a
planner hands on, and its shedding reports. -/

namespace Sys2Proof.Machine

open Sys2Proof

/-- The units of a path: the FED_A units for port A, the FED_B units for port B, ascending (R54). -/
def RingRec.members (r : RingRec) (side : Side) : List UnitNo :=
  (List.finRange 12).filter fun u => r.units[u].side = some side

/-- The slot count of hop i (R44, R45); a hop that is DOWN has none. -/
def RingRec.hopSlots (r : RingRec) (i : Nat) : Nat :=
  match r.hops.getD (i - 1) none with
  | some g => Grade.slots g
  | none => 0

/-- The lowest slot count among hops `first` to `last`, with the hop that sets it: of equals, the
lower-numbered when `low`, else the higher-numbered (R54, R61). -/
def RingRec.weakest (r : RingRec) (low : Bool) (first last : Nat) : Option (Nat × Nat) :=
  ((List.range (last + 1)).filter (first ≤ ·)).foldl (fun best i =>
    match best with
    | none => some (r.hopSlots i, i)
    | some (m, j) =>
      if r.hopSlots i < m ∨ (low = false ∧ r.hopSlots i = m) then some (r.hopSlots i, i) else some (m, j)) none

/-- A path's capacity and the hop that sets it: hops 1 to k for the A path, where k is its highest unit,
hops j+1 to n+1, in numbers from port A, for the B path with lowest position j+1; none when empty (R54). -/
def RingRec.pathCapacity (r : RingRec) (side : Side) : Option (Nat × Nat) :=
  match side with
  | .a => (r.members .a).getLast?.bind fun u => r.weakest true 1 (u.val + 1)
  | .b => (r.members .b).head?.bind fun u => r.weakest false (u.val + 2) r.hops.length

/-- Entries of a kind by carrier id ascending (R80). -/
def byCarrier (kind : CarrierKind) (ws : List Wanted) : List Wanted :=
  (List.finRange 24).flatMap fun c => ws.filter fun w => w.carrier = c && w.kind = kind

/-- Rescue entries by channel, RC1 to RC4 (R80). -/
def byChannel (ws : List Wanted) : List Wanted :=
  (List.finRange 4).flatMap fun ch => ws.filter fun w => w.kind = .rescue && w.channel = some ch

/-- Carriage order: rescue by channel; broadcast by id, whose tier is 2 or 3 with the flag and whose place
is the same in both; mobile by id (R80). -/
def carriageOrder (ws : List Wanted) : List Wanted :=
  byChannel ws ++ byCarrier .broadcast ws ++ byCarrier .mobile ws

/-- The slot a rescue carrier holds by right: that of its channel (R82, pass 1). -/
def heldSlot (w : Wanted) : Option Nat :=
  if w.kind = .rescue then w.channel.map fun ch => ch.val + 1 else none

/-- The slot a carrier has after passes 1 and 2: its channel's, or its old one when that is at most S and
not held (R82). -/
def keptSlot (old : List (Wanted × Nat)) (capacity : Nat) (held : List Nat) (w : Wanted) : Option Nat :=
  match heldSlot w with
  | some k => some k
  | none =>
    (old.find? (·.1.carrier = w.carrier)).bind fun (_, k) =>
      if k ≤ capacity ∧ k ∉ held then some k else none

/-- Pass 3: the carriers without a slot take the free slots in carriage order (R82). A carrier for which no
slot is left, which R82 rules out, is given slot 0. -/
def giveSlots (kept : Wanted → Option Nat) : List Wanted → List Nat → List (Wanted × Nat)
  | [], _ => []
  | w :: ws, free =>
    match kept w, free with
    | some k, free => (w, k) :: giveSlots kept ws free
    | none, k :: free => (w, k) :: giveSlots kept ws free
    | none, [] => (w, 0) :: giveSlots kept ws []

/-- The three passes of slot assignment (R82). -/
def assignSlots (old : List (Wanted × Nat)) (capacity : Nat) (carried : List Wanted) : List (Wanted × Nat) :=
  let held := carried.filterMap heldSlot
  let kept := keptSlot old capacity held
  let taken := carried.filterMap kept
  giveSlots kept carried ((List.range (capacity + 1)).filter fun k => 1 ≤ k && decide (k ∉ taken))

/-- Whether the broadcast carriers of a path with some units are class 1 on it: one of them is announced (R79). -/
def pathAnnounced (s : State) (r : Ring) (units : List UnitNo) : Bool := units.any fun u => s.announced ⟨r, u⟩

/-- The record with the input taken into it that an event brings, and no other's (R83, R84): the carriage list, the
membership with its capacity and its flag, the capacity alone, or the flag. The Catalogue is the Store's own. -/
def CarriageRec.taking (s : State) (path : SpanPort) (cause : CarriageCause) (r : CarriageRec) : CarriageRec :=
  let ring := s.rings.get path.ring
  let capacity := (ring.pathCapacity path.side).map (·.1)
  match cause with
  | .plan => { r with list := s.carriageList path.ring }
  | .feed =>
    let units := ring.members path.side
    { r with units := units, capacity := capacity, announcing := pathAnnounced s path.ring units }
  | .capacity => { r with capacity := capacity }
  | .cls => { r with announcing := pathAnnounced s path.ring r.units }
  | .catalogue => r

/-- The record formed from its inputs and the Catalogue (R78 to R82): on an empty path it is empty, and keeps the list
alone. -/
def CarriageRec.formed (s : State) (r : CarriageRec) : CarriageRec :=
  match r.capacity with
  | none => .start r.list
  | some capacity =>
    let wanted := carriageOrder (s.catalogued r.list)
    { r with
      wanted := wanted
      carried := assignSlots r.carried capacity (wanted.take capacity)
      shed := wanted.drop capacity }

/-- The record after an event at the planner (R83). -/
def plan (s : State) (path : SpanPort) (cause : CarriageCause) (old : CarriageRec) : CarriageRec :=
  (old.taking s path cause).formed s

/-- The number of a carriage cause, in the order of R83. -/
def carriageCause : CarriageCause → Nat
  | .plan => 0
  | .feed => 1
  | .capacity => 2
  | .cls => 3
  | .catalogue => 4

/-- The ring and side fields of a path's report (R87). -/
def pathFields (path : SpanPort) : List Field := [.ring path.ring, .named path.side.ctorIdx]

/-- Whether a list of entries names a carrier. -/
def namesCarrier (ws : List Wanted) (c : CarrierNo) : Bool := ws.any (·.carrier = c)

/-- CARRIER_SHED for a carrier that joined the shed list: cause, place in carriage order, capacity (R87). That the place
counts from 1 and is sent as a count of two bytes is the model's choice (DESIGN CHOICE, assumption 13). -/
def shedNote (path : SpanPort) (cause : CarriageCause) (new : CarriageRec) (w : Wanted) : Note where
  kind := .carrierShed
  severity := .warning
  subject := .carrier w.carrier
  detail := pathFields path ++ [.named (carriageCause cause),
    .count ((new.wanted.findIdx (·.carrier = w.carrier)) + 1), .count (new.capacity.getD 0)]

/-- CARRIER_RESTORED for a carrier that left the shed list: CARRIED with its slot, or ENDED (R87). The slot is sent without a
presence byte: the model's choice (DESIGN CHOICE, assumption 13). -/
def restoredNote (path : SpanPort) (cause : CarriageCause) (new : CarriageRec) (w : Wanted) : Note where
  kind := .carrierRestored
  severity := .notice
  subject := .carrier w.carrier
  detail := pathFields path ++ [.named (carriageCause cause)] ++
    (match new.carried.find? (·.1.carrier = w.carrier) with
     | some (_, slot) => [.named 0, .ident slot]
     | none => [.named 1])

/-- The shedding reports of a recomputation, in the order of R87. -/
def carriageNotes (path : SpanPort) (cause : CarriageCause) (old new : CarriageRec) : List Note :=
  ((new.shed.filter fun w => !namesCarrier old.shed w.carrier).map (shedNote path cause new))
  ++ ((old.shed.filter fun w => !namesCarrier new.shed w.carrier).map (restoredNote path cause new))

/-- The events a recomputation hands to the allocation records: FEED at each unit the Ring Feed Controller
has just moved onto the path (R53), CARRIAGE at the path's other units when the carried set has changed in
carriers or levels (R86). -/
def carriageHands (path : SpanPort) (joined : List UnitNo) (old new : CarriageRec) : List HandOver :=
  (joined.map fun u => .alloc ⟨path.ring, u⟩ .feed) ++
    (if sameCarried then [] else
      ((List.finRange 12).filter fun u => u ∈ new.units ∧ u ∉ joined).map fun u => .alloc ⟨path.ring, u⟩ .carriage)
where
  /-- Whether both carried sets hold the same carriers at the same levels. -/
  sameCarried : Bool :=
    old.carriedSet.all (new.carriedSet.contains ·) && new.carriedSet.all (old.carriedSet.contains ·)

/-- A recomputation of a path's Carriage Planner (R83): the record is replaced whole, the reports are
posted, the changes are handed on. The reports stand before the records of the allocators they are handed to, an order
that the manual does not give (DEDUCED, assumption 17). -/
def plannerEvent (path : SpanPort) (cause : CarriageCause) (joined : List UnitNo) (s : State) : Handed :=
  let old := s.carriage.get path
  let new := plan s path cause old
  ((s.setCarriage path new).postAll (carriageNotes path cause old new), carriageHands path joined old new)

/-- A path's announcement flag judged afresh: a change makes the planner recompute with cause CLASS (R79). -/
def flagEvent (path : SpanPort) (s : State) : Handed :=
  let r := s.carriage.get path
  if r.announcing = pathAnnounced s path.ring r.units then (s, []) else plannerEvent path .cls [] s

/-- An accepted change to the Catalogue at every Carriage Planner (R7). -/
def cataloguePlanners : List HandOver := allSpans.map (.planner · .catalogue [])

end Sys2Proof.Machine
end

