-- ==== Sys2Proof/Machine/Voter.lean ====
section
/-! DEFINITION. Rescue talk-through (chapter 7): coverage and candidates, the two ways of choosing a source,
the block event, hang, portal talk, and the reports of a voter's activity. -/

namespace Sys2Proof.Machine

open Sys2Proof

/-! ### Coverage and candidates (R108, R109) -/

/-- The channel's rescue carrier: the Catalogue's RESCUE record of the channel (R108). -/
def rescueCarrier (s : State) (ch : ChannelNo) : Option CarrierNo :=
  (List.finRange 24).find? fun c =>
    match s.work.catalogue[c] with
    | some r => r.kind = .rescue && r.channel = some ch
    | none => false

/-- The rings a channel covers: those whose carriage list in the active plan names its carrier (R108). -/
def coverageOf (s : State) (ch : ChannelNo) : PerRing Bool :=
  match rescueCarrier s ch with
  | some c => ⟨(s.carriageList .n).any (·.1 = c), (s.carriageList .s).any (·.1 = c)⟩
  | none => ⟨false, false⟩

/-- The candidates: the FED_A and FED_B units of the covered rings, in candidate order; a unit that was a
candidate keeps its quality and a new one is NEW (R109, R111). -/
def candidatesOf (s : State) (v : VoterRec) : List VoterCand :=
  (allPositions.filter fun p => v.covers.get p.ring && (s.unitState p).side.isSome).map fun p =>
    ⟨p, ((v.cands.find? (·.position = p)).map VoterCand.quality).getD none⟩

/-- The quality of a candidate, NEW counting as 0 (R111). -/
def VoterCand.value (c : VoterCand) : Nat := c.quality.getD 0

/-- The quality of a position among some candidates; 0 when it is none of them. -/
def qualityOf (cands : List VoterCand) (p : Position) : Nat :=
  ((cands.find? (·.position = p)).map VoterCand.value).getD 0

/-- The highest quality of some candidates. -/
def bestQuality (cands : List VoterCand) : Nat := cands.foldl (fun m c => max m c.value) 0

/-- Some candidate has a quality above 0. -/
def heard (cands : List VoterCand) : Bool := cands.any fun c => 0 < c.value

/-! ### Choosing a source (R111) -/

/-- Fresh choice: the candidate of highest quality above 0; the selected source when it is among the best,
else the first of them in candidate order (R111). -/
def freshChoice (cands : List VoterCand) (source : Option Position) : Option Position :=
  let best := cands.filter fun c => 0 < c.value && c.value = bestQuality cands
  match source with
  | some p => if best.any (·.position = p) then some p else best.head?.map VoterCand.position
  | none => best.head?.map VoterCand.position

/-- Hysteresis step for a selected source (R111). -/
def hysteresisStep (h : Nat) (cands : List VoterCand) (p : Position) : Option Position :=
  let others := cands.filter (·.position ≠ p)
  let q := qualityOf cands p
  if q = 0 then (if heard others then freshChoice others none else some p)
  else if others.any (fun c => q + h ≤ c.value) then freshChoice others none
  else some p

/-- Voting while a talk goes on or a source is repeated: hysteresis with a source, fresh choice without one,
nothing when no candidate is heard (R112, R119). -/
def voteOn (h : Nat) (v : VoterRec) : Option Position :=
  if heard v.cands then
    match v.source with
    | some p => hysteresisStep h v.cands p
    | none => freshChoice v.cands none
  else v.source

/-! ### Reports (R120) -/

/-- The subject of a voter's record: its rescue carrier, or the channel when the Catalogue has none. -/
def voterSubject (s : State) (ch : ChannelNo) : Subject :=
  match rescueCarrier s ch with
  | some c => .carrier c
  | none => .channel ch

/-- Causes of RESCUE_ACTIVE, in the order of R120. -/
inductive TalkCause where
  | uplink | console | base
  deriving DecidableEq, Repr

/-- A voter record replaced; when its activity changes, the change is posted and handed to every allocation
record (R120). The cause is that of RESCUE_ACTIVE, whose source stands behind UPLINK without a presence byte; RESCUE_IDLE
has the cause HANG_EXPIRED, which is sent as 0, the causes of each kind numbered on their own (DESIGN CHOICE, assumption
13). -/
def setVoterState (ch : ChannelNo) (new : VoterRec) (cause : TalkCause) (s : State) : Handed :=
  let old := s.voters[ch]
  let s' := s.setVoter ch new
  if old.state = .idle ∧ new.state ≠ .idle then
    (s'.post ⟨.rescueActive, .notice, voterSubject s ch,
      [.channel ch, .named cause.ctorIdx] ++ (match cause, new.source with
        | .uplink, some p => [.position p]
        | _, _ => [])⟩, allocEverywhere (.rescue ch))
  else if old.state ≠ .idle ∧ new.state = .idle then
    (s'.post ⟨.rescueIdle, .notice, voterSubject s ch, [.channel ch, .named 0]⟩, allocEverywhere (.rescue ch))
  else (s', [])

/-- A hang of the channel's hang time that starts now (R112). -/
def newHang (s : State) (ch : ChannelNo) : Option (Nat × Nat) := some (s.now, s.work.voters[ch].hang)

/-! ### Changes of coverage and candidates (R108, R109, R114) -/

/-- A selected source that has left the candidate list: R114, by the voter's state. -/
def loseSource (s : State) (ch : ChannelNo) (v : VoterRec) : VoterRec :=
  match v.state with
  | .repeating =>
    if heard v.cands then { v with source := freshChoice v.cands none }
    else { v with state := .hang, hang := newHang s ch, source := none }
  | .console | .base => { v with source := if heard v.cands then freshChoice v.cands none else none }
  | .hang | .idle => { v with source := none }

/-- The voter with its candidate list changed (R109); a source no longer in it is lost (R114). -/
def withCandidates (s : State) (ch : ChannelNo) (v : VoterRec) : VoterRec :=
  let v := { v with cands := candidatesOf s v }
  match v.source with
  | some p => if v.cands.any (·.position = p) then v else loseSource s ch v
  | none => v

/-- A unit has entered or left FED_A or FED_B: the candidates change (R53, R109). -/
def candidatesEvent (ch : ChannelNo) (s : State) : State := s.setVoter ch (withCandidates s ch s.voters[ch])

/-- The coverage is judged afresh, and the candidates with it (R108). -/
def coverageEvent (ch : ChannelNo) (s : State) : State :=
  s.setVoter ch (withCandidates s ch { s.voters[ch] with covers := coverageOf s ch })

/-! ### The block event (R110, R112, R119) -/

/-- What a tick's outputs carry for a unit on a channel: its quality and its audio; quality 0 when its
feeding port output no valid block (R110). -/
def blockUplink (s : State) (outputs : PerSpan Output) (ch : ChannelNo) (p : Position) : Option Uplink :=
  match (s.unitState p).side with
  | some side =>
    match outputs.get ⟨p.ring, side⟩ with
    | .valid block => some block[p.unit][ch]
    | _ => none
  | none => none

/-- The candidates with the qualities of a tick (R110). -/
def blockQualities (s : State) (outputs : PerSpan Output) (ch : ChannelNo) (cands : List VoterCand) :
    List VoterCand :=
  cands.map fun c =>
    ⟨c.position, some (match blockUplink s outputs ch c.position with
      | some u => u.quality.val
      | none => 0)⟩

/-- The voter after a block event's qualities have been written, by its state (R112, R119). -/
def vote (s : State) (ch : ChannelNo) (v : VoterRec) : VoterRec :=
  match v.state with
  | .idle => if heard v.cands then { v with state := .repeating, source := freshChoice v.cands none } else v
  | .repeating =>
    if heard v.cands then { v with source := voteOn s.work.voters[ch].hysteresis v }
    else { v with state := .hang, hang := newHang s ch }
  | .hang =>
    if heard v.cands then { v with state := .repeating, hang := none, source := freshChoice v.cands v.source }
    else v
  | .console | .base => { v with source := voteOn s.work.voters[ch].hysteresis v }

/-- The audio a voter forwards: that of its source in the block, silence with no source or quality 0 (R110). -/
def forwardedAudio (s : State) (outputs : PerSpan Output) (ch : ChannelNo) (v : VoterRec) : Option Nat :=
  v.source.bind fun p => (blockUplink s outputs ch p).bind fun u =>
    if u.quality.val = 0 then none else some u.audio

/-- The block event of a tick at a voter (R110). -/
def voterBlock (ch : ChannelNo) (outputs : PerSpan Output) (s : State) : Handed :=
  let v := s.voters[ch]
  let voted := vote s ch { v with cands := blockQualities s outputs ch v.cands }
  setVoterState ch { voted with forwarded := forwardedAudio s outputs ch voted } .uplink s

/-! ### Hang and portal talk (R113, R116 to R119) -/

/-- The hang expires: IDLE, no source (R113). A voter in another state has no hang running. -/
def hangEnd (ch : ChannelNo) (s : State) : Handed :=
  let v := s.voters[ch]
  if v.state = .hang then
    setVoterState ch { v with state := .idle, source := none, hang := none, forwarded := none } .uplink s
  else (s, [])

/-- Portal talk ends: BASE with the base key ASSERTED after console talk, else REPEAT when a candidate is
heard, else HANG (R119). -/
def endTalk (s : State) (ch : ChannelNo) (v : VoterRec) : VoterRec :=
  if v.state = .console ∧ v.baseKey then { v with state := .base, consoleKey := none }
  else if heard v.cands then
    { v with
      state := .repeating
      consoleKey := none
      source := match v.source with
        | some p => if qualityOf v.cands p = 0 then freshChoice v.cands (some p) else some p
        | none => freshChoice v.cands none }
  else { v with state := .hang, consoleKey := none, hang := newHang s ch }

/-- The console keys (R116): the outcome, and the voter in CONSOLE unless it was there already. -/
def consoleKeyed (ch : ChannelNo) (s : State) : Answer × Handed :=
  let v := s.voters[ch]
  if v.state = .console then (.alreadyActive, (s, []))
  else (.accepted, setVoterState ch { v with state := .console, consoleKey := some s.now, hang := none } .console s)

/-- The console unkeys (R116): refused with STATE outside CONSOLE. -/
def consoleUnkeyed (ch : ChannelNo) (s : State) : Answer × Handed :=
  let v := s.voters[ch]
  if v.state = .console then (.accepted, setVoterState ch (endTalk s ch v) .console s)
  else (.wrongState, (s, []))

/-- The key limit is reached: CONSOLE_KEY_LIMIT, and console talk ends (R117). With the key CLEAR the limit
does nothing. The record's one detail, the channel, is the model's choice (DESIGN CHOICE, assumption 13). -/
def keyLimit (ch : ChannelNo) (s : State) : Handed :=
  let v := s.voters[ch]
  if v.consoleKey.isSome then
    setVoterState ch (endTalk s ch v) .console
      (s.post ⟨.consoleKeyLimit, .warning, voterSubject s ch, [.channel ch]⟩)
  else (s, [])

/-- A change of the base key, recorded and acted on (R118). A signal that repeats the recorded state is no
change. -/
def baseKeyed (ch : ChannelNo) (asserted : Bool) (s : State) : Handed :=
  let v := { s.voters[ch] with baseKey := asserted }
  if s.voters[ch].baseKey = asserted then (s, [])
  else if asserted then
    match v.state with
    | .idle | .repeating | .hang => setVoterState ch { v with state := .base, hang := none } .base s
    | .console | .base => setVoterState ch v .base s
  else
    match v.state with
    | .base => setVoterState ch (endTalk s ch v) .base s
    | _ => setVoterState ch v .base s

/-- The events of a ring's feed change at the voters that cover it (R53). -/
def votersOfRing (s : State) (r : Ring) : List HandOver :=
  ((List.finRange 4).filter fun ch => s.voters[ch].covers.get r).map .candidates

end Sys2Proof.Machine
end

