-- ==== Sys2Proof/Machine/BreakIn.lean ====
section
/-! DEFINITION. The Broadcast Insertion Unit (chapter 8, from R130): the break-in queue, the settlement of
zone ownership and players, playback, plan posts, and the requests of the BROADCAST group. -/

namespace Sys2Proof.Machine

open Sys2Proof

/-! ### Settlement (R134, R135, R138) -/

/-- The owner of a zone: the first request in queue order whose zone set holds it (R134). -/
def zoneOwner (q : List BreakIn) (z : ZoneNo) : Option BreakIn := q.find? fun r => z ∈ r.zones

/-- The zones of its zone set that a request owns (R134). -/
def ownedZones (q : List BreakIn) (r : BreakIn) : List ZoneNo :=
  r.zones.filter fun z => (zoneOwner q z).any (·.id = r.id)

/-- The ids of the eligible requests: the first four owning requests in queue order (R134). -/
def eligibleIds (q : List BreakIn) : List Nat :=
  ((q.filter fun r => !(ownedZones q r).isEmpty).take 4).map BreakIn.id

/-- The players no eligible request holds, lowest first (R134, release). -/
def freePlayers (q : List BreakIn) : List PlayerNo :=
  (List.finRange 4).filter fun p => !q.any fun r => r.player = some p && decide (r.id ∈ eligibleIds q)

/-- Release and grant: an eligible request keeps its player or takes the lowest free one, in queue order;
another holds none (R134). -/
def grantPlayers (eligible : List Nat) : List BreakIn → List PlayerNo → List BreakIn
  | [], _ => []
  | r :: rest, free =>
    if r.id ∈ eligible then
      match r.player, free with
      | some _, free => r :: grantPlayers eligible rest free
      | none, p :: free => { r with player := some p } :: grantPlayers eligible rest free
      | none, [] => r :: grantPlayers eligible rest []
    else { r with player := none } :: grantPlayers eligible rest free

/-- A request's state after the settlement, and what it does to position and playback (R134, R135). -/
def settleState (now : Nat) (r : BreakIn) : BreakIn :=
  let state : BreakInState := if r.player.isSome then .onAir else if r.owned.isEmpty then .waiting else .held
  if r.state = .onAir ∧ state ≠ .onAir then { r with state := state, clipIndex := 1, page := 0 }
  else if r.state ≠ .onAir ∧ state = .onAir then { r with state := state, pageSince := now }
  else { r with state := state }

/-- The queue settled (R134). -/
def settleQueue (now : Nat) (q : List BreakIn) : List BreakIn :=
  let owned := q.map fun r => { r with owned := ownedZones q r }
  let granted := grantPlayers (eligibleIds q) owned (freePlayers q)
  granted.map fun r => settleState now r

/-- BREAKIN_ON_AIR (R141): source, player, owned zones, position, repetitions done. -/
def onAirNote (r : BreakIn) : Note where
  kind := .breakinOnAir
  severity := .notice
  subject := .breakin r.id
  detail := List.flatten [[.named r.source.ctorIdx, .ident ((r.player.map (·.val + 1)).getD 0)],
    listField fromOne r.owned, [.ident r.clipIndex, .count r.page, .count r.done]]

/-- The requests that the settlement put on air, in queue order: those ON_AIR that were not (R135). -/
def newOnAir (old new : List BreakIn) : List BreakIn :=
  new.filter fun r => r.state = .onAir && !old.any fun o => o.id = r.id && o.acceptance = r.acceptance
    && o.state = .onAir

/-- The request that owns a zone and is ON_AIR, if there is one: the zone carries its page (R137). -/
def carriedBy (q : List BreakIn) (z : ZoneNo) : Option BreakIn := (zoneOwner q z).filter (·.state = .onAir)

/-- Whether each zone carries an announcement: its owner is ON_AIR (R137). -/
def zonesCarrying (q : List BreakIn) : Vector Bool 8 :=
  tabulate fun z => (carriedBy q z).isSome

/-- The class changes of some positions handed on: CLASS at each one's allocation record, and the flag of
each path that feeds one judged afresh (R138). -/
def classHands (s : State) (ps : List Position) : List HandOver :=
  ps.map (.alloc · .cls) ++
    (allSpans.filter fun path => ps.any fun p => p.ring = path.ring && (s.unitState p).side = some path.side).map
      .flag

/-- The members of the zones whose carrying differs (R138). -/
def carryingChanged (s : State) (old new : Vector Bool 8) : List Position :=
  allPositions.filter fun p => (List.finRange 8).any fun z => old[z] != new[z] && decide (p ∈ s.work.zones[z])

/-- The request whose player each position hears once the queue is settled, by acceptance number. The page now playing of
a request goes on into every zone it gains, at once and with no jump (R135), and a request put on the air begins its page
at once; that R137's next page does not hold this back is the model's reading (DEDUCED, assumption 22). A zone whose owner
stays is heard as before, and one that carries nothing has nothing heard. -/
def heardAfter (s : State) (q : List BreakIn) : PerPosition (Option Nat) :=
  forPositions fun p =>
    (s.zoneOfPosition p).bind fun z =>
      (carriedBy q z).bind fun r =>
        if (carriedBy s.breakin.queue z).any (·.acceptance = r.acceptance) then posGet s.breakin.heard p
        else some r.acceptance

/-- Ownership and players settled afresh over a queue (R134): `removals` are the records of what changed
the queue, posted before those of the requests put on air (R141). -/
def settlement (removals : List Note) (q : List BreakIn) (s : State) : Handed :=
  let new := settleQueue s.now q
  let carrying := zonesCarrying new
  let s' := { s with breakin := { s.breakin with queue := new, carrying := carrying, heard := heardAfter s new } }
  (s', [.posts (removals ++ (newOnAir s.breakin.queue new).map onAirNote)]
    ++ classHands s' (carryingChanged s' s.breakin.carrying carrying))

/-! ### Acceptance and removal (R130 to R133) -/

/-- The lowest id from 1 upward that no queued request holds (R130). -/
def freshId (q : List BreakIn) : Nat :=
  ((List.range 256).find? fun n => 1 ≤ n && !q.any (·.id = n)).getD 0

/-- A request inserted in queue order: after those of at least its priority, since its acceptance number is
the highest (R130). -/
def insertBreakIn (r : BreakIn) (q : List BreakIn) : List BreakIn :=
  q.takeWhile (r.priority ≤ ·.priority) ++ [r] ++ q.dropWhile (r.priority ≤ ·.priority)

/-- Whether the queue takes a request of a priority: it has room, or the priority exceeds the lowest held,
which is the last one's (R131, check 4). -/
def hasRoom (q : List BreakIn) (priority : Nat) : Bool :=
  decide (q.length < 8) || q.getLast?.any (·.priority < priority)

/-- The request a full queue evicts: of the lowest priority the one of highest acceptance number, which is
the last in queue order (R131). -/
def evictedBy (q : List BreakIn) : Option BreakIn := if q.length < 8 then none else q.getLast?

/-- BREAKIN_EVICTED (R141): source, priority, state when evicted, the id of the request that displaced it. A request that
an earlier template of the same activation posted has had no state from R134 yet; it is reported as WAITING (DESIGN
CHOICE, assumption 26). -/
def evictedNote (r : BreakIn) (by_ : Nat) : Note where
  kind := .breakinEvicted
  severity := .warning
  subject := .breakin r.id
  detail := [.named r.source.ctorIdx, .quantity r.priority, .named r.state.ctorIdx, .ident by_]

/-- Causes of a withdrawal, in the order of R141. -/
inductive WithdrawCause where
  | request | plan
  deriving DecidableEq, Repr

/-- BREAKIN_DONE (R141): COMPLETED, or WITHDRAWN with its cause; source; repetitions done. The cause is sent without a
presence byte: the model's choice (DESIGN CHOICE, assumption 13). -/
def doneNote (r : BreakIn) (withdrawn : Option WithdrawCause) : Note where
  kind := .breakinDone
  severity := .notice
  subject := .breakin r.id
  detail := (match withdrawn with
      | none => [.named 0]
      | some c => [.named 1, .named c.ctorIdx]) ++ [.named r.source.ctorIdx, .count r.done]

/-- BREAKIN_SKIPPED (R141): the template's index and the reason, NOT_READY 0 or QUEUE_FULL 1. That the index counts from 0,
in one byte, is the model's choice (DESIGN CHOICE, assumption 13). -/
def skippedNote (p : PlanNo) (index reason : Nat) : Note where
  kind := .breakinSkipped
  severity := .warning
  subject := .plan p
  detail := [.ident index, .named reason]

/-- A queue while requests are accepted into it: the requests, the acceptance count, the records so far. -/
structure Accepting where
  queue : List BreakIn
  accepted : Nat
  notes : List Note
  deriving DecidableEq, Repr

/-- A request accepted (R130, R131): an eviction when the queue is full, then the id, then its place. It
stands WAITING until the settlement gives it its state (DESIGN CHOICE, assumption 26). -/
def acceptBreakIn (source : BreakInSource) (p : Option PlanNo) (t : Template) (x : Accepting) : Accepting :=
  let evicted := evictedBy x.queue
  let kept := if evicted.isSome then x.queue.dropLast else x.queue
  let id := freshId kept
  let r : BreakIn := ⟨id, source, p, t.zones, t.clips, t.priority, t.repeats, 1, 0, 0, .waiting, none, [],
    x.accepted + 1, 0⟩
  ⟨insertBreakIn r kept, x.accepted + 1, x.notes ++ (evicted.map (evictedNote · id)).toList⟩

/-- Whether every clip of a list is READY (R131, check 3). -/
def clipsReady (s : State) (clips : List ClipNo) : Bool := clips.all fun c => s.work.clips[c].state = .ready

/-- The templates of an activation taken in order as plan posts (R132): the first of them is number `i`, and the first of
all is number 0 (DESIGN CHOICE, assumption 13). -/
def postTemplates (s : State) (p : PlanNo) : Nat → List Template → Accepting → Accepting
  | _, [], x => x
  | i, t :: ts, x =>
    postTemplates s p (i + 1) ts <|
      if !clipsReady s t.clips then { x with notes := x.notes ++ [skippedNote p i 0] }
      else if !hasRoom x.queue t.priority then { x with notes := x.notes ++ [skippedNote p i 1] }
      else acceptBreakIn .plan (some p) t x

/-- A plan activation at the unit (R132): every PLAN request is withdrawn, the templates are posted, and
ownership and players are settled once. -/
def activationEvent (s : State) : Handed :=
  let q := s.breakin.queue
  let withdrawn := (q.filter (·.source = .plan)).map (doneNote · (some .plan))
  let x := postTemplates s s.plans.active 0 s.activePlan.templates
    ⟨q.filter (·.source ≠ .plan), s.breakin.accepted, withdrawn⟩
  settlement x.notes x.queue { s with breakin := { s.breakin with accepted := x.accepted } }

/-! ### Playback (R136) -/

/-- The page count of the clip at a clip index (counted from 1) of a request. -/
def clipPages (s : State) (r : BreakIn) : Nat :=
  ((r.clips[r.clipIndex - 1]?).map fun c => s.work.clips[c].pages).getD 0

/-- A request after the end of its page, or none when it has completed, with its repetitions done (R136). -/
def advance (s : State) (r : BreakIn) : BreakIn × Bool :=
  if r.page + 1 < clipPages s r then ({ r with page := r.page + 1, pageSince := s.now }, false)
  else if r.clipIndex < r.clips.length then
    ({ r with clipIndex := r.clipIndex + 1, page := 0, pageSince := s.now }, false)
  else
    let count := bump r.done
    if r.repeats = 0 ∨ count < r.repeats then
      ({ r with clipIndex := 1, page := 0, done := count, pageSince := s.now }, false)
    else ({ r with done := count }, true)

/-- What each position hears as the next page of a request begins: the members of its zones hear it (R137, R139). -/
def heardFrom (s : State) (r : BreakIn) : PerPosition (Option Nat) :=
  forPositions fun p =>
    if (s.zoneOfPosition p).any (· ∈ r.owned) then some r.acceptance else posGet s.breakin.heard p

/-- A page end at a player (R136). A free player has no page to end, and a player that has begun its page at this
moment, for a request the settlement has just given it, has none that ends now (R140, assumption 24). Where two page ends
each complete a request, and the settlement of the first completion takes the other's player, R140's second row has that
page end not happen and its fourth row has both complete: the model follows the second row, and the other request is back
at clip index 1, page 0, and completes when it has played whole again (DEDUCED, assumption 32). -/
def pageEnded (p : PlayerNo) (s : State) : Handed :=
  match s.breakin.queue.find? (·.player = some p) with
  | none => (s, [])
  | some r =>
    if justBegun s (some r.pageSince) then (s, [])
    else
      let (next, completed) := advance s r
      if completed then settlement [doneNote next none] (s.breakin.queue.filter (·.id ≠ r.id)) s
      else
        ({ s with breakin := { s.breakin with
            queue := s.breakin.queue.map fun x => if x.id = r.id then next else x
            heard := heardFrom s r } }, [])

/-! ### Requests of the BROADCAST group (R131, R133, R142) -/

/-- The template that the fields of a break-in post spell, with its zones as a set (R131), or the outcome of
checks 1 and 2. -/
def templateOf (a : BreakInArgs) : Except Answer Template :=
  match allOf zoneOf a.zones, allOf clipOf a.clips with
  | some zones, some clips =>
    if zones.isEmpty ∨ clips.isEmpty ∨ 8 < clips.length ∨ a.priority < 1 ∨ 7 < a.priority ∨ 15 < a.repeats
    then .error .badValue
    else .ok ⟨asSet zones, clips, a.priority.toNat, a.repeats⟩
  | _, _ => .error .badId

/-- BREAKIN POST (R131). -/
def breakinPost (port : MgmtPort) (a : BreakInArgs) (s : State) : Result :=
  match templateOf a with
  | .error e => refuse s e
  | .ok t =>
    if !clipsReady s t.clips then refuse s .notReady
    else if !hasRoom s.breakin.queue t.priority then refuse s .queueFull
    else
      let source : BreakInSource := match port with
        | .control => .controlPort
        | .console => .consolePort
      let evicted := evictedBy s.breakin.queue
      let x := acceptBreakIn source none t ⟨s.breakin.queue, s.breakin.accepted, []⟩
      let id := freshId (if evicted.isSome then s.breakin.queue.dropLast else s.breakin.queue)
      let y := settlement x.notes x.queue { s with breakin := { s.breakin with accepted := x.accepted } }
      let state := ((y.1.breakin.queue.find? (·.id = id)).map BreakIn.state).getD .waiting
      done .accepted ([.ident id, .named state.ctorIdx] ++ optField (fun e => .ident e.id) evicted) y

/-- BREAKIN WITHDRAW (R133). -/
def breakinWithdraw (authority : Authority) (id : Nat) (s : State) : Result :=
  if id < 1 ∨ 255 < id then refuse s .badId
  else
    match s.breakin.queue.find? (·.id = id) with
    | none => refuse s .wrongState
    | some r =>
      if r.source = .plan ∧ ¬ Authority.atLeast authority .incident then refuse s .authority
      else done .accepted [] (settlement [doneNote r (some .request)] (s.breakin.queue.filter (·.id ≠ id)) s)

/-- Every field of a queued request, in the order of R130. The acceptance number, which R130 does not bound, is sent as a
count of two bytes, so that what is sent wraps after 65535: the model's choice (DESIGN CHOICE, assumption 13). -/
def breakInFields (r : BreakIn) : List Field :=
  List.flatten [[.ident r.id, .named r.source.ctorIdx], optField fromZero r.plan, listField fromOne r.zones,
    listField fromOne r.clips, [.quantity r.priority, .count r.repeats, .ident r.clipIndex, .count r.page,
    .count r.done, .named r.state.ctorIdx], optField fromOne r.player, listField fromOne r.owned,
    [.count r.acceptance]]

/-- The zone fields of BREAKIN LIST: the owner's id or none, and whether the zone carries (R142). -/
def zoneFields (s : State) (z : ZoneNo) : List Field :=
  optField (fun r => .ident r.id) (zoneOwner s.breakin.queue z) ++ [.flag s.breakin.carrying[z]]

/-- The player fields of BREAKIN LIST: the request held or free, and the seconds of the current page (R142). -/
def playerFields (s : State) (p : PlayerNo) : List Field :=
  match s.breakin.queue.find? (·.player = some p) with
  | some r => [.present true, .ident r.id, .quantity (elapsed s r.pageSince / 1000)]
  | none => [.present false]

/-- BREAKIN LIST (R142). -/
def breakinList (s : State) : Result :=
  answered s (List.flatten [[.entries s.breakin.queue.length], s.breakin.queue.flatMap breakInFields,
    (List.finRange 8).flatMap (zoneFields s), (List.finRange 4).flatMap (playerFields s)])

end Sys2Proof.Machine
end

