-- ==== Sys2Proof/Machine/Ring.lean ====
section
/-! DEFINITION. Ring feeding and protection (chapter 3): hop states, reachability, the decision of unit
states, wait-to-restore, FEED_CHANGE, and what a feed change hands on. -/

namespace Sys2Proof.Machine

open Sys2Proof

/-! ### Presence, verdict, hops (R32, R45 to R48) -/

/-- Position `i` of a ring, counted from 1. -/
def positionAt (r : Ring) (i : Nat) : Option Position := (identOf 12 1 i).map (⟨r, ·⟩)

/-- A unit is present when its beacon status is PRESENT (R45). -/
def State.present (s : State) (p : Position) : Bool := (posGet s.beacons p).status = some .present

/-- Identity-mismatched: an expected identity is recorded and the last beacon's differs from it (R32). -/
def State.mismatched (s : State) (p : Position) : Bool :=
  match (s.unit p).identity, (posGet s.beacons p).identity with
  | some expected, some reported => expected != reported
  | _, _ => false

/-- A unit is passable when it is commissioned, present and identity-accepted (R49). -/
def State.passable (s : State) (p : Position) : Bool :=
  (s.unit p).commissioned && s.present p && !s.mismatched p

/-- The hop state a span port hands to the Ring Feed Controller (R20). -/
def PortState.hop : PortState → HopState
  | .up g _ => some g
  | _ => none

/-- The last reported hop state of a present unit toward port A (`up`) or toward port B; DOWN without a
report (R47). -/
def State.report (s : State) (p : Position) (up : Bool) : HopState :=
  match (posGet s.beacons p).reports with
  | some (upstream, downstream) => if up then upstream else downstream
  | none => none

/-- A terminal hop: the port's hop state while the unit at its other end is present (R46). -/
def terminalHop (s : State) (port : SpanPort) (p : Option Position) : HopState :=
  match p with
  | some p => if s.present p then (s.spans.get port).state.hop else none
  | none => none

/-- An inner hop: the lower of the two reports while both units are present (R47). -/
def innerHop (s : State) (p q : Option Position) : HopState :=
  match p, q with
  | some p, some q => if s.present p && s.present q then hopMin (s.report p false) (s.report q true) else none
  | _, _ => none

/-- Hop i of a ring of n units (R45 to R47). -/
def formHop (s : State) (r : Ring) (n i : Nat) : HopState :=
  if i = 1 then terminalHop s ⟨r, .a⟩ (positionAt r 1)
  else if i = n + 1 then terminalHop s ⟨r, .b⟩ (positionAt r n)
  else innerHop s (positionAt r (i - 1)) (positionAt r i)

/-- The hop list of a ring, hops 1 to n+1, formed afresh (R45 to R48). -/
def formHops (s : State) (r : Ring) : List HopState :=
  (List.range (s.ringLength r + 1)).map fun j => formHop s r (s.ringLength r) (j + 1)

/-! ### Reachability (R49) -/

/-- Hop i of a hop list is up. -/
def hopUp (hops : List HopState) (i : Nat) : Bool := (hops.getD (i - 1) none).isSome

/-- Unit i of a ring is passable. -/
def passableAt (s : State) (r : Ring) (i : Nat) : Bool := (positionAt r i).any s.passable

/-- Position k is reachable from A: hops 1 to k are up and units 1 to k passable (R49). -/
def reachableA (s : State) (r : Ring) (hops : List HopState) (u : UnitNo) : Bool :=
  decide (u.val < s.ringLength r) &&
    (List.range (u.val + 1)).all fun j => hopUp hops (j + 1) && passableAt s r (j + 1)

/-- Position k is reachable from B: hops k+1 to n+1 are up and units k to n passable (R49). -/
def reachableB (s : State) (r : Ring) (hops : List HopState) (u : UnitNo) : Bool :=
  decide (u.val < s.ringLength r) &&
    (List.range (s.ringLength r)).all fun j =>
      decide (j < u.val) || (hopUp hops (j + 2) && passableAt s r (j + 1))

/-! ### Unit states (R50, R51) -/

/-- The state of a commissioned unit that is not identity-mismatched, from its reachability, its state
before, and whether a lower unit of the ring is FED_B (R51). -/
def decideUnit (old : UnitState) (a b lowerB : Bool) : UnitState :=
  match a, b with
  | false, false => .unreachable
  | false, true => .fedB
  | true, b =>
    match old with
    | .fedA => .fedA
    | .fedB => if b then .fedB else .fedA
    | .unreachable | .mismatch | .absent => if lowerB then .fedB else .fedA

/-- A unit's state decided afresh (R50, R51). -/
def judgeUnit (s : State) (r : Ring) (a b : Vector Bool 12) (u : UnitNo) (old : UnitState) (lowerB : Bool) :
    UnitState :=
  if (s.unit ⟨r, u⟩).commissioned then
    if s.mismatched ⟨r, u⟩ then .mismatch else decideUnit old a[u] b[u] lowerB
  else .absent

/-- The units of `which` decided afresh in ascending order, the others kept (R49, R51). -/
def judgeUnits (s : State) (r : Ring) (a b : Vector Bool 12) (which : UnitNo → Bool)
    (old : Vector UnitState 12) : Vector UnitState 12 :=
  (List.finRange 12).foldl (fun units u =>
    if which u then
      units.set u (judgeUnit s r a b u units[u]
        ((List.finRange 12).any fun v => decide (v.val < u.val) && units[v] = .fedB))
    else units) old

/-! ### FEED_CHANGE (R52) -/

/-- Causes of FEED_CHANGE, in the order of R52. -/
inductive FeedCause where
  | hop | unit | model | restore | revert
  deriving DecidableEq, Repr

/-- The groups of a recomputation: runs of consecutive units that entered the same new state, each as its
lowest unit, the state and the number of units (R52). Their records are posted by ascending position, the order in which R51
decides the units; of the records' own order the manual does not speak (DEDUCED, assumption 17). -/
def feedGroups (old new : Vector UnitState 12) : List (UnitNo × UnitState × Nat) :=
  (List.finRange 12).foldl (fun groups u =>
    if old[u] = new[u] then groups
    else match groups.getLast? with
      | some (first, state, n) =>
        if state = new[u] ∧ first.val + n = u.val then groups.dropLast ++ [(first, state, n + 1)]
        else groups ++ [(u, new[u], 1)]
      | none => [(u, new[u], 1)]) []

/-- Severity of a FEED_CHANGE (R52). -/
def feedSeverity (state : UnitState) (cause : FeedCause) : Severity :=
  match state with
  | .fedA | .absent => .notice
  | .fedB => .warning
  | .unreachable | .mismatch => if cause = .model then .notice else .alarm

/-- FEED_CHANGE for a group: the new state, the number of units, the cause (R52). R174 numbers a detail in the order in which
its posting rule lists the values, R164 in that of the defining rule; R52 names the states in its table of severities alone,
FED_A first, and R44 defines them, ABSENT first. That the new state has R44's number, as in RING STATUS, so that FED_A is 1,
is the model's choice (DESIGN CHOICE, assumption 33). -/
def feedNote (r : Ring) (cause : FeedCause) (g : UnitNo × UnitState × Nat) : Note where
  kind := .feedChange
  severity := feedSeverity g.2.1 cause
  subject := .position ⟨r, g.1⟩
  detail := [.named g.2.1.ctorIdx, .count g.2.2, .named cause.ctorIdx]

/-! ### What a feed change hands on (R53) -/

/-- A pending invalid mark on the next output block of a port that is UP (R36). -/
def Span.marked (x : Span) : Span :=
  match x.state with
  | .up _ _ => { x with buffer := { x.buffer with mark := true } }
  | _ => x

/-- The ports of the paths whose membership changed take their mark (R36, R53). -/
def markPort (old new : RingRec) (s : State) (p : SpanPort) : State :=
  if old.members p.side = new.members p.side then s else s.setSpan p (s.spans.get p).marked

/-- The units that joined a path. -/
def joinedUnits (old new : RingRec) (side : Side) : List UnitNo :=
  (new.members side).filter (· ∉ old.members side)

/-- The event at a path's Carriage Planner: FEED when its membership changed, CAPACITY when its capacity
alone did (R83). -/
def pathHands (r : Ring) (old new : RingRec) (side : Side) : List HandOver :=
  if old.members side ≠ new.members side then [.planner ⟨r, side⟩ .feed (joinedUnits old new side)]
  else if (old.pathCapacity side).map (·.1) ≠ (new.pathCapacity side).map (·.1) then
    [.planner ⟨r, side⟩ .capacity []]
  else []

/-- The events at the allocation records of the units whose state changed without joining a path; those
that joined one have theirs when the path's planner has placed its carriers (R53). -/
def unitHands (r : Ring) (old new : RingRec) : List HandOver :=
  ((List.finRange 12).filter fun u => old.units[u] != new.units[u] && new.units[u].side.isNone).map fun u =>
    .alloc ⟨r, u⟩ .feed

/-- Whether a unit entered or left FED_A or FED_B. -/
def fedChanged (old new : RingRec) : Bool :=
  (List.finRange 12).any fun u => old.units[u].side.isSome != new.units[u].side.isSome

/-- A new ring topology record takes the old one's place, FEED_CHANGE is posted, and the change is handed
on (R52, R53). -/
def applyRing (r : Ring) (cause : FeedCause) (new : RingRec) (s : State) : Handed :=
  let old := s.rings.get r
  let s1 := (s.setRing r new).postAll ((feedGroups old.units new.units).map (feedNote r cause))
  let s2 := markPort old new (markPort old new s1 ⟨r, .a⟩) ⟨r, .b⟩
  (s2, pathHands r old new .a ++ pathHands r old new .b ++ unitHands r old new
    ++ (if fedChanged old new then votersOfRing s2 r else []))

/-! ### Recomputation and wait-to-restore (R49, R56 to R58) -/

/-- Whether unit u is a waiting unit: FED_B and reachable from A (R56). -/
def waiting (units : Vector UnitState 12) (a : Vector Bool 12) (u : UnitNo) : Bool :=
  units[u] = .fedB && a[u]

/-- The wait-to-restore timer after a recomputation (R56). -/
def restoreTimer (now : Nat) (units : Vector UnitState 12) (a : Vector Bool 12) (old : Option Nat) : Option Nat :=
  if (List.finRange 12).any (waiting units a) then some (old.getD now) else none

/-- The record a recomputation forms; `judged` are the units whose verdict changed in the event (R49). -/
def recomputeRing (s : State) (r : Ring) (judged : List UnitNo) : RingRec :=
  let old := s.rings.get r
  let hops := formHops s r
  let a : Vector Bool 12 := tabulate (reachableA s r hops)
  let b : Vector Bool 12 := tabulate (reachableB s r hops)
  let resized := (List.finRange 12).any fun u => (old.units[u] = .absent) == (s.unit ⟨r, u⟩).commissioned
  let all := resized || decide (a ≠ old.reachA) || decide (b ≠ old.reachB)
  let units := judgeUnits s r a b (fun u => all || decide (u ∈ judged)) old.units
  ⟨hops, units, a, b, restoreTimer s.now units a old.timer⟩

/-- An event at the Ring Feed Controller that changes one of its inputs (R49). -/
def feedEvent (r : Ring) (cause : FeedCause) (judged : List UnitNo) (s : State) : Handed :=
  applyRing r cause (recomputeRing s r judged) s

/-- The timer stops and every waiting unit becomes FED_A together (R57, R59). A stopped timer neither
expires nor can be reverted. -/
def restoreEvent (r : Ring) (cause : FeedCause) (s : State) : Handed :=
  let old := s.rings.get r
  match old.timer with
  | none => (s, [])
  | some _ =>
    applyRing r cause
      { old with
        timer := none
        units := tabulate fun u => if waiting old.units old.reachA u then .fedA else old.units[u] } s

/-- A changed wait-to-restore time acts on a running timer at once: it expires when its elapsed time has
reached the new time (R58). -/
def restoreTimeChanged (r : Ring) (s : State) : Handed :=
  match (s.rings.get r).timer with
  | some since =>
    if (s.work.rings.get r).restore * 1000 ≤ elapsed s since then restoreEvent r .restore s else (s, [])
  | none => (s, [])

/-! ### Flags and requests (R59 to R61) -/

/-- FEED_DEGRADED (R60). -/
def State.feedDegraded (s : State) : Bool :=
  allPositions.any fun p =>
    match s.unitState p with
    | .fedB | .unreachable | .mismatch => true
    | .fedA | .absent => false

/-- RING REVERT (R59). -/
def ringRevert (ring : Nat) (s : State) : Result :=
  match ringOf ring with
  | none => refuse s .badId
  | some r =>
    if (s.rings.get r).timer.isNone then refuse s .wrongState
    else done .accepted [] (restoreEvent r .revert s)

/-- A hop state as a field: 0 DOWN, or the grade. -/
def hopField (h : HopState) : Field := .named (hopNumber h)

/-- The source of hop i: the port for a terminal hop, the two reporting positions for an inner hop (R61). The named
value before them that tells the two apart, 0 or 1, is the model's choice (DESIGN CHOICE, assumption 13). -/
def hopSource (r : Ring) (n i : Nat) : List Field :=
  let unit (j : Nat) : Field := match positionAt r j with
    | some p => .position p
    | none => .ident 0
  if i = 1 then [.named 0, .span ⟨r, .a⟩]
  else if i = n + 1 then [.named 0, .span ⟨r, .b⟩]
  else [.named 1, unit (i - 1), unit i]

/-- A path in RING STATUS: first and last position and the capacity with the hop that sets it, or empty (R61). One presence
byte stands for them all, 0 for an empty path: the model's choice (DESIGN CHOICE, assumption 13). -/
def pathStatus (r : Ring) (x : RingRec) (side : Side) : List Field :=
  match (x.members side).head?, (x.members side).getLast?, x.pathCapacity side with
  | some first, some last, some (slots, hop) =>
    [.present true, .position ⟨r, first⟩, .position ⟨r, last⟩, .count slots, .ident hop]
  | _, _, _ => [.present false]

/-- A position in RING STATUS (R61). A position that is not commissioned has no beacon status (R31), so the status is sent
as an optional field, behind a presence byte at every position: the model's choice (DESIGN CHOICE, assumption 13). -/
def ringUnitFields (s : State) (r : Ring) (x : RingRec) (u : UnitNo) : List Field :=
  let b := posGet s.beacons ⟨r, u⟩
  List.flatten [[.named x.units[u].ctorIdx], optField (fun (st : BeaconStatus) => .named st.ctorIdx) b.status,
    [.flag x.reachA[u], .flag x.reachB[u], .named b.amplifier.ctorIdx]]

/-- The wait-to-restore timer in RING STATUS: seconds remaining while it runs, and the ring's time (R61). The seconds are
sent behind RUNNING without a presence byte, since the value before them says whether they stand, and not at all behind
STOPPED: the model's choice (DESIGN CHOICE, assumption 13). -/
def restoreFields (s : State) (r : Ring) (timer : Option Nat) : List Field :=
  let time := (s.work.rings.get r).restore
  (match timer with
    | none => [.named 0]
    | some since => [.named 1, .quantity (time - elapsed s since / 1000 : Int)]) ++ [.quantity time]

/-- The ring topology record in RING STATUS (R61). That the ring length is sent as an identifier of one byte is the
model's choice (DESIGN CHOICE, assumption 13). -/
def ringFields (s : State) (r : Ring) : List Field :=
  let x := s.rings.get r
  let n := x.hops.length - 1
  List.flatten [[.ident n, .entries x.hops.length],
    (List.range x.hops.length).flatMap (fun j => hopField (x.hops.getD j none) :: hopSource r n (j + 1)),
    (List.finRange 12).flatMap (ringUnitFields s r x),
    pathStatus r x .a, pathStatus r x .b,
    [.named (if (x.members .b).isEmpty then 0 else 1)], restoreFields s r x.timer]

/-- RING STATUS (R61): a ring, or 0 for both. -/
def ringStatus (ring : Nat) (s : State) : Result :=
  if ring = 0 then answered s (ringFields s .n ++ ringFields s .s)
  else match ringOf ring with
    | none => refuse s .badId
    | some r => answered s (ringFields s r)

end Sys2Proof.Machine
end

