-- ==== Sys2Proof/Machine/Span.lean ====
section
/-! DEFINITION. Span ports (chapter 2): negotiation, beacons, the uplink elasticity buffer, the span test, and
the requests of the SPAN group. -/

namespace Sys2Proof.Machine

open Sys2Proof

/-! ### Settings of a port (R21) -/

/-- The advertised grade set of a side's port in the ring settings record (R21). -/
def RingSettings.grades (x : RingSettings) : Side → GradeSet
  | .a => x.gradesA
  | .b => x.gradesB

/-- The elasticity threshold of a side's port in the ring settings record (R21). -/
def RingSettings.threshold (x : RingSettings) : Side → Nat
  | .a => x.thresholdA
  | .b => x.thresholdB

/-- The ring settings record with a side's grade set and threshold replaced (R21). -/
def RingSettings.withPort (x : RingSettings) (side : Side) (g : GradeSet) (t : Nat) : RingSettings :=
  match side with
  | .a => { x with gradesA := g, thresholdA := t }
  | .b => { x with gradesB := g, thresholdB := t }

/-- The ring settings record of a port's ring, in working form. -/
def State.settings (s : State) (p : SpanPort) : RingSettings := s.work.rings.get p.ring

/-- Whether a port is in UP. -/
def Span.isUp (x : Span) : Bool :=
  match x.state with
  | .up _ _ => true
  | _ => false

/-! ### Entering and leaving the states of a port (R23 to R27) -/

/-- The buffer emptied, its slip count kept (R34, R36); `mark` is the pending invalid mark. -/
def Buffer.emptied (b : Buffer) (mark : Bool) : Buffer := { Buffer.start with slips := b.slips, mark := mark }

/-- A port in BREAK with a full break timer from `now` (R23). -/
def Span.toBreak (x : Span) (now : Nat) : Span :=
  { x with state := .breaking, timer := some now, test := none }

/-- A port in DISABLED (R29). -/
def Span.toDisabled (x : Span) : Span := { x with state := .disabled, timer := none, test := none }

/-- A port entering ADVERTISE with a grade set (R24). -/
def Span.toAdvertise (x : Span) (now : Nat) (g : GradeSet) : Span :=
  { x with
    state := .advertise
    timer := some now
    advertising := g
    ownAck := false
    heardAck := false
    seen1 := false
    seen2 := false
    partner := .none }

/-- Causes of PORT_DOWN, in the order of R27. -/
inductive DownCause where
  | lossOfSignal | partnerRestart | renegotiate | disabled | test
  deriving DecidableEq, Repr

/-- PORT_DOWN (R27, R42): a NOTICE when it follows a request, a WARNING otherwise. -/
def portDownNote (p : SpanPort) (cause : DownCause) : Note where
  kind := .portDown
  severity := match cause with
    | .lossOfSignal | .partnerRestart => .warning
    | .renegotiate | .disabled | .test => .notice
  subject := .span p
  detail := [.named cause.ctorIdx]

/-- PORT_UP (R25, R42). -/
def portUpNote (p : SpanPort) (g : Grade) (m : LinkMode) : Note :=
  ⟨.portUp, .notice, .span p, [.ident (Grade.number g), .named m.ctorIdx]⟩

/-- A port leaves UP: its buffer is emptied, `next` gives its new state, PORT_DOWN is posted, and the hop
state DOWN is an event at the Ring Feed Controller (R20, R27). -/
def leaveUp (p : SpanPort) (cause : DownCause) (next : Span → Span) (s : State) : Handed :=
  let x := s.spans.get p
  let s1 := s.setSpan p (next { x with buffer := x.buffer.emptied false })
  feedEvent p.ring .hop [] (s1.post (portDownNote p cause))

/-- A port enters UP (R25, R26, R34): no failed attempts, latch clear, an empty filling buffer with a pending
invalid mark; PORT_UP is posted and the hop state is an event at the Ring Feed Controller. -/
def enterUp (p : SpanPort) (g : Grade) (m : LinkMode) (partner : Partner) (s : State) : Handed :=
  let x := s.spans.get p
  let y := { x with
    state := .up g m
    timer := none
    partner := partner
    failed := 0
    latch := none
    buffer := x.buffer.emptied true }
  feedEvent p.ring .hop [] ((s.setSpan p y).post (portUpNote p g m))

/-- A field list for a set of grades. -/
def gradesField (g : GradeSet) : List Field := listField (fun x => .ident (Grade.number x)) (GradeSet.toList g)

/-- An ADVERTISE period that ends in BREAK: one more failed attempt, and a fault of the kind not yet in the
latch is posted and recorded (R25, R26). -/
def failAttempt (p : SpanPort) (fault : Option (LinkFault × List Field)) (s : State) : Handed :=
  let x := s.spans.get p
  let y := { x.toBreak s.now with failed := bump x.failed }
  match fault with
  | none => (s.setSpan p y, [])
  | some (kind, detail) =>
    if x.latch = some kind then (s.setSpan p y, [])
    else
      ((s.setSpan p { y with latch := some kind }).post
        ⟨match kind with
          | .negotiation => .negotiationFault
          | .parallel => .parallelFault, .warning, .span p, detail⟩, [])

/-! ### Negotiation (R23 to R27) -/

/-- The break timer expires: ADVERTISE with the set of the ring settings record (R23, R24). -/
def breakEnded (p : SpanPort) (s : State) : State :=
  let x := s.spans.get p
  match x.state with
  | .breaking => s.setSpan p (x.toAdvertise s.now ((s.settings p).grades p.side))
  | _ => s

/-- Resolution (R25). NEGOTIATION_FAULT names the partner's set as a counted list of grades; that nothing tells it
from the one grade of `parallelUp` is the model's choice (DESIGN CHOICE, assumption 13). -/
def resolve (p : SpanPort) (theirs : GradeSet) (identity : Nat) (s : State) : Handed :=
  match GradeSet.highest (GradeSet.inter (s.spans.get p).advertising theirs) with
  | some g => enterUp p g .negotiated (.advertised theirs identity) s
  | none => failAttempt p (some (.negotiation, gradesField theirs)) s

/-- An advertisement arrives (R24, R25, R27). -/
def advertised (p : SpanPort) (theirs : GradeSet) (ack : Bool) (identity : Nat) (s : State) : Handed :=
  let x := s.spans.get p
  match x.state with
  | .up _ _ => leaveUp p .partnerRestart (Span.toBreak · s.now) s
  | .advertise =>
    let y := { x with
      partner := .advertised theirs identity
      ownAck := true
      heardAck := x.heardAck || ack
      seen1 := false
      seen2 := false }
    if y.heardAck then resolve p theirs identity (s.setSpan p y) else (s.setSpan p y, [])
  | _ => (s, [])

/-- A fixed idle pattern arrives (R24, R26, R27). -/
def patternSeen (p : SpanPort) (pattern : IdlePattern) (s : State) : Handed :=
  let x := s.spans.get p
  match x.state with
  | .up g m =>
    if m = .parallel ∧ g = patternGrade pattern then (s, [])
    else leaveUp p .partnerRestart (Span.toBreak · s.now) s
  | .advertise =>
    match x.partner with
    | .advertised _ _ => (s, [])
    | _ => match pattern with
      | .grade1 => (s.setSpan p { x with seen1 := true }, [])
      | .grade2 => (s.setSpan p { x with seen2 := true }, [])
  | _ => (s, [])

/-- One pattern was seen: UP in mode PARALLEL when its grade is advertised, a fault otherwise (R26). The fault's detail is
the pattern's grade as one byte, with no mark before it (DESIGN CHOICE, assumption 13). -/
def parallelUp (p : SpanPort) (pattern : IdlePattern) (s : State) : Handed :=
  if GradeSet.has (s.spans.get p).advertising (patternGrade pattern) then
    enterUp p (patternGrade pattern) .parallel (.notNegotiating pattern) s
  else failAttempt p (some (.negotiation, [.ident (Grade.number (patternGrade pattern))])) s

/-- The advertise timer expires (R26). -/
def advertiseEnded (p : SpanPort) (s : State) : Handed :=
  let x := s.spans.get p
  match x.state with
  | .advertise =>
    match x.partner with
    | .advertised _ _ => failAttempt p none s
    | _ =>
      match x.seen1, x.seen2 with
      | true, true => failAttempt p (some (.parallel, [])) s
      | true, false => parallelUp p .grade1 s
      | false, true => parallelUp p .grade2 s
      | false, false => failAttempt p none s
  | _ => (s, [])

/-! ### The span test (R38 to R40) -/

/-- A test ends (R40): the result is stored, TEST_DONE posted, and `next` gives the port's state. -/
def endTest (p : SpanPort) (t : SpanTest) (ending : TestEnding) (next : Span → Span) (s : State) : State :=
  let errors := if ending = .noLock then 65535 else t.errors
  let pass := ending != .noLock && ending != .lineLoss && errors == 0
  let seconds := if ending = .duration then t.duration else elapsed s t.since / 1000
  let result : TestResult := ⟨pass, errors, t.pattern, t.loop, seconds, ending⟩
  (s.setSpan p { next (s.spans.get p) with test := none, lastTest := some result }).post
    ⟨.testDone, if pass then .notice else .warning, .span p,
      [.named (if pass then 0 else 1), .count errors, .named ending.ctorIdx]⟩

/-- The test a port in TEST runs. -/
def Span.running (x : Span) : Option SpanTest :=
  match x.state with
  | .test => x.test
  | _ => none

/-- A test ends with BREAK (R40), when its port is in TEST and `p` holds of it. -/
def stopTest (p : SpanPort) (ending : TestEnding) (cond : SpanTest → Bool) (s : State) : State :=
  match (s.spans.get p).running with
  | some t => if cond t then endTest p t ending (Span.toBreak · s.now) s else s
  | none => s

/-- The checker gains lock (R39). -/
def testLocked (p : SpanPort) (s : State) : State :=
  let x := s.spans.get p
  match x.running with
  | some t => s.setSpan p { x with test := some { t with locked := true } }
  | none => s

/-- A returned bit differs from the pattern once the checker has locked (R39). -/
def testError (p : SpanPort) (s : State) : State :=
  let x := s.spans.get p
  match x.running with
  | some t =>
    if t.locked then s.setSpan p { x with test := some { t with errors := bump t.errors } } else s
  | none => s

/-- Loss of signal is declared (R22, R27, R39). -/
def signalLost (p : SpanPort) (s : State) : Handed :=
  let s1 := s.setSpan p { s.spans.get p with lossOfSignal := true }
  match (s.spans.get p).state with
  | .up _ _ => leaveUp p .lossOfSignal (Span.toBreak · s.now) s1
  | .test => (stopTest p .lineLoss (fun t => t.loop = .far) s1, [])
  | _ => (s1, [])

/-- A line signal is seen again (R22). -/
def signalSeen (p : SpanPort) (s : State) : State :=
  s.setSpan p { s.spans.get p with lossOfSignal := false }

/-! ### Beacons (R30 to R33) -/

/-- The position a beacon arriving at a port names, when it is of the port's ring and commissioned (R30). -/
def beaconPosition (s : State) (p : SpanPort) (b : Beacon) : Option Position :=
  if b.ring = p.ring then (positionAt b.ring b.number).filter fun q => (s.unit q).commissioned else none

/-- The records a beacon posts: RU_FOUND, RU_MISMATCH, RU_PA_FAULT (R31 to R33). -/
def mismatchNote (q : Position) (mismatched : Bool) (identity : Nat) : Note :=
  if mismatched then ⟨.ruMismatch, .alarm, .position q, [.serial identity]⟩
  else ⟨.ruMismatch, .notice, .position q, [.named 0]⟩

/-- RU_PA_FAULT (R33, R42): FAULT or CLEARED. -/
def amplifierNote (q : Position) (a : Amplifier) : Note :=
  match a with
  | .fault => ⟨.ruPaFault, .alarm, .position q, [.named 0]⟩
  | .ok => ⟨.ruPaFault, .notice, .position q, [.named 1]⟩

/-- A beacon handed on for a commissioned position (R31 to R33): the stored values are replaced, the changes
posted, and each change of status, verdict, reports or amplifier is an event at the block it concerns. -/
def handBeacon (q : Position) (b : Beacon) (s : State) : Handed :=
  let old := posGet s.beacons q
  let new : BeaconRec := ⟨some .present, some s.now, some b.identity, some (b.upstream, b.downstream),
    b.amplifier, b.loopback⟩
  let s1 := s.setBeacon q new
  let judged := s.mismatched q != s1.mismatched q
  let found := old.status != some .present
  let s2 := s1.postAll <| List.flatten [
    (if old.status = some .lost then [⟨.ruFound, .notice, .position q, []⟩] else []),
    (if judged then [mismatchNote q (s1.mismatched q) b.identity] else []),
    (if old.amplifier ≠ b.amplifier then [amplifierNote q b.amplifier] else [])]
  let fed : Handed :=
    if found || judged || old.reports != new.reports then
      feedEvent q.ring (if found || judged then .unit else .hop) (if judged then [q.unit] else []) s2
    else (s2, [])
  (fed.1, fed.2 ++ (if old.amplifier ≠ b.amplifier then [.alloc q .amplifier] else []))

/-- A beacon copy arrives at a port (R30): taken in UP only; a stray one is counted. -/
def beaconArrived (p : SpanPort) (b : Beacon) (s : State) : Handed :=
  let x := s.spans.get p
  if x.isUp then
    match beaconPosition s p b with
    | some q => handBeacon q b s
    | none => (s.setSpan p { x with stray := bump x.stray }, [])
  else (s, [])

/-- The silence timer of a position expires (R31). One that a beacon has restarted at this moment does not: no RU_LOST
is posted (R31, assumption 24). -/
def silenceEnded (q : Position) (s : State) : Handed :=
  let b := posGet s.beacons q
  if b.status = some .present ∧ justBegun s b.silence = false then
    feedEvent q.ring .unit []
      ((s.setBeacon q { b with status := some .lost, silence := none }).post ⟨.ruLost, .alarm, .position q, []⟩)
  else (s, [])

/-! ### The elasticity buffer (R34 to R37) -/

/-- Milliseconds over which the slip record reaches back (R37). -/
def slipWindow : Nat := 10000

/-- A slip entered in a buffer's count and record (R35, R37). -/
def Buffer.slip (b : Buffer) (now : Nat) : Buffer :=
  { b with slips := bump b.slips, record := (b.record.filter fun t => now - t < slipWindow) ++ [now] }

/-- A slip at a port whose buffer has become `b`: SLIP_BURST on the eighth slip of the window while the burst
flag is clear (R37). -/
def slipAt (p : SpanPort) (b : Buffer) (s : State) : State :=
  let b := b.slip s.now
  if b.burst = false ∧ 8 ≤ b.record.length then
    (s.setSpan p { s.spans.get p with buffer := { b with burst := true } }).post
      ⟨.slipBurst, .warning, .span p, [.count b.slips]⟩
  else s.setSpan p { s.spans.get p with buffer := b }

/-- An uplink block arrives from the ring (R34, R35). -/
def blockArrived (p : SpanPort) (block : UplinkBlock) (s : State) : State :=
  let x := s.spans.get p
  let b := x.buffer
  if x.isUp then
    if b.running then
      if b.blocks.length < 8 then s.setSpan p { x with buffer := { b with blocks := b.blocks ++ [block] } }
      else slipAt p { b with blocks := b.blocks.drop 1 ++ [block], mark := true } s
    else
      let blocks := b.blocks ++ [block]
      let full := decide ((s.settings p).threshold p.side ≤ blocks.length)
      s.setSpan p { x with buffer := { b with blocks := blocks, running := full } }
  else s

/-- What a port outputs at a tick of the block schedule, and the state after it (R34, R35). -/
def portTick (p : SpanPort) (s : State) : State × Output :=
  let x := s.spans.get p
  let b := x.buffer
  if x.isUp then
    if b.running then
      match b.blocks with
      | block :: rest =>
        (s.setSpan p { x with buffer := { b with blocks := rest, mark := false } },
          if b.mark then .invalid else .valid block)
      | [] => (slipAt p { b with running := false } s, .invalid)
    else (s, .invalid)
  else (s, .nothing)

/-- A tick of the block schedule (R34, R110): every port in UP outputs one block, and each voter takes the
tick's outputs. -/
def blockTicked (s : State) : Handed :=
  let na := portTick ⟨.n, .a⟩ s
  let nb := portTick ⟨.n, .b⟩ na.1
  let sa := portTick ⟨.s, .a⟩ nb.1
  let sb := portTick ⟨.s, .b⟩ sa.1
  (sb.1, (List.finRange 4).map (.block · ⟨na.2, nb.2, sa.2, sb.2⟩))

/-- Ten seconds have passed with no slip: the burst flag is cleared (R37). -/
def burstCleared (p : SpanPort) (s : State) : State :=
  let x := s.spans.get p
  s.setSpan p { x with buffer := { x.buffer with record := [], burst := false } }

/-- The threshold of a port in UP has changed: the buffer starts again (R36). -/
def thresholdChanged (p : SpanPort) (s : State) : State :=
  let x := s.spans.get p
  if x.isUp then s.setSpan p { x with buffer := { x.buffer with blocks := [], running := false, mark := true } }
  else s

/-! ### Requests of the SPAN group -/

/-- PORT RENEGOTIATE (R28). -/
def portRenegotiate (port : Nat) (s : State) : Result :=
  match spanOf port with
  | none => refuse s .badId
  | some p =>
    let x := s.spans.get p
    match x.state with
    | .disabled | .test => refuse s .wrongState
    | .breaking | .advertise =>
      done .accepted [] (s.setSpan p { x.toBreak s.now with latch := none }, [])
    | .up _ _ =>
      done .accepted [] (leaveUp p .renegotiate (fun y => { y.toBreak s.now with latch := none }) s)

/-- PORT DISABLE (R29). -/
def portDisable (port : Nat) (s : State) : Result :=
  match spanOf port with
  | none => refuse s .badId
  | some p =>
    let x := s.spans.get p
    match x.state with
    | .disabled => done .accepted [] (s, [])
    | .breaking | .advertise => done .accepted [] (s.setSpan p x.toDisabled, [])
    | .up _ _ => done .accepted [] (leaveUp p .disabled Span.toDisabled s)
    | .test =>
      match x.test with
      | some t => done .accepted [] (endTest p t .disabled Span.toDisabled s, [])
      | none => done .accepted [] (s.setSpan p x.toDisabled, [])

/-- PORT ENABLE (R29). -/
def portEnable (port : Nat) (s : State) : Result :=
  match spanOf port with
  | none => refuse s .badId
  | some p =>
    let x := s.spans.get p
    match x.state with
    | .disabled => done .accepted [] (s.setSpan p { x.toBreak s.now with latch := none }, [])
    | _ => done .accepted [] (s, [])

/-- The settings record of a ring replaced in working form. -/
def State.setSettings (s : State) (r : Ring) (x : RingSettings) : State :=
  { s with work := { s.work with rings := s.work.rings.set r x } }

/-- The values in force that a PORT CONFIG reply carries (R21). -/
def settingsFields (x : RingSettings) (side : Side) : List Field :=
  gradesField (x.grades side) ++ [.quantity (x.threshold side), .quantity x.restore]

/-- PORT CONFIG (R21, R36, R58). -/
def portConfig (a : PortConfigArgs) (s : State) : Result :=
  match spanOf a.port with
  | none => refuse s .badId
  | some p =>
    if s.writing (.ring p.ring) then refuse s .busy
    else match allOf gradeOf a.grades with
      | none => refuse s .badValue
      | some grades =>
        if grades.isEmpty then refuse s .badValue
        else
          let old := s.settings p
          let threshold := clampNat 1 4 a.threshold
          let restore : Nat := (a.restore.map (clampNat 10 600)).getD old.restore
          let changed := (threshold : Int) != a.threshold || a.restore.any fun w => (restore : Int) != w
          let new := { old.withPort p.side (GradeSet.ofList grades) threshold with restore := restore }
          let s1 := s.setSettings p.ring new
          let s2 := if old.threshold p.side = threshold then s1 else thresholdChanged p s1
          written (.ring p.ring) (clampAnswer changed) (settingsFields new p.side)
            (if old.restore = restore then (s2, []) else restoreTimeChanged p.ring s2)

/-- Check 4 of R38: the ring's other end can feed every unit the test would take from its port. -/
def protectedFor (s : State) (p : SpanPort) : Bool :=
  let x := s.rings.get p.ring
  match p.side with
  | .a => (x.members .a).all fun u => x.reachB[u]
  | .b => (x.members .b).isEmpty

/-- Check 3 of R38: the port's state admits a test with a loop. -/
def testable (state : PortState) (l : Loop) : Bool :=
  match state, l with
  | .up _ _, _ => true
  | .breaking, .internal => true
  | .advertise, .internal => true
  | _, _ => false

/-- SPAN TEST START (R38). -/
def spanTestStart (a : SpanTestArgs) (s : State) : Result :=
  match spanOf a.port with
  | none => refuse s .badId
  | some p =>
    match patternOf a.pattern, loopOf a.loop with
    | some pattern, some l =>
      let x := s.spans.get p
      if !testable x.state l then refuse s .wrongState
      else if !protectedFor s p then refuse s .noProtection
      else
        let duration := clampNat 1 600 a.duration
        let enter (y : Span) : Span := { y with
          state := .test
          timer := none
          test := some ⟨pattern, l, duration, s.now, false, 0⟩
          lastTest := none }
        done (clampAnswer ((duration : Int) != a.duration)) []
          (if x.isUp then leaveUp p .test enter s else (s.setSpan p (enter x), []))
    | _, _ => refuse s .badValue

/-- SPAN TEST STOP (R40). -/
def spanTestStop (port : Nat) (s : State) : Result :=
  match spanOf port with
  | none => refuse s .badId
  | some p =>
    match (s.spans.get p).running with
    | none => refuse s .wrongState
    | some t => done .accepted [] (endTest p t .stopped (Span.toBreak · s.now) s, [])

/-- The partner of a port: the unit at the far end of its fibre (chapter 2). -/
def partnerOf (s : State) (p : SpanPort) : Option Position :=
  match p.side with
  | .a => positionAt p.ring 1
  | .b => positionAt p.ring (s.ringLength p.ring)

/-- The far loop is confirmed while the partner's last beacon shows its loopback flag in a FAR test (R39). -/
def loopConfirmed (s : State) (p : SpanPort) (t : SpanTest) : Bool :=
  t.loop = .far && (partnerOf s p).any fun q => (posGet s.beacons q).loopback

/-- State, grade and mode in PORT STATUS (R41). -/
def stateFields : PortState → List Field
  | .disabled => [.named 0, .present false]
  | .breaking => [.named 1, .present false]
  | .advertise => [.named 2, .present false]
  | .up g m => [.named 3, .present true, .ident (Grade.number g), .named m.ctorIdx]
  | .test => [.named 4, .present false]

/-- The partner in PORT STATUS (R41). A presence byte, and then a named value that tells the recorded set and identity,
0, from the not-negotiating mark with its grade, 1: the model's choice (DESIGN CHOICE, assumption 13). -/
def partnerFields : Partner → List Field
  | .none => [.present false]
  | .advertised g identity => List.flatten [[.present true, .named 0], gradesField g, [.serial identity]]
  | .notNegotiating pattern => [.present true, .named 1, .ident (Grade.number (patternGrade pattern))]

/-- The buffer in PORT STATUS (R41). -/
def bufferFields (x : Span) : List Field :=
  (if x.isUp then
    [.present true, .count x.buffer.blocks.length, .named (if x.buffer.running then 1 else 0),
      .flag x.buffer.burst]
  else [.present false]) ++ [.count x.buffer.slips]

/-- The running test in PORT STATUS (R41). -/
def testFields (s : State) (p : SpanPort) (x : Span) : List Field :=
  match x.running with
  | none => [.present false]
  | some t =>
    [.present true, .named t.pattern.ctorIdx, .named t.loop.ctorIdx,
      .quantity (t.duration - elapsed s t.since / 1000 : Int), .flag t.locked, .flag (loopConfirmed s p t),
      .count t.errors]

/-- The last test result in PORT STATUS (R40, R41). -/
def resultFields : Option TestResult → List Field
  | none => [.present false]
  | some t =>
    [.present true, .named (if t.pass then 0 else 1), .count t.errors, .named t.pattern.ctorIdx,
      .named t.loop.ctorIdx, .quantity t.seconds, .named t.ending.ctorIdx]

/-- The fault latch in PORT STATUS: NEGOTIATION_FAULT, PARALLEL_FAULT or none (R41). -/
def latchField : Option LinkFault → Field
  | some .negotiation => .named 0
  | some .parallel => .named 1
  | none => .named 2

/-- A port in PORT STATUS (R41). -/
def portFields (s : State) (p : SpanPort) : List Field :=
  let x := s.spans.get p
  List.flatten [stateFields x.state, settingsFields (s.settings p) p.side, partnerFields x.partner,
    [.count x.failed, latchField x.latch], bufferFields x, [.count x.stray], testFields s p x,
    resultFields x.lastTest, [.flag (s.writing (.ring p.ring))]]

/-- PORT STATUS (R41): a port, or 0 for all four. -/
def portStatus (port : Nat) (s : State) : Result :=
  if port = 0 then answered s (allSpans.flatMap (portFields s))
  else match spanOf port with
    | none => refuse s .badId
    | some p => answered s (portFields s p)

end Sys2Proof.Machine
end

