-- ==== Sys2Proof/Machine/Reference.lean ====
section
/-! DEFINITION. The Reference Clock Unit and the Emission Gate (chapter 4): sources, the reference states and
their transitions, holdover, change of settings, REF_STATE, and the requests of the REFERENCE group. -/

namespace Sys2Proof.Machine

open Sys2Proof

/-! ### Sources (R63) -/

/-- The presence monitor of a source. -/
def RefRec.monitor (r : RefRec) : Source → Presence
  | .refIn => r.refIn
  | .pilot => r.pilot

/-- The presence monitor of a source replaced. -/
def RefRec.setMonitor (r : RefRec) (src : Source) (p : Presence) : RefRec :=
  match src with
  | .refIn => { r with refIn := p }
  | .pilot => { r with pilot := p }

/-- The source the unit selects: the preferred one if PRESENT, else the alternate if PRESENT (R63). -/
def selectSource (preferred : Source) (r : RefRec) : Option Source :=
  if (r.monitor preferred).present then some preferred
  else if (r.monitor (Source.other preferred)).present then some (Source.other preferred)
  else none

/-- The preferred source, in working form (R64). -/
def State.preferred (s : State) : Source := s.work.reference.preferred

/-! ### Entering the reference states (R65 to R71) -/

/-- The record on entry into a state that has no source and no timer: every count 0. R65 gives the good count in ACQUIRE
and TRACK alone, and the bad count in TRACK and LOCKED; that each is 0 in the other states is the model's choice (DESIGN
CHOICE, assumption 29). -/
def RefRec.plain (r : RefRec) (state : RefState) : RefRec :=
  { r with
    state := state
    warmupSince := none
    selected := none
    held := none
    good := 0
    bad := 0
    heldSince := none
    forced := false
    switchSince := none
    intervalSince := none }

/-- Entry into ACQUIRE or TRACK with a source: a measurement interval starts (R65). -/
def RefRec.toMeasuring (r : RefRec) (state : RefState) (src : Source) (now : Nat) : RefRec :=
  { r.plain state with selected := some src, intervalSince := some now }

/-- Entry into HOLDOVER: the source it was locked to is held, the age is 0 (R71). -/
def RefRec.toHoldover (r : RefRec) (forced : Bool) (now : Nat) : RefRec :=
  { r.plain .holdover with held := r.selected, heldSince := some now, forced := forced }

/-- The switch timer of a LOCKED unit judged afresh (R70, R73): it runs while the selected source is the
alternate and the preferred one is PRESENT. -/
def RefRec.judgeSwitch (r : RefRec) (preferred : Source) (now : Nat) : RefRec :=
  if r.state = .locked ∧ r.selected = some (Source.other preferred) ∧ (r.monitor preferred).present then
    { r with switchSince := some (r.switchSince.getD now) }
  else { r with switchSince := none }

/-- Entry into LOCKED with the same source; measuring goes on (R69, R70). -/
def RefRec.toLocked (r : RefRec) (preferred : Source) (now : Nat) : RefRec :=
  { r.plain .locked with selected := r.selected, intervalSince := r.intervalSince }.judgeSwitch preferred now

/-! ### REF_STATE and the gate (R74, R75) -/

/-- Causes of REF_STATE, in the order of R75. -/
inductive RefCause where
  | warmupEnd | sourceAppeared | sourceLost | measure | switch | preference | forced | resumed
  | holdoverExpired
  deriving DecidableEq, Repr

/-- Severity of a REF_STATE, from the new state, the cause and whether the gate closed (R75). -/
def refSeverity (new : RefState) (cause : RefCause) (closed : Bool) : Severity :=
  match new with
  | .locked => .notice
  | .holdover => if cause = .forced then .notice else .warning
  | .acquire | .track => if closed then .warning else .notice
  | .free => .alarm
  | .warmup => .notice

/-- What became of the gate: opened 0, closed 1, stayed as it was 2 (R75). -/
def gateMove (old new : RefState) : Nat :=
  match old.gateOpen, new.gateOpen with
  | false, true => 0
  | true, false => 1
  | _, _ => 2

/-- REF_STATE (R75). R75 lists no states but in its table of severities, where LOCKED stands first and WARMUP is missing; that
the old and the new state have the numbers of R65, as in REF STATUS, is read from R164 and R174 (DEDUCED, assumption 33). -/
def refNote (old : RefState) (new : RefRec) (cause : RefCause) : Note where
  kind := .refState
  severity := refSeverity new.state cause (old.gateOpen && !new.state.gateOpen)
  subject := .none
  detail := List.flatten [[.named old.ctorIdx, .named new.state.ctorIdx],
    optField (fun (src : Source) => .named src.ctorIdx) (new.selected <|> new.held),
    [.named cause.ctorIdx, .named (gateMove old new.state)]]

/-- The unit enters a state: REF_STATE is posted, and a gate change is handed to every allocation record
(R74, R75). -/
def enterRef (new : RefRec) (cause : RefCause) (s : State) : Handed :=
  let old := s.reference.state
  (({ s with reference := new }).post (refNote old new cause),
    if old.gateOpen = new.state.gateOpen then [] else allocEverywhere .gate)

/-- A unit in FREE that finds a source PRESENT passes on to ACQUIRE with it (R67). -/
def passOnFree (s : State) : Handed :=
  match selectSource s.preferred s.reference with
  | some src => enterRef (s.reference.toMeasuring .acquire src s.now) .sourceAppeared s
  | none => (s, [])

/-- The unit enters FREE, and passes on when a source is PRESENT (R67). -/
def enterFree (cause : RefCause) (s : State) : Handed :=
  andThen (enterRef (s.reference.plain .free) cause s) passOnFree

/-- An unforced HOLDOVER that finds a source PRESENT passes on to TRACK with it (R71). -/
def passOnHoldover (cause : RefCause) (s : State) : Handed :=
  match selectSource s.preferred s.reference with
  | some src =>
    if s.reference.forced then (s, []) else enterRef (s.reference.toMeasuring .track src s.now) cause s
  | none => (s, [])

/-- The unit enters HOLDOVER (R71, R72). -/
def enterHoldover (forced : Bool) (cause : RefCause) (s : State) : Handed :=
  andThen (enterRef (s.reference.toHoldover forced s.now) cause s) (passOnHoldover .sourceAppeared)

/-! ### Events (R63, R66 to R71) -/

/-- A source's signal becomes valid or invalid (R63). -/
def sourceSignal (src : Source) (valid : Bool) (s : State) : State :=
  let m := s.reference.monitor src
  if m.valid = valid then s
  else { s with reference := s.reference.setMonitor src { m with valid := valid, since := s.now } }

/-- The warm-up ends (R66). -/
def warmupEnded (s : State) : Handed :=
  match s.reference.state with
  | .warmup =>
    match selectSource s.preferred s.reference with
    | some src => enterRef (s.reference.toMeasuring .acquire src s.now) .warmupEnd s
    | none => enterRef (s.reference.plain .free) .warmupEnd s
  | _ => (s, [])

/-- What a source that has become PRESENT does in the unit's state (R67 to R71). -/
def appeared (src : Source) (s : State) : Handed :=
  match s.reference.state with
  | .warmup => (s, [])
  | .free => passOnFree s
  | .acquire | .track =>
    if src = s.preferred ∧ s.reference.selected = some (Source.other src) then
      enterRef (s.reference.toMeasuring .acquire src s.now) .switch s
    else (s, [])
  | .locked => ({ s with reference := s.reference.judgeSwitch s.preferred s.now }, [])
  | .holdover => passOnHoldover .sourceAppeared s

/-- A source becomes PRESENT (R63): its signal has been valid for 2 s. A source that is PRESENT already
does not become so. -/
def sourceAppears (src : Source) (s : State) : Handed :=
  let s1 := sourceSignal src true s
  let m := s1.reference.monitor src
  if m.present then (s1, [])
  else appeared src { s1 with reference := s1.reference.setMonitor src { m with present := true } }

/-- What a source that has become ABSENT does in the unit's state (R68 to R70). -/
def vanished (src : Source) (s : State) : Handed :=
  match s.reference.state with
  | .warmup | .free | .holdover => (s, [])
  | .acquire | .track =>
    if s.reference.selected = some src then enterFree .sourceLost s else (s, [])
  | .locked =>
    if s.reference.selected = some src then enterHoldover false .sourceLost s
    else ({ s with reference := s.reference.judgeSwitch s.preferred s.now }, [])

/-- A source becomes ABSENT (R63): no valid signal for 100 ms. -/
def sourceVanishes (src : Source) (s : State) : Handed :=
  let s1 := sourceSignal src false s
  let m := s1.reference.monitor src
  if m.present then
    vanished src { s1 with reference := s1.reference.setMonitor src { m with present := false } }
  else (s1, [])

/-- Whether a measurement meets a bound (chapter 4). -/
def meets (e : Int) (bound : Nat) : Bool := e.natAbs ≤ bound

/-- A measurement interval ends with an offset (R65, R68 to R70). One that has started at this moment does not end
now: a loss of the source taken first leaves no measurement to make (R65, assumption 24). -/
def measured (e : Int) (s : State) : Handed :=
  if justBegun s s.reference.intervalSince then (s, []) else
  let r := { s.reference with lastOffset := some (clamp (-999999) 999999 e), intervalSince := some s.now }
  let keep (r : RefRec) : Handed := ({ s with reference := r }, [])
  match s.reference.state, s.reference.selected with
  | .acquire, some src =>
    if meets e 200 then
      if 4 ≤ r.good + 1 then enterRef (r.toMeasuring .track src s.now) .measure s
      else keep { r with good := r.good + 1 }
    else keep { r with good := 0 }
  | .track, some src =>
    if meets e 20 then
      if 16 ≤ r.good + 1 then enterRef (r.toLocked s.preferred s.now) .measure s
      else keep { r with good := r.good + 1, bad := 0 }
    else if meets e 200 then keep { r with good := 0, bad := 0 }
    else if 2 ≤ r.bad + 1 then enterRef (r.toMeasuring .acquire src s.now) .measure s
    else keep { r with good := 0, bad := r.bad + 1 }
  | .locked, some src =>
    if meets e 50 then keep { r with bad := 0 }
    else if 2 ≤ r.bad + 1 then enterRef (r.toMeasuring .track src s.now) .measure s
    else keep { r with bad := r.bad + 1 }
  | _, _ => (s, [])

/-- The switch timer reaches 60 s (R70). -/
def switchEnded (s : State) : Handed :=
  if s.reference.state = .locked ∧ s.reference.switchSince.isSome then
    enterRef (s.reference.toMeasuring .track s.preferred s.now) .switch s
  else (s, [])

/-- The holdover age reaches the limit (R71). -/
def holdoverEnded (s : State) : Handed :=
  if s.reference.state = .holdover then enterFree .holdoverExpired s else (s, [])

/-! ### Changed settings (R64, R73) -/

/-- A changed preferred source, by the unit's state (R73). -/
def preferenceChanged (s : State) : Handed :=
  match s.reference.state with
  | .warmup | .free | .holdover => (s, [])
  | .acquire | .track =>
    if s.reference.selected = some (Source.other s.preferred) ∧ (s.reference.monitor s.preferred).present then
      enterRef (s.reference.toMeasuring .acquire s.preferred s.now) .preference s
    else (s, [])
  | .locked => ({ s with reference := s.reference.judgeSwitch s.preferred s.now }, [])

/-- Milliseconds of an hour. -/
def hourMs : Nat := 3600000

/-- A changed holdover limit expires a running holdover whose age has reached it (R64). -/
def limitChanged (s : State) : Handed :=
  match s.reference.state, s.reference.heldSince with
  | .holdover, some since =>
    if s.work.reference.limit * hourMs ≤ elapsed s since then enterFree .holdoverExpired s else (s, [])
  | _, _ => (s, [])

/-- Changed reference settings act on the unit (R64, R73, R76). -/
def settingsEvent (preferred limit : Bool) (s : State) : Handed :=
  andThen (if preferred then preferenceChanged s else (s, []))
    (fun s => if limit then limitChanged s else (s, []))

/-! ### Requests of the REFERENCE group -/

/-- REF CONFIG (R64). -/
def refConfig (a : RefConfigArgs) (s : State) : Result :=
  match sourceOf a.preferred with
  | none => refuse s .badValue
  | some preferred =>
    if s.writing .reference then refuse s .busy
    else
      let limit := clampNat 1 48 a.limit
      let old := s.work.reference
      let s1 := { s with work := { s.work with reference := ⟨preferred, limit⟩ } }
      written .reference (clampAnswer ((limit : Int) != a.limit)) [.named preferred.ctorIdx, .quantity limit]
        (settingsEvent (old.preferred != preferred) (old.limit != limit) s1)

/-- REF FORCE HOLDOVER (R72). -/
def refForceHoldover (s : State) : Result :=
  if s.reference.state = .locked then done .accepted [] (enterHoldover true .forced s)
  else refuse s .wrongState

/-- REF RESUME (R72). -/
def refResume (s : State) : Result :=
  if s.reference.state = .holdover ∧ s.reference.forced then
    done .accepted []
      (passOnHoldover .resumed { s with reference := { s.reference with forced := false } })
  else refuse s .wrongState

/-- Presence as a named value: PRESENT 0, ABSENT 1 (R63). -/
def presenceField (p : Presence) : Field := .named (if p.present then 0 else 1)

/-- The gate as a named value: OPEN 0, CLOSED 1 (R91). -/
def gateField (g : Bool) : Field := .named (if g then 0 else 1)

/-- REF STATUS (R75). Both counts are sent in every state, without a presence byte, and are 0 where R65 gives none: the
model's choice (DESIGN CHOICE, assumption 29). So it is (DESIGN CHOICE, assumption 13) that the seconds elapsed of the switch
timer are a quantity sent behind RUNNING without a presence byte, since the value before them says whether they stand, and
not at all behind STOPPED. -/
def refStatus (s : State) : Result :=
  let r := s.reference
  let src (x : Source) : Field := .named x.ctorIdx
  let age := r.heldSince.map fun t => elapsed s t / 1000
  answered s (List.flatten [[.named r.state.ctorIdx],
    optField (fun (t : Nat) => .quantity (30 - elapsed s t / 1000 : Int)) r.warmupSince,
    optField src r.selected, optField src r.held, optField .wide r.lastOffset,
    [.count r.good, .count r.bad], optField (fun (n : Nat) => .wide n) age, [.flag r.forced],
    (match r.switchSince with
      | none => [.named 0]
      | some t => [.named 1, .quantity (elapsed s t / 1000)]),
    [presenceField r.refIn, presenceField r.pilot, gateField s.gateOpen, src s.preferred,
      .quantity s.work.reference.limit, .flag (s.writing .reference)],
    optField (fun (n : Nat) => .wide (s.work.reference.limit * 3600 - n : Int)) age])

end Sys2Proof.Machine
end

