-- ==== Sys2Proof/Machine/Model.lean ====
section
/-! DEFINITION. The requests of the MODEL group (chapter 1, R88, R105): Carrier Catalogue, Remote Unit Table,
Zone Table, and RU ALLOCATION. -/

namespace Sys2Proof.Machine

open Sys2Proof

/-! ### The Carrier Catalogue (R1 to R7) -/

/-- Kind and lane agree (R2). -/
def laneAgrees (kind : CarrierKind) (lane : Nat) : Bool :=
  match kind with
  | .mobile => lane == 1 || lane == 2
  | .broadcast => lane == 3
  | .rescue => lane == 4

/-- The rescue channel is present exactly for RESCUE, the programme exactly for BROADCAST (R1). -/
def presenceAgrees (kind : CarrierKind) (channel programme : Bool) : Bool :=
  match kind with
  | .mobile => !channel && !programme
  | .broadcast => !channel && programme
  | .rescue => channel && !programme

/-- How many records of a kind a Catalogue holds. -/
def kindCount (t : Vector (Option Carrier) 24) (k : CarrierKind) : Nat :=
  ((List.finRange 24).filter fun c => t[c].any (·.kind = k)).length

/-- The most records of a kind that R1 allows. -/
def kindLimit : CarrierKind → Nat
  | .mobile => 16
  | .broadcast => 4
  | .rescue => 4

/-- Two records break the uniqueness of R1: RESCUE on one channel, or BROADCAST on one programme. -/
def clash (x y : Carrier) : Bool :=
  (x.kind = .rescue && y.kind = .rescue && x.channel = y.channel)
    || (x.kind = .broadcast && y.kind = .broadcast && x.programme = y.programme)

/-- A record is in breach of R1: another clashes with it, or its kind holds too many. -/
def inBreach (t : Vector (Option Carrier) 24) (c : CarrierNo) : Bool :=
  t[c].any fun x =>
    decide (kindLimit x.kind < kindCount t x.kind)
      || (List.finRange 24).any fun d => d != c && t[d].any (clash x)

/-- The counts and the uniqueness of R1 hold. -/
def catalogueOk (t : Vector (Option Carrier) 24) : Bool := (List.finRange 24).all fun c => !inBreach t c

/-- The Catalogue replaced in working form. -/
def State.setCatalogue (s : State) (t : Vector (Option Carrier) 24) : State :=
  { s with work := { s.work with catalogue := t } }

/-- The voters a Catalogue change concerns: those of the old and the new rescue channel (R7, R108). -/
def catalogueVoters (old new : Option Carrier) : List HandOver :=
  ((List.finRange 4).filter fun ch =>
    old.any (·.channel = some ch) || new.any (·.channel = some ch)).map .coverage

/-- A carrier that moves from one rescue channel to another takes the activity of the new one: an event at the allocation
records, of which those that carry it recompute (R7, R92, R120). The carriers carried and their levels are the same, so
it is no event CARRIAGE (R86); that its cause is RESCUE is read from R120 (DEDUCED, assumption 11). -/
def channelMoves (old new : Option Carrier) : List HandOver :=
  match old.bind Carrier.channel, new.bind Carrier.channel with
  | some ch, some ch' => if ch = ch' then [] else allocEverywhere (.rescue ch')
  | _, _ => []

/-- An accepted change of a Catalogue record: an event at every Carriage Planner, at the voters concerned, and at the
allocation records when a rescue carrier changes its channel (R7). -/
def changeCarrier (c : CarrierNo) (new : Option Carrier) (s : State) : Handed :=
  let old := s.work.catalogue[c]
  (s.setCatalogue (s.work.catalogue.set c new), cataloguePlanners ++ catalogueVoters old new ++ channelMoves old new)

/-- An optional identifier read by `f`: none when present and out of range. -/
def optOf {α : Type} (f : Nat → Option α) : Option Nat → Option (Option α)
  | none => some none
  | some n => (f n).map some

/-- CARRIER SET (R4). A kind byte that names no kind differs from every kind and agrees with no lane. -/
def carrierSet (a : CarrierSetArgs) (s : State) : Result :=
  match carrierOf a.carrier, optOf channelOf a.channel, optOf (identOf 4 1) a.programme with
  | some c, some channel, some programme =>
    if a.lane < 1 ∨ 4 < a.lane then refuse s .badId
    else if s.writing (.carrier c) then refuse s .busy
    else if (s.work.catalogue[c].any fun x => decide (kindOf a.kind ≠ some x.kind)) && s.planNames c then
      refuse s .inUse
    else match kindOf a.kind with
      | none => refuse s .badValue
      | some kind =>
        let new : Carrier := ⟨kind, a.lane, channel, programme⟩
        if !(laneAgrees kind a.lane && presenceAgrees kind channel.isSome programme.isSome) then
          refuse s .badValue
        else if !catalogueOk (s.work.catalogue.set c (some new)) then refuse s .badValue
        else written (.carrier c) .accepted [] (changeCarrier c (some new) s)
  | _, _, _ => refuse s .badId

/-- CARRIER CLEAR (R5). -/
def carrierClear (carrier : Nat) (s : State) : Result :=
  match carrierOf carrier with
  | none => refuse s .badId
  | some c =>
    if s.writing (.carrier c) then refuse s .busy
    else if s.planNames c then refuse s .inUse
    else if s.work.catalogue[c].isNone then done .accepted [] (s, [])
    else written (.carrier c) .accepted [] (changeCarrier c none s)

/-- A record with its in-use flag and its write flag (R6). The programme number is read (R4) and sent as an identifier
of one byte, which is the model's choice (DESIGN CHOICE, assumption 13). -/
def carrierFields (s : State) (c : CarrierNo) (x : Carrier) : List Field :=
  List.flatten [[fromOne c, .named x.kind.ctorIdx, .ident x.lane], optField .channel x.channel,
    optField fromOne x.programme, [.flag (s.planNames c), .flag (s.writing (.carrier c))]]

/-- CARRIER GET (R6): one id, or 0 for every present record. -/
def carrierGet (carrier : Nat) (s : State) : Result :=
  if carrier = 0 then
    let present := (List.finRange 24).filterMap fun c => s.work.catalogue[c].map (carrierFields s c)
    answered s (.entries present.length :: present.flatten)
  else match carrierOf carrier with
    | none => refuse s .badId
    | some c => match s.work.catalogue[c] with
      | none => answered s [.present false]
      | some x => answered s (.present true :: carrierFields s c x)

/-! ### The Remote Unit Table (R8 to R12) -/

/-- The commissioned positions form an unbroken run from position 1 up (R9). -/
def runOk (t : Vector RuRecord 12) : Bool :=
  (List.finRange 12).all fun u =>
    if u.val = 0 then t[u].commissioned
    else !t[u].commissioned || (List.finRange 12).all fun v => decide (v.val + 1 ≠ u.val) || t[v].commissioned

/-- A position's record replaced in working form. -/
def State.setUnit (s : State) (p : Position) (x : RuRecord) : State :=
  { s with work := { s.work with units := posSet s.work.units p x } }

/-- The beacon record after a RU SET: fresh when the position is commissioned, none when it is
decommissioned (R31). -/
def recommission (p : Position) (old new : RuRecord) (s : State) : State :=
  match old.commissioned, new.commissioned with
  | false, true => s.setBeacon p .awaited
  | true, false => s.setBeacon p .absent
  | _, _ => s

/-- An accepted RU SET at the Ring Feed Controller: the ring's length or a verdict may change (R11, R32,
R48). -/
def unitFed (p : Position) (old new : RuRecord) (before : Bool) (s : State) : Handed :=
  let judged := new.commissioned && old.commissioned && before != s.mismatched p
  let s1 := if judged then
      s.post (mismatchNote p (s.mismatched p) ((posGet s.beacons p).identity.getD 0))
    else s
  if old.commissioned ≠ new.commissioned ∨ (new.commissioned ∧ old.identity ≠ new.identity) then
    feedEvent p.ring .model (if judged then [p.unit] else []) s1
  else (s1, [])

/-- An accepted RU SET at the Power Allocator of a commissioned position (R11). -/
def unitModel (p : Position) (old new : RuRecord) : List HandOver :=
  if new.commissioned ∧ (old.ceiling ≠ new.ceiling ∨ old.margin ≠ new.margin ∨ old.trim ≠ new.trim) then
    [.alloc p .model]
  else []

/-- The effect of an accepted RU SET (R11). -/
def changeUnit (p : Position) (new : RuRecord) (s : State) : Handed :=
  let old := s.unit p
  let s1 := recommission p old new (s.setUnit p new)
  let fed := unitFed p old new (s.mismatched p) s1
  (fed.1, fed.2 ++ unitModel p old new)

/-- The fields of a Remote Unit Table record (R8). -/
def ruFields (p : Position) (x : RuRecord) : List Field :=
  List.flatten [[.position p, .flag x.commissioned], optField .serial x.identity,
    [.quantity x.ceiling, .quantity x.margin, .quantity x.trim]]

/-- RU SET (R10). -/
def ruSet (a : RuSetArgs) (s : State) : Result :=
  match positionOf a.position with
  | none => refuse s .badId
  | some p =>
    if s.writing (.unit p) then refuse s .busy
    else
      let new : RuRecord := ⟨a.commissioned, a.identity, clamp 200 370 a.ceiling, clamp 0 30 a.margin,
        clamp (-60) 60 a.trim⟩
      if !runOk ((s.work.units.get p.ring).set p.unit new) then refuse s .badValue
      else
        written (.unit p)
          (clampAnswer (new.ceiling != a.ceiling || new.margin != a.margin || new.trim != a.trim))
          (ruFields p new) (changeUnit p new s)

/-- A position in RU GET (R12). -/
def ruGetFields (s : State) (p : Position) : List Field :=
  List.flatten [ruFields p (s.unit p), [.flag (s.writing (.unit p)), .named (s.unitState p).ctorIdx],
    optField .serial (posGet s.beacons p).identity, optField fromOne (s.zoneOfPosition p)]

/-- RU GET (R12): a position, or a whole ring as 16 times the ring. -/
def ruGet (position : Nat) (s : State) : Result :=
  match positionOf position with
  | some p => answered s (ruGetFields s p)
  | none =>
    if position % 16 = 0 then
      match ringOf (position / 16) with
      | some r => answered s ((List.finRange 12).flatMap fun u => ruGetFields s ⟨r, u⟩)
      | none => refuse s .badId
    else refuse s .badId

/-! ### The Zone Table (R13, R14) -/

/-- The lowest-numbered other zone that holds a position of a set, with the lowest such position (R13). -/
def zoneConflict (s : State) (z : ZoneNo) (members : List Position) : Option (ZoneNo × Position) :=
  (List.finRange 8).findSome? fun y =>
    if y = z then none
    else (members.find? fun p => p ∈ s.work.zones[y]).map fun p => (y, p)

/-- An accepted ZONE SET: the class changes at the positions added to or removed from a zone that carries an
announcement are handed on; those removed return to their programmes, those added hear nothing of it until the next
page (R14, R139). -/
def changeZone (z : ZoneNo) (members : List Position) (s : State) : Handed :=
  let old := s.work.zones[z]
  let s1 := { s with work := { s.work with zones := s.work.zones.set z members } }
  if s.breakin.carrying[z] then
    ({ s1 with breakin := { s.breakin with heard := forPositions fun p =>
        if p ∈ old ∧ p ∉ members then none else posGet s.breakin.heard p } },
      classHands s1 (allPositions.filter fun p => decide (p ∈ old) != decide (p ∈ members)))
  else (s1, [])

/-- ZONE SET (R13). -/
def zoneSet (a : ZoneSetArgs) (s : State) : Result :=
  match zoneOf a.zone, allOf positionOf a.members with
  | some z, some positions =>
    let members := positionSet positions
    if s.writing (.zone z) then refuse s .busy
    else match zoneConflict s z members with
      | some (y, p) => refuseWith s .overlap [fromOne y, .position p]
      | none => written (.zone z) .accepted [] (changeZone z members s)
  | _, _ => refuse s .badId

/-- A zone in ZONE GET: its member set and its write flag (R14). -/
def zoneGetFields (s : State) (z : ZoneNo) : List Field :=
  listField .position (positionSet s.work.zones[z]) ++ [.flag (s.writing (.zone z))]

/-- ZONE GET (R14): a zone, or 0 for all eight. That the eight stand in ascending order of their numbers is the model's
choice (DESIGN CHOICE, assumption 13). -/
def zoneGet (zone : Nat) (s : State) : Result :=
  if zone = 0 then answered s ((List.finRange 8).flatMap (zoneGetFields s))
  else match zoneOf zone with
    | none => refuse s .badId
    | some z => answered s (zoneGetFields s z)

/-! ### RU ALLOCATION (R88, R105) -/

/-- The status of an allocation record: ACTIVE, or NONE with its reason (R105), sent without a presence byte: the model's
choice (DESIGN CHOICE, assumption 13). -/
def statusFields : AllocStatus → List Field
  | .active _ => [.named 0]
  | .none reason => [.named 1, .named reason.ctorIdx]

/-- Ceiling, margin in force with its source, budget (R105). A plan's number is sent behind its source without a presence
byte: the model's choice (DESIGN CHOICE, assumption 13). -/
def budgetFields (u : RuRecord) (r : AllocRec) : List Field :=
  [.quantity u.ceiling, .quantity r.margin] ++ (match r.override with
    | none => [.named 0]
    | some (p, _) => [.named 1, fromZero p]) ++ [.power r.budget]

/-- What became of a carried carrier: GRANTED with its level, MUTED, or NOT_CANDIDATE with its reason (R105). Level and reason
are sent without a presence byte: the model's choice (DESIGN CHOICE, assumption 13). -/
def grantFields (r : AllocRec) (c : CarrierNo) : List Field :=
  match r.grants.find? (·.1 = c) with
  | some (_, g) => [.named 0, .quantity g]
  | none => match r.excluded.find? (·.1 = c) with
    | some (_, reason) => [.named 2, .named reason.ctorIdx]
    | none => [.named 1]

/-- A carrier of a unit's carried set in RU ALLOCATION (R105). -/
def carriedFields (s : State) (p : Position) (r : AllocRec) (w : Wanted) : List Field :=
  let c := candOf (s.unit p).trim r.announced w
  [fromOne w.carrier, .named w.kind.ctorIdx, .quantity w.level, .ident c.cls, .quantity c.request,
    .quantity c.floor] ++ grantFields r w.carrier

/-- The ending stage in RU ALLOCATION (R105). The class and the backoff are sent behind the stage they belong to, without a
presence byte: the model's choice (DESIGN CHOICE, assumption 13). -/
def endingFields : Option Ending → List Field
  | none => []
  | some .fit => [.named 0]
  | some (.backoff k d) => [.named 1, .ident k, .quantity d]
  | some (.rescueLimit d) => [.named 2, .quantity d]

/-- A wanted entry of a carriage record: its class on the path, and its slot or a shed mark (R88). The slot is sent as an
optional field, and the shed mark is its absence, a presence byte of 0: the model's choice (DESIGN CHOICE, assumption 13). -/
def wantedFields (x : CarriageRec) (w : Wanted) : List Field :=
  [fromOne w.carrier, .named w.kind.ctorIdx, .quantity w.level, .ident (classOf w.kind x.announcing)] ++
    optField (fun (e : Wanted × Nat) => .ident e.2) (x.carried.find? (·.1.carrier = w.carrier))

/-- The carriage record of a fed unit's path (R88). -/
def carriageFields (s : State) (p : Position) : List Field :=
  match (s.unitState p).side with
  | none => [.present false]
  | some side =>
    let x := s.carriage.get ⟨p.ring, side⟩
    List.flatten [[.present true], pathFields ⟨p.ring, side⟩, [.count (x.capacity.getD 0), .flag x.announcing,
      .entries x.wanted.length], x.wanted.flatMap (wantedFields x)]

/-- The fields of an ACTIVE unit beyond status and budget (R105); the carried set in carriage order. -/
def activeFields (s : State) (p : Position) (r : AllocRec) : List Field :=
  let carried := carriageOrder (s.catalogued r.carried)
  List.flatten [[gateField r.gate], r.rescue.toList.map (fun b => .named (if b then 1 else 0)),
    [.entries carried.length], carried.flatMap (carriedFields s p r),
    [.power r.composite, .power (r.budget - r.composite)], endingFields r.ending,
    [.count r.mute.length, .flag r.limited]]

/-- RU ALLOCATION (R105): a NONE unit has its status and budget, and no carriers. The fields of an ACTIVE unit alone have no
presence byte, since the status says whether they stand: the model's choice (DESIGN CHOICE, assumption 13). -/
def ruAllocation (position : Nat) (s : State) : Result :=
  match positionOf position with
  | none => refuse s .badId
  | some p =>
    let r := posGet s.alloc p
    answered s (List.flatten [statusFields r.status, budgetFields (s.unit p) r,
      (match r.status with
        | .active _ => activeFields s p r
        | .none _ => []), carriageFields s p])

end Sys2Proof.Machine
end

