-- ==== Sys2Proof/Machine/Clips.lean ====
section
/-! DEFINITION. The clip store (R124 to R129): free runs, and the requests of the CLIPS group. -/

namespace Sys2Proof.Machine

open Sys2Proof

/-- Pages of the clip store (R124). -/
def storePages : Nat := 2048

/-- A run of pages: its first page and its length. -/
abbrev Run := Nat × Nat

/-- A run placed among others by its first page. -/
def insertRun (r : Run) : List Run → List Run
  | [] => [r]
  | x :: xs => if r.1 ≤ x.1 then r :: x :: xs else x :: insertRun r xs

/-- The runs that the clips of a directory occupy, by first page (R124). -/
def occupiedRuns (clips : Vector Clip 64) : List Run :=
  ((List.finRange 64).filter fun c => clips[c].state ≠ .empty).foldl
    (fun runs c => insertRun (clips[c].first, clips[c].pages) runs) []

/-- The runs left free from page `cur` on by some occupied runs. -/
def gaps (cur : Nat) : List Run → List Run
  | [] => if cur < storePages then [(cur, storePages - cur)] else []
  | (first, n) :: rest =>
    if cur < first then (cur, first - cur) :: gaps (max cur (first + n)) rest
    else gaps (max cur (first + n)) rest

/-- The free runs of a directory, by first page (R124). -/
def freeRuns (clips : Vector Clip 64) : List Run := gaps 0 (occupiedRuns clips)

/-- The longest of some runs, the lowest of equals (R129). When no page is free there is no run; that it is then one of
length 0 at page 0 is the model's choice (DESIGN CHOICE, assumption 30). -/
def longestRun (runs : List Run) : Run := runs.foldl (fun best r => if best.2 < r.2 then r else best) (0, 0)

/-- A clip's record replaced in working form. -/
def State.setClip (s : State) (c : ClipNo) (x : Clip) : State :=
  { s with work := { s.work with clips := s.work.clips.set c x } }

/-- CLIP OPEN (R125). -/
def clipOpen (clip pages : Nat) (s : State) : Result :=
  match clipOf clip with
  | none => refuse s .badId
  | some c =>
    if s.writing (.clip c) then refuse s .busy
    else if pages < 1 ∨ 600 < pages then refuse s .badValue
    else if s.work.clips[c].state ≠ .empty then refuse s .wrongState
    else
      let runs := freeRuns s.work.clips
      match runs.find? (pages ≤ ·.2) with
      | none => refuseWith s .noRoom [.count (longestRun runs).2]
      | some (first, _) =>
        written (.clip c) .accepted [.count first] (s.setClip c ⟨.loading, first, pages, 0⟩, [])

/-- CLIP PAGE (R126). -/
def clipPage (clip index : Nat) (payload : List Byte) (s : State) : Result :=
  match clipOf clip with
  | none => refuse s .badId
  | some c =>
    if s.writing (.clip c) then refuse s .busy
    else
      let x := s.work.clips[c]
      match x.state with
      | .empty => refuse s .wrongState
      | .ready => if index + 1 = x.pages then done .acceptedDuplicate [] (s, []) else refuse s .wrongState
      | .loading =>
        if index = x.written ∧ x.written < x.pages then
          let s1 := s.setClip c { x with written := x.written + 1 }
          written (.clip c) .accepted []
            ({ s1 with work := { s1.work with
                pages := pageWrite s1.work.pages (x.first + x.written) payload } }, [])
        else if index + 1 = x.written then done .acceptedDuplicate [] (s, [])
        else refuse s .wrongState

/-- Whether a queued break-in request names a clip (R128, R129). -/
def clipNamed (s : State) (c : ClipNo) : Bool := s.breakin.queue.any fun r => c ∈ r.clips

/-- CLIP DELETE (R128). -/
def clipDelete (clip : Nat) (s : State) : Result :=
  match clipOf clip with
  | none => refuse s .badId
  | some c =>
    if s.writing (.clip c) then refuse s .busy
    else if clipNamed s c then refuse s .clipInUse
    else if s.work.clips[c].state = .empty then done .accepted [] (s, [])
    else written (.clip c) .accepted [] (s.setClip c .vacant, [])

/-- A directory record in CLIP LIST with its two flags (R129). The fields that stand in LOADING and READY alone (R124) are
sent without a presence byte, since the state before them says whether they stand, and not at all in EMPTY: the model's
choice (DESIGN CHOICE, assumption 13). -/
def clipFields (s : State) (c : ClipNo) : List Field :=
  let x := s.work.clips[c]
  List.flatten [[fromOne c, .named x.state.ctorIdx],
    (if x.state = .empty then [] else [.count x.first, .count x.pages, .count x.written]),
    [.flag (clipNamed s c), .flag (s.writing (.clip c))]]

/-- The free pages, and the longest free run (R129). -/
def freeFields (s : State) : List Field :=
  let runs := freeRuns s.work.clips
  let best := longestRun runs
  [.count (runs.map (·.2)).sum, .count best.1, .count best.2]

/-- CLIP LIST (R129): one id, or 0 for every record that is not EMPTY. -/
def clipList (clip : Nat) (s : State) : Result :=
  if clip = 0 then
    let listed := (List.finRange 64).filter fun c => s.work.clips[c].state ≠ .empty
    answered s (List.flatten [[.entries listed.length], listed.flatMap (clipFields s), freeFields s])
  else match clipOf clip with
    | none => refuse s .badId
    | some c => answered s (clipFields s c ++ freeFields s)

end Sys2Proof.Machine
end

