-- ==== Sys2Proof/Machine/Plans.lean ====
section
/-! DEFINITION. The Incident Plan Unit (R144 to R155, R161): plan and trigger tables, invocation, stand-down,
activation, and the requests of the PLANS group that concern them. -/

namespace Sys2Proof.Machine

open Sys2Proof

/-! ### Fields of records and reports -/

/-- The source of an activation: port 0, port 1, a contact with its number, CONTROL_WATCH (R148); the number is sent without a
presence byte (DESIGN CHOICE, assumption 13). -/
def sourceFields : ActivationSource → List Field
  | .port .control => [.named 0]
  | .port .console => [.named 1]
  | .contact c => [.named 2, fromZero c]
  | .controlWatch => [.named 3]

/-- An optional source: its presence and then its fields. -/
def optSource : Option ActivationSource → List Field
  | none => [.present false]
  | some src => .present true :: sourceFields src

/-- An entry of a carriage list (R144). -/
def entryFields (e : ListEntry) : List Field := [fromOne e.1, .quantity e.2]

/-- A carriage list (R144). -/
def carriageListFields (es : List ListEntry) : List Field := .entries es.length :: es.flatMap entryFields

/-- A template (R144). -/
def templateFields (t : Template) : List Field :=
  List.flatten [listField fromOne t.zones, listField fromOne t.clips, [.quantity t.priority, .count t.repeats]]

/-- A loaded plan record after its number (R144). -/
def planRecordFields (x : PlanRecord) : List Field :=
  List.flatten [
    (match x.label with
      | none => [.present false]
      | some cs => .present true :: listField .char cs),
    [.named x.authority.ctorIdx], carriageListFields x.listN, carriageListFields x.listS,
    .entries x.templates.length :: x.templates.flatMap templateFields,
    optField (fun (m : Nat) => .quantity m) x.override]

/-- A plan's record behind its presence mark, its number first, or the absent mark alone (R144, R161). That the mark is a
presence byte is the model's choice (DESIGN CHOICE, assumption 13). -/
def planFields (p : PlanNo) : Option PlanRecord → List Field
  | none => [.present false]
  | some x => .present true :: fromZero p :: planRecordFields x

/-- The active plan and the stack from top to bottom (R149, R152). -/
def stackFields (s : State) : List Field := fromZero s.plans.active :: listField fromZero s.plans.stack

/-! ### PLAN LOAD (R145) -/

/-- The parts of a plan record in which a first offence can lie (R145). -/
inductive PlanPart where
  | listN | listS | templates | labelAuthority
  deriving DecidableEq, Repr

/-- The index of the first entry of a list with a property of its index and itself. -/
def firstOffence {α : Type} (bad : Nat → α → Bool) : Nat → List α → Option Nat
  | _, [] => none
  | i, x :: xs => if bad i x then some i else firstOffence bad (i + 1) xs

/-- The first offence of a record, list N first, then list S, then the templates, then the rest. -/
def offenceOf (a : PlanArgs) (entry : List (Nat × Int) → Nat → Nat × Int → Bool)
    (template : Nat → BreakInArgs → Bool) (rest : Option Nat) : Option (PlanPart × Nat) :=
  match firstOffence (entry a.listN) 0 a.listN, firstOffence (entry a.listS) 0 a.listS,
      firstOffence template 0 a.templates, rest with
  | some i, _, _, _ => some (.listN, i)
  | none, some i, _, _ => some (.listS, i)
  | none, none, some i, _ => some (.templates, i)
  | none, none, none, some i => some (.labelAuthority, i)
  | none, none, none, none => none

/-- Check 5: an identifier out of its range (R145). -/
def offence5 (a : PlanArgs) : Option (PlanPart × Nat) :=
  offenceOf a (fun _ _ e => (carrierOf e.1).isNone)
    (fun _ t => (allOf zoneOf t.zones).isNone || (allOf clipOf t.clips).isNone) none

/-- Whether a template's shape breaks check 6 (R145). -/
def badTemplate (t : BreakInArgs) : Bool :=
  match templateOf t with
  | .ok _ => false
  | .error _ => true

/-- Check 6: too many entries, a carrier named twice, a template's shape, the label, the authority (R145). -/
def offence6 (a : PlanArgs) : Option (PlanPart × Nat) :=
  offenceOf a (fun es i e => decide (24 ≤ i) || (es.take i).any (·.1 = e.1))
    (fun i t => decide (4 ≤ i) || badTemplate t)
    (if a.label.any fun l => 16 < l.length then some 0
      else if (authorityOf a.authority).isNone then some 1 else none)

/-- A carrier that a PLAN LOAD finds unknown: one without a Catalogue record (R145); and, as after a CARRIER CLEAR, one
whose kind a CARRIER SET taken before has changed (R5). That the latter lasts as long as the store write of that CARRIER SET
is the model's reading (DEDUCED, assumption 27). -/
def State.carrierUnknown (s : State) (c : CarrierNo) : Bool :=
  match s.work.catalogue[c] with
  | none => true
  | some x => s.writing (.carrier c) && s.stored.catalogue[c].any (·.kind ≠ x.kind)

/-- Check 7: a carrier that is unknown (R5, R145). -/
def offence7 (s : State) (a : PlanArgs) : Option (PlanPart × Nat) :=
  offenceOf a (fun _ _ e => (carrierOf e.1).all s.carrierUnknown) (fun _ _ => false) none

/-- A carriage list with its levels brought into −300 to 370; entries that name no carrier, which check 5
rules out, are dropped. -/
def listOf (es : List (Nat × Int)) : List ListEntry :=
  es.filterMap fun e => (carrierOf e.1).map fun c => (c, clamp (-300) 370 e.2)

/-- The record a PLAN LOAD that has passed its checks stores (R145). -/
def recordOf (a : PlanArgs) : PlanRecord where
  label := a.label
  authority := (authorityOf a.authority).getD .view
  listN := listOf a.listN
  listS := listOf a.listS
  templates := a.templates.filterMap fun t => (templateOf t).toOption
  override := a.override.map (clampNat 0 30)

/-- Whether some value of a record is clamped (R145). -/
def planClamped (a : PlanArgs) : Bool :=
  (a.listN ++ a.listS).any (fun e => clamp (-300) 370 e.2 != e.2) || a.override.any fun m => clamp 0 30 m != m

/-- A plan's record replaced in working form. -/
def State.setPlan (s : State) (p : PlanNo) (x : Option PlanRecord) : State :=
  { s with work := { s.work with plans := s.work.plans.set p x } }

/-- A refusal by check 5, 6 or 7, with its part and index (R145). -/
def refuseOffence (s : State) (answer : Answer) (o : PlanPart × Nat) : Result :=
  refuseWith s answer [.named o.1.ctorIdx, .ident o.2]

/-- An accepted PLAN LOAD (R146). Its reply carries the record as stored, or the absent mark alone where the record has been
made absent: that such a reply carries it is the model's choice (DESIGN CHOICE, assumption 13). -/
def loadPlan (s : State) (p : PlanNo) (answer : Answer) (x : Option PlanRecord) : Result :=
  written (.plan p) answer (planFields p x) (s.setPlan p x, [])

/-- PLAN LOAD (R145). -/
def planLoad (plan : Nat) (record : Option PlanArgs) (s : State) : Result :=
  match planOf plan with
  | none => refuse s .badId
  | some p =>
    if s.writing (.plan p) then refuse s .busy
    else if s.plans.active = p ∨ p ∈ s.plans.stack then refuse s .inUse
    else match record with
      | none => if p = 0 then refuse s .badValue else loadPlan s p .accepted none
      | some a =>
        match offence5 a, offence6 a, offence7 s a with
        | some o, _, _ => refuseOffence s .badId o
        | none, some o, _ => refuseOffence s .badValue o
        | none, none, some o => refuseOffence s .badValue o
        | none, none, none => loadPlan s p (clampAnswer (planClamped a)) (some (recordOf a))

/-! ### TRIGGER SET (R147) -/

/-- A trigger entry replaced in working form. -/
def State.setTrigger (s : State) (t : TriggerNo) (x : Trigger) : State :=
  { s with work := { s.work with triggers := s.work.triggers.set t x } }

/-- TRIGGER SET (R147). -/
def triggerSet (a : TriggerSetArgs) (s : State) : Result :=
  match triggerOf a.trigger, planOf a.plan with
  | some t, some p =>
    if s.writing (.trigger t) then refuse s .busy
    else match modeOf a.mode, authorityOf a.minimum with
      | some mode, some minimum =>
        if p = 0 then refuse s .badValue
        else written (.trigger t) .accepted [] (s.setTrigger t ⟨a.present, minimum, p, mode⟩, [])
      | _, _ => refuse s .badValue
  | _, _ => refuse s .badId

/-! ### Activation (R154) -/

/-- PLAN_CHANGED (R154). A presence byte stands before the source, although an activation always has one: the model's
choice (DESIGN CHOICE, assumption 13). -/
def planChangedNote (old : PlanNo) (x : PlanState) : Note where
  kind := .planChanged
  severity := if x.active = 0 then .notice else .warning
  subject := .plan x.active
  detail := List.flatten [[fromZero old, fromZero x.active, .named x.activation.cause.ctorIdx],
    optSource x.activation.source, optField fromZero x.activation.trigger, [.count x.stack.length]]

/-- What an activation hands on: the planners, the voters, the allocation records and the Broadcast Insertion
Unit (R154). -/
def activationHands : List HandOver :=
  allSpans.map (.planner · .plan []) ++ (List.finRange 4).map .coverage ++ allocEverywhere .plan
    ++ [.activation]

/-- An activation of plan p with a stack (R154). -/
def activate (p : PlanNo) (stack : List PlanNo) (cause : ActivationCause) (source : ActivationSource)
    (trigger : Option TriggerNo) (s : State) : Handed :=
  let new : PlanState := ⟨p, ⟨cause, some source, trigger, sinceReset s⟩, stack⟩
  (({ s with plans := new }).post (planChangedNote s.plans.active new), activationHands)

/-! ### Invocation (R149 to R151) -/

/-- Checks 2 to 9 of an invocation (R149): ACCEPTED when all pass. -/
def invocationOutcome (s : State) (t : TriggerNo) (authority : Authority) : Answer :=
  let e := s.work.triggers[t]
  if !e.present then .triggerAbsent
  else if !Authority.atLeast authority e.minimum then .authority
  else match s.work.plans[e.plan] with
    | none => .planAbsent
    | some x =>
      if s.writing (.plan e.plan) then .busy
      else if !Authority.atLeast authority x.authority then .authority
      else if e.plan = s.plans.active then .alreadyActive
      else if e.plan ∈ s.plans.stack then .alreadyStacked
      else if e.mode = .nest ∧ 4 ≤ s.plans.stack.length then .stackFull
      else .accepted

/-- An accepted invocation (R150). -/
def carryOut (s : State) (t : TriggerNo) (source : ActivationSource) : Handed :=
  let e := s.work.triggers[t]
  let stack := match e.mode with
    | .nest => s.plans.active :: s.plans.stack
    | .replace => s.plans.stack
  activate e.plan stack .invoke source (some t) s

/-- What makes an invocation that has no reply, in the order of R151. -/
inductive Invoker where
  | contact (c : ContactNo)
  | controlWatch
  deriving DecidableEq, Repr

/-- The source that the activation record takes from an invoker (R148, R150). -/
def Invoker.source : Invoker → ActivationSource
  | .contact c => .contact c
  | .controlWatch => .controlWatch

/-- The source in TRIGGER_REFUSED: a contact 0 with its number, CONTROL_WATCH 1, the order of R151 (R174). The number is
sent without a presence byte: the model's choice (DESIGN CHOICE, assumption 13). -/
def Invoker.fields : Invoker → List Field
  | .contact c => [.named 0, fromZero c]
  | .controlWatch => [.named 1]

/-- TRIGGER_REFUSED (R151): the source, the outcome code, and the entry's plan where the entry is present. -/
def triggerRefusedNote (s : State) (t : TriggerNo) (by_ : Invoker) (a : Answer) : Note where
  kind := .triggerRefused
  severity := .alarm
  subject := .trigger t
  detail := List.flatten [by_.fields, [.named a.ctorIdx],
    optField fromZero (if s.work.triggers[t].present then some s.work.triggers[t].plan else none)]

/-- An invocation from a contact or the control watch, with authority INCIDENT; a refusal posts
TRIGGER_REFUSED (R149, R151). -/
def invokeFrom (s : State) (t : TriggerNo) (by_ : Invoker) : Answer × Handed :=
  let a := invocationOutcome s t .incident
  match a with
  | .accepted => (a, carryOut s t by_.source)
  | .alreadyActive => (a, (s, []))
  | _ => (a, (s.post (triggerRefusedNote s t by_ a), []))

/-- INVOKE (R149). -/
def invoke (port : MgmtPort) (authority : Authority) (trigger : Nat) (s : State) : Result :=
  match triggerOf trigger with
  | none => refuse s .badId
  | some t =>
    match invocationOutcome s t authority with
    | .accepted =>
      let x := carryOut s t (.port port)
      done .accepted (stackFields x.1) x
    | .alreadyActive => done .alreadyActive (stackFields s) (s, [])
    | a => refuse s a

/-! ### Standing down (R152, R153) -/

/-- Steps 2 and 3 of a stand-down: the plan that becomes active and the stack left; none where step 4
applies (R152). -/
def standDownTo (x : PlanState) : Option (PlanNo × List PlanNo) :=
  match x.stack with
  | top :: rest => some (top, rest)
  | [] => if x.active = 0 then none else some (0, [])

/-- STAND DOWN (R152). -/
def standDown (port : MgmtPort) (authority : Authority) (s : State) : Result :=
  if !Authority.atLeast authority s.activePlan.authority then refuse s .authority
  else match standDownTo s.plans with
    | none => refuse s .nothingToStandDown
    | some (p, stack) =>
      let x := activate p stack .standDown (.port port) none s
      done .accepted (stackFields x.1) x

/-- STAND DOWN ALL (R153). Its rule names no field of the reply, so the payload is empty (R164). -/
def standDownAll (port : MgmtPort) (s : State) : Result :=
  if s.plans.active = 0 then refuse s .nothingToStandDown
  else done .accepted [] (activate 0 [] .standDownAll (.port port) none s)

/-! ### PLAN READ and STACK READ (R161) -/

/-- Whether a plan is active, stacked with its depth from the top, or neither (R161). The depth, 0 for the top, is sent
without a presence byte: the model's choice (DESIGN CHOICE, assumption 13). -/
def standingFields (s : State) (p : PlanNo) : List Field :=
  if s.plans.active = p then [.named 0]
  else if p ∈ s.plans.stack then [.named 1, .count (s.plans.stack.findIdx (· = p))]
  else [.named 2]

/-- A trigger entry in PLAN READ (R161). -/
def triggerFields (s : State) (t : TriggerNo) : List Field :=
  let e := s.work.triggers[t]
  [.flag e.present, .named e.minimum.ctorIdx, fromZero e.plan, .named e.mode.ctorIdx,
    .flag (s.writing (.trigger t))]

/-- A contact entry in PLAN READ (R161). -/
def contactFields (s : State) (c : ContactNo) : List Field :=
  let e := s.work.contacts[c]
  let x := s.contacts[c]
  List.flatten [optField fromZero e.trigger, [.named e.release.ctorIdx, .named e.polarity.ctorIdx,
    .flag (s.writing (.contact c)), .named x.state.ctorIdx],
    optField (fun (l : Level) => .named l.ctorIdx) x.level]

/-- PLAN READ (R161): a plan, 16 for TRIGGERS, 17 for CONTACTS. -/
def planRead (selector : Nat) (s : State) : Result :=
  if selector = 16 then answered s ((List.finRange 32).flatMap (triggerFields s))
  else if selector = 17 then answered s ((List.finRange 16).flatMap (contactFields s))
  else match planOf selector with
    | none => refuse s .badId
    | some p =>
      answered s (List.flatten [planFields p s.work.plans[p], [.flag (s.writing (.plan p))], standingFields s p])

/-- CONTROL_LOST (R175). -/
def State.controlLost (s : State) : Bool :=
  match s.watch with
  | .expired => true
  | _ => false

/-- STACK READ (R161). -/
def stackRead (s : State) : Result :=
  let x := s.plans
  answered s (List.flatten [[fromZero x.active, .named x.activation.cause.ctorIdx],
    optSource x.activation.source, optField fromZero x.activation.trigger,
    [.wide (x.activation.time / 1000)], listField fromZero x.stack, [.flag s.controlLost],
    (List.finRange 16).map fun c => .named s.contacts[c].state.ctorIdx])

end Sys2Proof.Machine
end

