-- ==== Sys2Proof/Machine/Contacts.lean ====
section
/-! DEFINITION. The Contact Input Unit (R156 to R159): debounce, contact states, activations, releases, and
CONTACT SET. -/

namespace Sys2Proof.Machine

open Sys2Proof

/-- The contact state of a debounced level under a polarity (R157). -/
def contactStateOf (level : Option Level) (polarity : Polarity) : ContactState :=
  match level, polarity with
  | none, _ => .unsettled
  | some .closed, .activeClosed => .active
  | some .opened, .activeClosed => .inactive
  | some .closed, .activeOpen => .inactive
  | some .opened, .activeOpen => .active

/-- CONTACT_ACTIVE (R158): the trigger and the outcome of the invocation, or no trigger; one presence byte for the two is
the model's choice (DESIGN CHOICE, assumption 13). -/
def contactActiveNote (c : ContactNo) (invoked : Option (TriggerNo × Answer)) : Note where
  kind := .contactActive
  severity := .alarm
  subject := .contact c
  detail := match invoked with
    | none => [.present false]
    | some (t, a) => [.present true, fromZero t, .named a.ctorIdx]

/-- An activation of a contact: its trigger is invoked, and then CONTACT_ACTIVE is posted (R158). -/
def contactActivated (c : ContactNo) (s : State) : Handed :=
  match s.work.contacts[c].trigger with
  | none => (s, [.posts [contactActiveNote c none]])
  | some t =>
    let x := invokeFrom s t (.contact c)
    (x.2.1, x.2.2 ++ [.posts [contactActiveNote c (some (t, x.1))]])

/-- Effects of a release, in the order of R159's table. -/
inductive ReleaseEffect where
  | noAction
  | noEffect
  | stoodDown (p new : PlanNo)
  | unstacked (p : PlanNo) (depth : Nat)
  deriving DecidableEq, Repr

/-- CONTACT_RELEASED (R159). The plans, and the depth, are sent behind the effect they belong to without a presence byte: the
model's choice (DESIGN CHOICE, assumption 13). -/
def contactReleasedNote (c : ContactNo) (e : ReleaseEffect) : Note where
  kind := .contactReleased
  severity := .notice
  subject := .contact c
  detail := match e with
    | .noAction => [.named 0]
    | .noEffect => [.named 1]
    | .stoodDown p new => [.named 2, fromZero p, fromZero new]
    | .unstacked p depth => [.named 3, fromZero p, .count depth]

/-- The withdrawal of plan p by a release of contact c whose entry names trigger t (R159). -/
def withdrawPlan (c : ContactNo) (t : TriggerNo) (p : PlanNo) (s : State) : ReleaseEffect × Handed :=
  if s.plans.active = p then
    match standDownTo s.plans with
    | some (new, stack) => (.stoodDown p new, activate new stack .release (.contact c) (some t) s)
    | none => (.noEffect, (s, []))
  else if p ∈ s.plans.stack then
    let stack := s.plans.stack.erase p
    (.unstacked p stack.length, ({ s with plans := { s.plans with stack := stack } }, []))
  else (.noEffect, (s, []))

/-- A release of a contact (R159). -/
def contactReleased (c : ContactNo) (s : State) : Handed :=
  let e := s.work.contacts[c]
  let x : ReleaseEffect × Handed :=
    match e.release, e.trigger with
    | .withdraw, some t =>
      if s.work.triggers[t].present then withdrawPlan c t s.work.triggers[t].plan s else (.noEffect, (s, []))
    | _, _ => (.noAction, (s, []))
  (x.2.1, x.2.2 ++ [.posts [contactReleasedNote c x.1]])

/-- A contact's state judged afresh from its debounced level and its polarity (R157). -/
def judgeContact (c : ContactNo) (s : State) : Handed :=
  let x := s.contacts[c]
  let new := contactStateOf x.level s.work.contacts[c].polarity
  let s1 := s.setContact c { x with state := new }
  match x.state, new with
  | .inactive, .active => contactActivated c s1
  | .unsettled, .active => contactActivated c s1
  | .active, .inactive => contactReleased c s1
  | _, _ => (s1, [])

/-- A change of the raw level (R157). A signal that repeats the raw level is no change. -/
def rawLevel (c : ContactNo) (level : Level) (s : State) : State :=
  let x := s.contacts[c]
  if x.raw = level then s
  else s.setContact c { x with raw := level, timer := if x.level = some level then none else some s.now }

/-- The debounce timer reaches 200 ms (R157). -/
def debounced (c : ContactNo) (s : State) : Handed :=
  let x := s.contacts[c]
  if x.timer.isSome then judgeContact c (s.setContact c { x with timer := none, level := some x.raw })
  else (s, [])

/-- A contact entry replaced in working form. -/
def State.setContactEntry (s : State) (c : ContactNo) (x : ContactEntry) : State :=
  { s with work := { s.work with contacts := s.work.contacts.set c x } }

/-- CONTACT SET (R156). -/
def contactSet (a : ContactSetArgs) (s : State) : Result :=
  match contactOf a.contact, optOf triggerOf a.trigger with
  | some c, some trigger =>
    if s.writing (.contact c) then refuse s .busy
    else match releaseOf a.release, polarityOf a.polarity with
      | some release, some polarity =>
        let s1 := s.setContactEntry c ⟨trigger, release, polarity⟩
        written (.contact c) .accepted []
          (if s.work.contacts[c].polarity = polarity then (s1, []) else judgeContact c s1)
      | _, _ => refuse s .badValue
  | _, _ => refuse s .badId

end Sys2Proof.Machine
end

