-- ==== Sys2Proof/Machine/Rescue.lean ====
section
/-! DEFINITION. The requests of the RESCUE group (R116, R121, R122). -/

namespace Sys2Proof.Machine

open Sys2Proof

/-- A portal-talk request: from port 1 only, on a channel RC1 to RC4 (R116). -/
def portalTalk (port : MgmtPort) (channel : Nat) (s : State) (act : ChannelNo → State → Answer × Handed) :
    Result :=
  match port, channelOf channel with
  | .control, _ => refuse s .wrongPort
  | .console, none => refuse s .badId
  | .console, some ch =>
    let x := act ch s
    done x.1 [] x.2

/-- CONSOLE KEY (R116). -/
def consoleKey (port : MgmtPort) (channel : Nat) (s : State) : Result := portalTalk port channel s consoleKeyed

/-- CONSOLE UNKEY (R116). -/
def consoleUnkey (port : MgmtPort) (channel : Nat) (s : State) : Result :=
  portalTalk port channel s consoleUnkeyed

/-- A voter settings record replaced in working form. -/
def State.setVoterSettings (s : State) (ch : ChannelNo) (x : VoterSettings) : State :=
  { s with work := { s.work with voters := s.work.voters.set ch x } }

/-- VOTER CONFIG (R121). -/
def voterConfig (a : VoterConfigArgs) (s : State) : Result :=
  match channelOf a.channel with
  | none => refuse s .badId
  | some ch =>
    if s.writing (.voter ch) then refuse s .busy
    else
      let h := clampNat 1 15 a.hysteresis
      let t := clampNat 5 100 a.hang
      written (.voter ch) (clampAnswer ((h : Int) != a.hysteresis || (t : Int) != a.hang))
        [.quantity h, .quantity t] (s.setVoterSettings ch ⟨h, t⟩, [])

/-- The hang remaining, in tenths of a second (R122). How a part of a tenth is rounded the manual does not say: the model
takes the whole tenths elapsed from the hang time, so that what remains is rounded up (DESIGN CHOICE, assumption 2). -/
def hangFields (s : State) (v : VoterRec) : List Field :=
  optField (fun (x : Nat × Nat) => .quantity (x.2 - elapsed s x.1 / 100 : Int)) v.hang

/-- The console key: KEYED with the seconds left of its limit of 60 s, or CLEAR (R117, R122). That the seconds have no
presence byte, since the named value before them says whether they stand, is the model's choice (DESIGN CHOICE, assumption
13). -/
def keyFields (s : State) (v : VoterRec) : List Field :=
  match v.consoleKey with
  | some since => [.named 0, .quantity (60 - elapsed s since / 1000 : Int)]
  | none => [.named 1]

/-- The rings a set of rings holds. -/
def ringsOf (x : PerRing Bool) : List Ring := [Ring.n, .s].filter x.get

/-- A voter in RESCUE STATUS (R122). A candidate's quality is sent as an optional field, and NEW as its absence, a presence
byte of 0: the model's choice (DESIGN CHOICE, assumption 13). -/
def voterFields (s : State) (ch : ChannelNo) : List Field :=
  let v := s.voters[ch]
  let settings := s.work.voters[ch]
  List.flatten [[.named v.state.ctorIdx, .named (if v.state = .idle then 0 else 1)],
    optField .position v.source, hangFields s v, keyFields s v, [.named (if v.baseKey then 0 else 1)],
    listField .ring (ringsOf v.covers), optField fromOne (rescueCarrier s ch),
    .entries v.cands.length :: v.cands.flatMap fun c =>
      .position c.position :: optField (fun (q : Nat) => .ident q) c.quality,
    [.quantity settings.hysteresis, .quantity settings.hang, .flag (s.writing (.voter ch))]]

/-- RESCUE STATUS (R122): a channel, or 0 for all four. -/
def rescueStatus (channel : Nat) (s : State) : Result :=
  if channel = 0 then answered s ((List.finRange 4).flatMap (voterFields s))
  else match channelOf channel with
    | none => refuse s .badId
    | some ch => answered s (voterFields s ch)

end Sys2Proof.Machine
end

