-- ==== Sys2Proof/Machine/Settle.lean ====
section
/-! DEFINITION. Taking the events that blocks hand to one another within a step, in the order that the
state's `choices` give (assumption 1). -/

namespace Sys2Proof.Machine

open Sys2Proof

/-- What a block does with an event handed to it, and what it hands on. -/
def handle (h : HandOver) (s : State) : Handed :=
  match h with
  | .planner path cause joined => plannerEvent path cause joined s
  | .flag path => flagEvent path s
  | .alloc p e => (allocEvent p e s, [])
  | .coverage ch => (coverageEvent ch s, [])
  | .candidates ch => (candidatesEvent ch s, [])
  | .block ch outputs => voterBlock ch outputs s
  | .baseKey ch => baseKeyed ch true s
  | .activation => activationEvent s
  | .settings preferred limit => settingsEvent preferred limit s
  | .posts [] => (s, [])
  | .posts [n] => (s.post n, [])
  | .posts (n :: ns) => (s.post n, [.posts ns])

/-- The events with the one at place `i` taken out of them: that one, and the others in their order. -/
def pick : Nat → HandOver → List HandOver → HandOver × List HandOver
  | _, h, [] => (h, [])
  | 0, h, hs => (h, hs)
  | i + 1, h, h' :: hs =>
    let x := pick i h' hs
    (x.1, h :: x.2)

/-- The place of the next event to take among `n`, and the choices left: with two or more to take, the next
choice decides; without choices, the first stands. -/
def nextPlace (n : Nat) (choices : List Nat) : Nat × List Nat :=
  match choices with
  | c :: rest => if 2 ≤ n then (c % n, rest) else (0, choices)
  | [] => (0, [])

/-- The events taken one after another until none is left; what each hands on joins the front. -/
def settle : Nat → List HandOver → State → State
  | 0, _, s => s
  | _ + 1, [], s => s
  | fuel + 1, h :: hs, s =>
    let place := nextPlace (hs.length + 1) s.choices
    let x := pick place.1 h hs
    let y := handle x.1 { s with choices := place.2 }
    settle fuel (y.2 ++ x.2) y.1

/-- More events than any step hands on: a step's own events and what they hand on stay below 400
(assumption 1). -/
def settleFuel : Nat := 4096

/-- A state with every event that has been handed on taken. -/
def settled (x : Handed) : State := settle settleFuel x.2 x.1

end Sys2Proof.Machine
end

