-- ==== Sys2Proof/Machine/Flags.lean ====
section
/-! DEFINITION. The flags a station sees: the summary byte of a port and its attention line (R164, R166, R167). -/

namespace Sys2Proof.Machine

open Sys2Proof

/-- Requests taken whose replies have not been clocked out whole (R163). -/
def MgmtRec.outstanding (m : MgmtRec) : Nat := m.held.length + m.ready.length

/-- REPLY_READY (R167). -/
def MgmtRec.replyReady (m : MgmtRec) : Bool := !m.ready.isEmpty

/-- EVENTS_WAITING (R167). -/
def MgmtRec.eventsWaiting (m : MgmtRec) : Bool := !m.events.isEmpty

/-- NESTED (R148). -/
def State.nested (s : State) : Bool := !s.plans.stack.isEmpty

/-- A byte from its bits, bit 7 first. -/
def byteOfBits (bs : List Bool) : Byte := bs.foldl (fun b x => (b <<< 1) ||| (if x then 1 else 0)) 0

/-- The summary byte of a port that holds `outstanding` requests (R164, R167). -/
def summaryWith (s : State) (port : MgmtPort) (outstanding : Nat) : Byte :=
  let m := s.mgmt.get port
  byteOfBits [m.replyReady, m.eventsWaiting, decide (2 ≤ outstanding), s.nested, s.gateOpen, s.feedDegraded,
    s.controlLost, m.overflow]

/-- The summary byte of a port; 0x00 while a reset runs (R167, R177). -/
def summaryByte (s : State) (port : MgmtPort) : Byte :=
  if s.inReset then 0 else summaryWith s port (s.mgmt.get port).outstanding

/-- The attention line of a port; released while a reset runs (R166, R177). -/
def attention (s : State) (port : MgmtPort) : Bool :=
  !s.inReset && ((s.mgmt.get port).replyReady || (s.mgmt.get port).eventsWaiting)

end Sys2Proof.Machine
end

