-- ==== Sys2Proof/Machine/Reset.lean ====
section
/-! DEFINITION. Resets (R177) and store writes (R15, R171): what a reset leaves of every block, the repair of
the loaded tables (R16 to R18, R127), and RESET_DONE. -/

namespace Sys2Proof.Machine

open Sys2Proof

/-! ### Store writes -/

/-- A LOADING clip all of whose pages are written becomes READY (R127). -/
def Clip.finished (x : Clip) : Clip := if x.state = .loading ∧ x.written = x.pages then { x with state := .ready } else x

/-- The working form as a record's write completes: a clip whose last page it was becomes READY (R127). -/
def finishClip (key : StoreKey) (work : Store) : Store :=
  match key with
  | .clip c => { work with clips := work.clips.set c work.clips[c].finished }
  | _ => work

/-- The store write of a record completes (R15, R127). -/
def completeWrite (key : StoreKey) (s : State) : State :=
  let work := finishClip key s.work
  { s with work := work, stored := s.stored.commit work key, inFlight := s.inFlight.erase key }

/-! ### Repair of the loaded tables -/

/-- Every commissioned position above the lowest uncommissioned one is made uncommissioned (R16). -/
def repairRun (t : Vector RuRecord 12) : Vector RuRecord 12 :=
  tabulate fun u =>
    if (List.finRange 12).any fun v => decide (v.val < u.val) && !t[v].commissioned then
      { t[u] with commissioned := false }
    else t[u]

/-- A position is kept in the lowest-numbered of the zones that hold it (R17). -/
def repairZones (t : Vector (List Position) 8) : Vector (List Position) 8 :=
  tabulate fun z => t[z].filter fun p => !(List.finRange 8).any fun y => decide (y.val < z.val) && decide (p ∈ t[y])

/-- The highest carrier id in breach of R1. -/
def highestBreach (t : Vector (Option Carrier) 24) : Option CarrierNo :=
  (List.finRange 24).reverse.find? (inBreach t)

/-- The record of highest id in breach is removed until R1 holds (R18): at most one removal for each id. -/
def repairCatalogue : Nat → Vector (Option Carrier) 24 → Vector (Option Carrier) 24
  | 0, t => t
  | n + 1, t =>
    match highestBreach t with
    | some c => repairCatalogue n (t.set c none)
    | none => t

/-- Two clips share a page. -/
def sharePage (x y : Clip) : Bool := x.first < y.first + y.pages && y.first < x.first + x.pages

/-- LOADING clips become EMPTY, and a READY clip that shares a page with a READY clip of lower id too (R127). -/
def repairClips (t : Vector Clip 64) : Vector Clip 64 :=
  tabulate fun c =>
    match t[c].state with
    | .empty => t[c]
    | .loading => .vacant
    | .ready =>
      if (List.finRange 64).any fun d => decide (d.val < c.val) && t[d].state = .ready && sharePage t[d] t[c] then
        .vacant
      else t[c]

/-- The tables as a reset loads and corrects them (R16 to R18, R127). -/
def Store.repaired (x : Store) : Store :=
  { x with
    catalogue := repairCatalogue 24 x.catalogue
    units := ⟨repairRun x.units.n, repairRun x.units.s⟩
    zones := repairZones x.zones
    clips := repairClips x.clips }

/-! ### The kind of a reset (R177) -/

/-- The kind recorded: the first, in the order POWER_ON, SUPPLY_DIP, RESET_LINE, RESTART, among the causes
that acted; RESTART when none did. -/
def recordedKind (causes : List ResetKind) : ResetKind :=
  if ResetKind.powerOn ∈ causes then .powerOn
  else if ResetKind.supplyDip ∈ causes then .supplyDip
  else if ResetKind.resetLine ∈ causes then .resetLine
  else .restart

/-- Whether a reset of a kind keeps the reference unit (R76). -/
def ResetKind.keepsReference : ResetKind → Bool
  | .powerOn | .supplyDip => false
  | .resetLine | .restart => true

/-- A cause of reset arrives: a reset begins, or the one running is lengthened (R177). -/
def beginReset (kind : ResetKind) (s : State) : State :=
  { s with causes := if kind ∈ s.causes then s.causes else s.causes ++ [kind] }

/-! ### What a reset leaves of each block -/

/-- The authority the straps give port 0 (R163). -/
def strapAuthority (straps : Nat) : Authority :=
  if straps = 2 then .incident else if straps = 3 then .maintain else .operate

/-- A position's beacon record after a reset (R43). -/
def resetBeacon (s : State) (p : Position) : BeaconRec :=
  if (s.unit p).commissioned then .awaited else .absent

/-- A ring topology record after a reset (R62). -/
def resetRing (s : State) (r : Ring) : RingRec where
  hops := List.replicate (s.ringLength r + 1) none
  units := tabulate fun u => if (s.unit ⟨r, u⟩).commissioned then .unreachable else .absent
  reachA := Vector.replicate 12 false
  reachB := Vector.replicate 12 false
  timer := none

/-- The reference unit after a reset (R76): afresh in WARMUP, its monitors qualifying the signals as they
stand, or kept. -/
def resetReference (kind : ResetKind) (s : State) : RefRec :=
  if kind.keepsReference then s.reference
  else { RefRec.start s.now with
    refIn := ⟨false, s.reference.refIn.valid, s.now⟩
    pilot := ⟨false, s.reference.pilot.valid, s.now⟩ }

/-- An allocation record after a reset, under the gate and the override in force (R106). -/
def resetAlloc (s : State) (p : Position) : AllocRec :=
  let u := s.unit p
  let margin := marginInForce s.override u
  .start (if u.commissioned then .unreachable else .absent) s.gateOpen s.override margin (lin (u.ceiling - margin))

/-- A contact after a reset (R162). -/
def resetContact (s : State) (c : ContactNo) : ContactRec := ⟨s.contacts[c].raw, none, some s.now, .unsettled⟩

/-- What a reset leaves of a port's open exchange: one opened during it goes on to its own end (R177); one opened before
it the port record forgets (assumption 16). -/
def keptExchange : Option Exchange → Option Exchange
  | some .dark => some .dark
  | some (.answered _) | none => none

/-- A port record after a reset, under the authority the reset gives it (R177, R179). -/
def resetPort (m : MgmtRec) (authority : Authority) (kind : ResetKind) (straps : Nat) : MgmtRec :=
  { MgmtRec.start authority kind straps with exchange := keptExchange m.exchange }

/-- The control watch after a reset (R175). -/
def resetWatch (s : State) : Watch := if s.work.window = 0 then .off else .running s.now

/-- The tables loaded from the store and corrected, the writes in flight gone, plan 0 active: what every
block's reset state is read from (R15 to R19, R162). -/
def reload (written : List StoreKey) (s : State) : State :=
  let s1 := (written.filter (· ∈ s.inFlight)).foldl (fun x key => completeWrite key x) s
  let loaded := s1.stored.repaired
  { s1 with work := loaded, stored := loaded, inFlight := [], plans := .start }

/-- Every block at its reset state for a reset kind, over loaded tables; RESET_DONE is the one record
(R19, R43, R62, R76, R89, R106, R123, R143, R162, R177, R179). -/
def blocksReset (kind : ResetKind) (straps : Nat) (s : State) : State :=
  let s := { s with reference := resetReference kind s }
  { s with
    resetAt := s.now
    lastReset := kind
    causes := []
    straps := straps
    spans := ⟨.start s.now, .start s.now, .start s.now, .start s.now⟩
    beacons := forPositions (resetBeacon s)
    rings := ⟨resetRing s .n, resetRing s .s⟩
    carriage := ⟨.start s.activePlan.listN, .start s.activePlan.listN, .start s.activePlan.listS,
      .start s.activePlan.listS⟩
    alloc := forPositions (resetAlloc s)
    voters := tabulate fun ch => .start (coverageOf s ch)
    breakin := .start
    contacts := tabulate (resetContact s)
    mgmt := ⟨resetPort s.mgmt.control (strapAuthority straps) kind straps, resetPort s.mgmt.console .incident kind straps⟩
    watch := resetWatch s }

/-- The base keys found ASSERTED at the end of a reset (R123). -/
def assertedKeys (s : State) : List HandOver :=
  ((List.finRange 4).filter fun ch => s.baseLane[ch]).map .baseKey

/-- For a kept reference unit, the settings that a reload has changed back (R76). -/
def changedSettings (kind : ResetKind) (old new : RefSettings) : List HandOver :=
  if kind.keepsReference then [.settings (old.preferred != new.preferred) (old.limit != new.limit)] else []

/-- A reset ends (R177): the blocks take their states, and then come the settings of a kept reference unit, the base
keys, and plan 0's templates. They stand in the order in which R177 lists their records; that `choices` may take them
in another is the model's choice (DESIGN CHOICE, assumptions 1 and 17). -/
def endReset (kind : ResetKind) (straps : Nat) (written : List StoreKey) (s : State) : Handed :=
  let loaded := reload written s
  let new := blocksReset kind straps loaded
  (new, changedSettings kind s.work.reference loaded.work.reference ++ assertedKeys new ++ [.activation])

/-- A RESTART: a reset that begins and ends in one step, and reads the strap pins at its end (R163, R177, R178). The
table gives the request no field for their value: it is open, one for each RESTART (assumption 4). -/
def restartReset (s : State) : Handed :=
  endReset (recordedKind [.restart]) (Config.strapPins s.restarts).val []
    (beginReset .restart { s with restarts := s.restarts + 1 })

end Sys2Proof.Machine
end

