-- ==== Sys2Proof/Machine/Management.lean ====
section
/-! DEFINITION. The management ports (chapter 10): sync and exchanges, replies, the requests of the MANAGEMENT
group, admission of a request, and the control watch. -/

namespace Sys2Proof.Machine

open Sys2Proof

/-! ### Sync, exchanges and replies (R165 to R167) -/

/-- A select opens an exchange: the summary byte of this moment is its first byte (R167); during a reset every byte of it
is 0x00 (R177). -/
def openExchange (port : MgmtPort) (s : State) : State :=
  s.setMgmt port { s.mgmt.get port with exchange := some (if s.inReset then .dark else .answered (summaryByte s port)) }

/-- The fourth consecutive 0xFF of an exchange (R165). -/
def syncPort (port : MgmtPort) (s : State) : State :=
  s.setMgmt port { s.mgmt.get port with synced := true, syncCount := 4 }

/-- A port answers with replies: it is SYNCED, and its select was not opened during a reset (R166, R177). -/
def MgmtRec.replies (m : MgmtRec) : Bool := m.synced && m.exchange ≠ some .dark

/-- A framing fault at a SYNCED port; an UNSYNCED one ignores what it receives (R165). -/
def MgmtRec.faulted (m : MgmtRec) : MgmtRec :=
  if m.synced then { m with synced := false, syncCount := 0, framing := bump m.framing } else m

/-- The select ends; a frame begun and not whole is a framing fault (R165). -/
def closeExchange (port : MgmtPort) (midFrame : Bool) (s : State) : State :=
  let m := s.mgmt.get port
  let m := if midFrame then m.faulted else m
  s.setMgmt port { m with exchange := none, syncCount := 0 }

/-- The first reply of the ready order has been clocked out whole (R166). An UNSYNCED port sends none, nor does a port
whose select was opened during a reset (R177). -/
def replySent (port : MgmtPort) (s : State) : State :=
  let m := s.mgmt.get port
  if m.replies then s.setMgmt port { m with ready := m.ready.drop 1 } else s

/-- The held reply that waits for the write of a record becomes READY (R171). -/
def MgmtRec.release (m : MgmtRec) (key : StoreKey) : MgmtRec :=
  { m with
    held := m.held.filter (·.1 ≠ key)
    ready := m.ready ++ (m.held.filter (·.1 = key)).map (·.2) }

/-- A store write in flight completes: the stored record, and the reply that was held for it (R15, R171). -/
def writeCompleted (key : StoreKey) (s : State) : State :=
  if s.writing key then
    let s1 := completeWrite key s
    { s1 with mgmt := ⟨s1.mgmt.control.release key, s1.mgmt.console.release key⟩ }
  else s

/-! ### The control watch (R175, R176) -/

/-- A valid frame on a port restarts the watch of port 0, or ends control loss (R175). -/
def watchFrame (port : MgmtPort) (s : State) : State :=
  match port, s.watch with
  | .control, .running _ => { s with watch := .running s.now }
  | .control, .expired => { s with watch := .running s.now }.post ⟨.controlRestored, .notice, .none, []⟩
  | _, _ => s

/-- Trigger 31, the control-loss trigger (R147). -/
def lossTrigger : TriggerNo := 31

/-- CONTROL_LOST: the window, and the outcome of the invocation or ENTRY_ABSENT (R175). -/
def controlLostNote (window : Nat) (outcome : Option Answer) : Note :=
  ⟨.controlLost, .alarm, .none, .quantity window :: optField (fun (a : Answer) => .named a.ctorIdx) outcome⟩

/-- The watch reaches its window: CONTROL_LOST is set, trigger 31 invoked, CONTROL_LOST posted (R160, R175). A window
that a frame has restarted at this moment is not reached: no loss occurs (R175, assumption 24). -/
def watchExpired (s : State) : Handed :=
  match s.watch with
  | .running since =>
    if justBegun s (some since) then (s, [])
    else
      let s1 := { s with watch := .expired }
      if s1.work.triggers[lossTrigger].present then
        let x := invokeFrom s1 lossTrigger .controlWatch
        (x.2.1, x.2.2 ++ [.posts [controlLostNote s.work.window (some x.1)]])
      else (s1, [.posts [controlLostNote s.work.window none]])
  | _ => (s, [])

/-- The window in force that a WATCH SET value gives (R176). -/
def windowOf (v : Int) : Nat :=
  let w := clampNat 0 60 v
  if w = 0 then 0 else max 2 w

/-- WATCH SET (R176). -/
def watchSet (window : Int) (s : State) : Result :=
  if s.writing .watch then refuse s .busy
  else
    let w := windowOf window
    written .watch (clampAnswer ((w : Int) != window)) [.quantity w]
      ({ s with work := { s.work with window := w }, watch := if w = 0 then .off else .running s.now }, [])

/-! ### The other requests of the MANAGEMENT group (R170, R174, R178) -/

/-- The family number of the head-end (R178). -/
def familyNumber : Nat := 7420

/-- HELLO (R178). -/
def hello (port : MgmtPort) (s : State) : Result :=
  answered s [.count familyNumber, .count Config.siliconRevision.toNat, .serial Config.serialNumber.toNat,
    .ident port.ctorIdx, .named (s.mgmt.get port).authority.ctorIdx, .named s.lastReset.ctorIdx,
    .wide (sinceReset s / 1000)]

/-- The watch state with its elapsed time (R163, R178), which is sent behind RUNNING without a presence byte: the model's
choice (DESIGN CHOICE, assumption 13). -/
def watchFields (s : State) : List Field :=
  match s.watch with
  | .off => [.named 0]
  | .running since => [.named 1, .quantity (elapsed s since / 1000)]
  | .expired => [.named 2]

/-- STATUS (R178): the request itself has joined the outstanding list and is not yet READY. -/
def status (port : MgmtPort) (s : State) : Result :=
  let m := s.mgmt.get port
  answered s (List.flatten [[.named m.authority.ctorIdx, .count (m.outstanding + 1), .count m.ready.length,
    .count m.events.length, .flag m.overflow],
    listField (fun (g : GroupNo) => .named g.val) (s.work.denied.get port),
    [.count m.framing, .count m.room, .quantity s.work.window], watchFields s,
    [.ident (summaryWith s port (m.outstanding + 1)).toNat]])

/-- READ EVENTS (R174): the oldest records, up to 8; a queue left empty clears the overflow flag. -/
def readEvents (port : MgmtPort) (s : State) : Result :=
  let m := s.mgmt.get port
  let taken := m.events.take 8
  let left := m.events.drop 8
  done .accepted (.entries taken.length :: taken.flatMap Record.fields)
    (s.setMgmt port { m with events := left, overflow := m.overflow && !left.isEmpty }, [])

/-- PERMIT SET (R170). -/
def permitSet (port : MgmtPort) (target : Nat) (groups : List Nat) (s : State) : Result :=
  match mgmtOf target, allOf groupOf groups with
  | some p, some gs =>
    if s.writing (.denyMap p) then refuse s .busy
    else if p = port ∧ (0 : GroupNo) ∈ gs then refuse s .selfLockout
    else written (.denyMap p) .accepted []
      ({ s with work := { s.work with denied := s.work.denied.set p (asSet gs) } }, [])
  | _, _ => refuse s .badId

/-! ### Admission (R168, R169, R172) -/

/-- The minimum authority of a request's kind (R172). -/
def minimumAuthority : Request → Authority
  | .hello | .status | .keepalive | .readEvents | .carrierGet .. | .ruGet .. | .zoneGet ..
  | .ruAllocation .. | .portStatus .. | .ringStatus .. | .refStatus | .rescueStatus .. | .breakinList
  | .clipList .. | .planRead .. | .stackRead => .view
  | .portRenegotiate .. | .consoleKey .. | .consoleUnkey .. | .breakinPost .. | .breakinWithdraw .. => .operate
  | .invoke .. | .standDown | .standDownAll => .incident
  | .permitSet .. | .watchSet .. | .restart | .carrierSet .. | .carrierClear .. | .ruSet .. | .zoneSet ..
  | .portConfig .. | .portEnable .. | .portDisable .. | .spanTestStart .. | .spanTestStop ..
  | .ringRevert .. | .refConfig .. | .refForceHoldover | .refResume | .voterConfig .. | .clipOpen ..
  | .clipPage .. | .clipDelete .. | .planLoad .. | .triggerSet .. | .contactSet .. => .maintain

/-- The group of a request: its kind value over 16 (R172). -/
def requestGroup (r : Request) : GroupNo := Fin.ofNat 8 (Request.kind r / 16)

/-- The kind-specific checks and the effect of an admitted request (check 5 of R169). RESTART, which has no
reply of its own once it acts, is carried out by `takeRequestOn`. -/
def carry (port : MgmtPort) (authority : Authority) (r : Request) (s : State) : Result :=
  match r with
  | .hello => hello port s
  | .status => status port s
  | .keepalive => answered s []
  | .readEvents => readEvents port s
  | .permitSet target groups => permitSet port target groups s
  | .watchSet w => watchSet w s
  | .restart => refuse s .busy
  | .carrierGet c => carrierGet c s
  | .ruGet p => ruGet p s
  | .zoneGet z => zoneGet z s
  | .ruAllocation p => ruAllocation p s
  | .carrierSet a => carrierSet a s
  | .carrierClear c => carrierClear c s
  | .ruSet a => ruSet a s
  | .zoneSet a => zoneSet a s
  | .portStatus p => portStatus p s
  | .ringStatus r => ringStatus r s
  | .portRenegotiate p => portRenegotiate p s
  | .portConfig a => portConfig a s
  | .portEnable p => portEnable p s
  | .portDisable p => portDisable p s
  | .spanTestStart a => spanTestStart a s
  | .spanTestStop p => spanTestStop p s
  | .ringRevert r => ringRevert r s
  | .refStatus => refStatus s
  | .refConfig a => refConfig a s
  | .refForceHoldover => refForceHoldover s
  | .refResume => refResume s
  | .rescueStatus c => rescueStatus c s
  | .consoleKey c => consoleKey port c s
  | .consoleUnkey c => consoleUnkey port c s
  | .voterConfig a => voterConfig a s
  | .breakinList => breakinList s
  | .breakinPost a => breakinPost port a s
  | .breakinWithdraw n => breakinWithdraw authority n s
  | .clipList c => clipList c s
  | .clipOpen c n => clipOpen c n s
  | .clipPage c i payload => clipPage c i payload s
  | .clipDelete c => clipDelete c s
  | .planRead x => planRead x s
  | .stackRead => stackRead s
  | .invoke t => invoke port authority t s
  | .standDown => standDown port authority s
  | .standDownAll => standDownAll port s
  | .planLoad p x => planLoad p x s
  | .triggerSet a => triggerSet a s
  | .contactSet a => contactSet a s

/-- A reply joins the outstanding list: HELD for a write, or READY (R169, R171). -/
def MgmtRec.reply (m : MgmtRec) (writes : Option StoreKey) (r : Reply) : MgmtRec :=
  match writes with
  | none => { m with ready := m.ready ++ [r] }
  | some key => { m with held := m.held ++ [(key, r)] }

/-- A request's result becomes its reply, and its store write begins (R15, R169, R171). -/
def conclude (port : MgmtPort) (tag kind : Byte) (x : Result) : Handed :=
  let s := { x.state with inFlight := x.state.inFlight ++ x.writes.toList }
  (s.setMgmt port ((s.mgmt.get port).reply x.writes ⟨kind, tag, x.answer, x.payload⟩), x.hands)

/-- Checks 3 and 4 of R169: the outcome of the first that fails. -/
def admission (port : MgmtPort) (r : Request) (s : State) : Option Answer :=
  if !Authority.atLeast (s.mgmt.get port).authority (minimumAuthority r) then some .authority
  else if requestGroup r ∈ s.work.denied.get port then some .denied
  else none

/-- A taken request is admitted and carried out, or refused (R169, R178). -/
def takeRequestOn (port : MgmtPort) (tag kind : Byte) (d : Decoded) (s : State) : Handed :=
  match d with
  | .unknownKind => conclude port tag kind (refuse s .unknownKind)
  | .badLength => conclude port tag kind (refuse s .badLength)
  | .request r =>
    match admission port r s with
    | some a => conclude port tag kind (refuse s a)
    | none =>
      if r = .restart ∧ s.inFlight = [] then restartReset s
      else conclude port tag kind (carry port (s.mgmt.get port).authority r s)

/-- A valid frame has been received whole on a port: it reaches the watch, and is taken when fewer than 2
requests are outstanding, discarded otherwise (R168, R175). -/
def frameTaken (port : MgmtPort) (tag kind : Byte) (d : Decoded) (s : State) : Handed :=
  let s1 := watchFrame port s
  let m := s1.mgmt.get port
  if m.outstanding < 2 then takeRequestOn port tag kind d s1
  else (s1.setMgmt port { m with room := bump m.room }, [])

/-- Whether a port reads the frames it receives: it is SYNCED, and no reset runs (R165, R177). -/
def State.listening (s : State) (port : MgmtPort) : Bool := !s.inReset && (s.mgmt.get port).synced

/-- A frame received whole on a port (R168). -/
def receiveFrame (port : MgmtPort) (tag kind : Byte) (d : Decoded) (s : State) : State :=
  if s.listening port then settled (frameTaken port tag kind d s) else s

/-- What checks 1 and 2 make of a request given by its fields: a clip page has 1536 bytes (R126, R169). -/
def Request.decoded (r : Request) : Decoded :=
  match r with
  | .clipPage _ _ payload => if payload.length = pageBytes then .request r else .badLength
  | _ => .request r

/-- A request received whole on a port, given by its fields. -/
def receive (port : MgmtPort) (tag : Byte) (r : Request) (s : State) : State :=
  receiveFrame port tag (BitVec.ofNat 8 (Request.kind r)) (Request.decoded r) s

end Sys2Proof.Machine
end

