-- ==== Sys2Proof/Machine/Events.lean ====
section
/-! DEFINITION. The meaning of each row of spec/opcode_table.json that is an event of the hardware. While a
reset runs the head-end takes no frame, contact change or beacon and its blocks are held (R177, assumption 8);
the reference unit runs on (R76), and pins keep their levels. -/

namespace Sys2Proof.Machine

open Sys2Proof

/-- What a meaning answers. -/
abbrev Answered := Host.Outcome State Fault Refusal

/-- An event that acts only while no reset runs (R177). -/
def inService (f : State → State) (s : State) : State := if s.inReset then s else f s

/-! ### Resets (R177) -/

/-- POWER_ON: power is applied (R177). -/
def execPowerOn (s : State) : Answered := .next (beginReset .powerOn s)

/-- RESET_LINE: the reset line is asserted (R177). -/
def execResetLine (s : State) : Answered := .next (beginReset .resetLine s)

/-- SUPPLY_DIP: the supply monitor trips (R177). -/
def execSupplyDip (s : State) : Answered := .next (beginReset .supplyDip s)

/-- RESET_END: the reset that runs ends; without one the straps and the rest stand (R163, R177). -/
def execResetEnd (straps : Nat) (written : List StoreKey) (s : State) : Answered :=
  .next (if s.inReset then settled (endReset (recordedKind s.causes) straps written s) else s)

/-! ### Management ports (R165 to R171) -/

/-- EXCHANGE_OPEN (R167). -/
def execExchangeOpen (port : MgmtPort) (s : State) : Answered := .next (openExchange port s)

/-- PORT_SYNC (R165). -/
def execPortSync (port : MgmtPort) (s : State) : Answered := .next (inService (syncPort port) s)

/-- EXCHANGE_END (R165, R166). -/
def execExchangeEnd (port : MgmtPort) (midFrame : Bool) (s : State) : Answered :=
  .next (closeExchange port midFrame s)

/-- FRAMING_FAULT (R165). -/
def execFramingFault (port : MgmtPort) (_cause : FramingCause) (s : State) : Answered :=
  .next (inService (fun s => s.setMgmt port (s.mgmt.get port).faulted) s)

/-- REQUEST_FRAME_RECEIVED (R168): the kind and payload of a frame are read by checks 1 and 2 of R169. -/
def execRequestFrameReceived (port : MgmtPort) (kind tag : Byte) (payload : List Byte) (s : State) : Answered :=
  .next (receiveFrame port tag kind (decodeRequest kind.toNat payload) s)

/-- REPLY_CLOCKED_OUT (R166). -/
def execReplyClockedOut (port : MgmtPort) (s : State) : Answered := .next (inService (replySent port) s)

/-- STORE_WRITE_COMPLETE (R15, R171). -/
def execStoreWriteComplete (key : StoreKey) (s : State) : Answered := .next (inService (writeCompleted key) s)

/-! ### Broadcast (R136) -/

/-- PAGE_END (R136). -/
def execPageEnd (player : PlayerNo) (s : State) : Answered :=
  .next (inService (fun s => settled (pageEnded player s)) s)

/-! ### Span ports, beacons and rings (R22 to R37, R57) -/

/-- BREAK_TIMER_EXPIRY (R23, R24). -/
def execBreakTimerExpiry (p : SpanPort) (s : State) : Answered := .next (inService (breakEnded p) s)

/-- ADVERTISEMENT_RECEIVED (R24, R25, R27). -/
def execAdvertisementReceived (p : SpanPort) (grades : GradeSet) (ack : Bool) (identity : Nat) (s : State) :
    Answered :=
  .next (inService (fun s => settled (advertised p grades ack identity s)) s)

/-- IDLE_PATTERN_RECEIVED (R22, R26, R27). -/
def execIdlePatternReceived (p : SpanPort) (pattern : IdlePattern) (s : State) : Answered :=
  .next (inService (fun s => settled (patternSeen p pattern s)) s)

/-- ADVERTISE_TIMER_EXPIRY (R26). -/
def execAdvertiseTimerExpiry (p : SpanPort) (s : State) : Answered :=
  .next (inService (fun s => settled (advertiseEnded p s)) s)

/-- LOSS_OF_SIGNAL (R22, R27, R39). -/
def execLossOfSignal (p : SpanPort) (s : State) : Answered :=
  .next (inService (fun s => settled (signalLost p s)) s)

/-- SIGNAL_RESTORED (R22). -/
def execSignalRestored (p : SpanPort) (s : State) : Answered := .next (inService (signalSeen p) s)

/-- BEACON_RECEIVED (R30 to R33). -/
def execBeaconReceived (p : SpanPort) (b : Beacon) (s : State) : Answered :=
  .next (inService (fun s => settled (beaconArrived p b s)) s)

/-- SILENCE_TIMER_EXPIRY (R31). -/
def execSilenceTimerExpiry (q : Position) (s : State) : Answered :=
  .next (inService (fun s => settled (silenceEnded q s)) s)

/-- WAIT_TO_RESTORE_EXPIRY (R57). -/
def execWaitToRestoreExpiry (r : Ring) (s : State) : Answered :=
  .next (inService (fun s => settled (restoreEvent r .restore s)) s)

/-- UPLINK_BLOCK_ARRIVAL (R34, R35). -/
def execUplinkBlockArrival (p : SpanPort) (block : UplinkBlock) (s : State) : Answered :=
  .next (inService (blockArrived p block) s)

/-- BLOCK_TICK (R34, R35, R110). -/
def execBlockTick (s : State) : Answered := .next (inService (fun s => settled (blockTicked s)) s)

/-- SLIP_BURST_CLEAR (R37). -/
def execSlipBurstClear (p : SpanPort) (s : State) : Answered := .next (inService (burstCleared p) s)

/-! ### Voters (R113, R117, R118) -/

/-- HANG_EXPIRY (R113). -/
def execHangExpiry (ch : ChannelNo) (s : State) : Answered :=
  .next (inService (fun s => settled (hangEnd ch s)) s)

/-- KEY_LIMIT_EXPIRY (R117). -/
def execKeyLimitExpiry (ch : ChannelNo) (s : State) : Answered :=
  .next (inService (fun s => settled (keyLimit ch s)) s)

/-- BASE_KEY_CHANGE (R118): the lane keeps its signal through a reset, which reads it at its end (R123). -/
def execBaseKeyChange (ch : ChannelNo) (asserted : Bool) (s : State) : Answered :=
  .next (inService (fun s => settled (baseKeyed ch asserted s)) { s with baseLane := s.baseLane.set ch asserted })

/-! ### The span test (R39, R40) -/

/-- TEST_LOCK (R39). -/
def execTestLock (p : SpanPort) (s : State) : Answered := .next (inService (testLocked p) s)

/-- TEST_LOCK_TIMEOUT (R39, R40). -/
def execTestLockTimeout (p : SpanPort) (s : State) : Answered :=
  .next (inService (stopTest p .noLock (fun t => !t.locked)) s)

/-- SPAN_TEST_TIMER_EXPIRY (R40). -/
def execSpanTestTimerExpiry (p : SpanPort) (s : State) : Answered :=
  .next (inService (stopTest p .duration (fun _ => true)) s)

/-- TEST_BIT_ERROR (R39). -/
def execTestBitError (p : SpanPort) (s : State) : Answered := .next (inService (testError p) s)

/-! ### The reference unit (R63 to R71), which a reset may keep running (R76) -/

/-- SOURCE_SIGNAL_CHANGE (R63). -/
def execSourceSignalChange (src : Source) (valid : Bool) (s : State) : Answered :=
  .next (sourceSignal src valid s)

/-- SOURCE_PRESENT (R63). -/
def execSourcePresent (src : Source) (s : State) : Answered := .next (settled (sourceAppears src s))

/-- SOURCE_ABSENT (R63). -/
def execSourceAbsent (src : Source) (s : State) : Answered := .next (settled (sourceVanishes src s))

/-- WARMUP_END (R66). -/
def execWarmupEnd (s : State) : Answered := .next (settled (warmupEnded s))

/-- MEASUREMENT (R65, R68 to R70). -/
def execMeasurement (offset : Int) (s : State) : Answered := .next (settled (measured offset s))

/-- SWITCH_TIMER_EXPIRY (R70). -/
def execSwitchTimerExpiry (s : State) : Answered := .next (settled (switchEnded s))

/-- HOLDOVER_EXPIRY (R71). -/
def execHoldoverExpiry (s : State) : Answered := .next (settled (holdoverEnded s))

/-! ### Contacts and the control watch (R157 to R160, R175) -/

/-- CONTACT_LEVEL_CHANGE (R157): the input keeps its level through a reset, after which its debounce starts
anew (R162). -/
def execContactLevelChange (c : ContactNo) (level : Level) (s : State) : Answered :=
  .next (if s.inReset then s.setContact c { s.contacts[c] with raw := level } else rawLevel c level s)

/-- DEBOUNCE_TIMER_EXPIRY (R157). -/
def execDebounceTimerExpiry (c : ContactNo) (s : State) : Answered :=
  .next (inService (fun s => settled (debounced c s)) s)

/-- WATCH_EXPIRY (R175). -/
def execWatchExpiry (s : State) : Answered := .next (inService (fun s => settled (watchExpired s)) s)

end Sys2Proof.Machine
end

