-- ==== Sys2Proof/Machine/Requests.lean ====
section
/-! DEFINITION. The meaning of each row of spec/opcode_table.json that is a request kind: the receipt of a
valid frame of that kind on a port (R168), from its discard for want of room to its reply. -/

namespace Sys2Proof.Machine

open Sys2Proof

/-! ### Group MANAGEMENT -/

/-- HELLO (R178). -/
def execHello (port : MgmtPort) (tag : Byte) (s : State) : Answered :=
  .next (receive port tag .hello s)

/-- STATUS (R178). -/
def execStatus (port : MgmtPort) (tag : Byte) (s : State) : Answered :=
  .next (receive port tag .status s)

/-- KEEPALIVE (R178). -/
def execKeepalive (port : MgmtPort) (tag : Byte) (s : State) : Answered :=
  .next (receive port tag .keepalive s)

/-- READ EVENTS (R174). -/
def execReadEvents (port : MgmtPort) (tag : Byte) (s : State) : Answered :=
  .next (receive port tag .readEvents s)

/-- PERMIT SET (R170). -/
def execPermitSet (port : MgmtPort) (tag : Byte) (target : Nat) (groups : List Nat) (s : State) : Answered :=
  .next (receive port tag (.permitSet target groups) s)

/-- WATCH SET (R176). -/
def execWatchSet (port : MgmtPort) (tag : Byte) (window : Int) (s : State) : Answered :=
  .next (receive port tag (.watchSet window) s)

/-- RESTART (R178). -/
def execRestart (port : MgmtPort) (tag : Byte) (s : State) : Answered :=
  .next (receive port tag .restart s)

/-! ### Group MODEL -/

/-- CARRIER GET (R6). -/
def execCarrierGet (port : MgmtPort) (tag : Byte) (carrier : Nat) (s : State) : Answered :=
  .next (receive port tag (.carrierGet carrier) s)

/-- CARRIER SET (R4). -/
def execCarrierSet (port : MgmtPort) (tag : Byte) (a : CarrierSetArgs) (s : State) : Answered :=
  .next (receive port tag (.carrierSet a) s)

/-- CARRIER CLEAR (R5). -/
def execCarrierClear (port : MgmtPort) (tag : Byte) (carrier : Nat) (s : State) : Answered :=
  .next (receive port tag (.carrierClear carrier) s)

/-- RU GET (R12). -/
def execRuGet (port : MgmtPort) (tag : Byte) (position : Nat) (s : State) : Answered :=
  .next (receive port tag (.ruGet position) s)

/-- RU SET (R10, R11). -/
def execRuSet (port : MgmtPort) (tag : Byte) (a : RuSetArgs) (s : State) : Answered :=
  .next (receive port tag (.ruSet a) s)

/-- ZONE GET (R14). -/
def execZoneGet (port : MgmtPort) (tag : Byte) (zone : Nat) (s : State) : Answered :=
  .next (receive port tag (.zoneGet zone) s)

/-- ZONE SET (R13, R14). -/
def execZoneSet (port : MgmtPort) (tag : Byte) (a : ZoneSetArgs) (s : State) : Answered :=
  .next (receive port tag (.zoneSet a) s)

/-- RU ALLOCATION (R105). -/
def execRuAllocation (port : MgmtPort) (tag : Byte) (position : Nat) (s : State) : Answered :=
  .next (receive port tag (.ruAllocation position) s)

/-! ### Group SPAN -/

/-- PORT STATUS (R41). -/
def execPortStatus (port : MgmtPort) (tag : Byte) (span : Nat) (s : State) : Answered :=
  .next (receive port tag (.portStatus span) s)

/-- RING STATUS (R61). -/
def execRingStatus (port : MgmtPort) (tag : Byte) (ring : Nat) (s : State) : Answered :=
  .next (receive port tag (.ringStatus ring) s)

/-- PORT RENEGOTIATE (R28). -/
def execPortRenegotiate (port : MgmtPort) (tag : Byte) (span : Nat) (s : State) : Answered :=
  .next (receive port tag (.portRenegotiate span) s)

/-- PORT CONFIG (R21). -/
def execPortConfig (port : MgmtPort) (tag : Byte) (a : PortConfigArgs) (s : State) : Answered :=
  .next (receive port tag (.portConfig a) s)

/-- PORT ENABLE (R29). -/
def execPortEnable (port : MgmtPort) (tag : Byte) (span : Nat) (s : State) : Answered :=
  .next (receive port tag (.portEnable span) s)

/-- PORT DISABLE (R29). -/
def execPortDisable (port : MgmtPort) (tag : Byte) (span : Nat) (s : State) : Answered :=
  .next (receive port tag (.portDisable span) s)

/-- SPAN TEST START (R38). -/
def execSpanTestStart (port : MgmtPort) (tag : Byte) (a : SpanTestArgs) (s : State) : Answered :=
  .next (receive port tag (.spanTestStart a) s)

/-- SPAN TEST STOP (R40). -/
def execSpanTestStop (port : MgmtPort) (tag : Byte) (span : Nat) (s : State) : Answered :=
  .next (receive port tag (.spanTestStop span) s)

/-- RING REVERT (R59). -/
def execRingRevert (port : MgmtPort) (tag : Byte) (ring : Nat) (s : State) : Answered :=
  .next (receive port tag (.ringRevert ring) s)

/-! ### Group REFERENCE -/

/-- REF STATUS (R75). -/
def execRefStatus (port : MgmtPort) (tag : Byte) (s : State) : Answered :=
  .next (receive port tag .refStatus s)

/-- REF CONFIG (R64). -/
def execRefConfig (port : MgmtPort) (tag : Byte) (a : RefConfigArgs) (s : State) : Answered :=
  .next (receive port tag (.refConfig a) s)

/-- REF FORCE HOLDOVER (R72). -/
def execRefForceHoldover (port : MgmtPort) (tag : Byte) (s : State) : Answered :=
  .next (receive port tag .refForceHoldover s)

/-- REF RESUME (R72). -/
def execRefResume (port : MgmtPort) (tag : Byte) (s : State) : Answered :=
  .next (receive port tag .refResume s)

/-! ### Group RESCUE -/

/-- RESCUE STATUS (R122). -/
def execRescueStatus (port : MgmtPort) (tag : Byte) (channel : Nat) (s : State) : Answered :=
  .next (receive port tag (.rescueStatus channel) s)

/-- CONSOLE KEY (R116). -/
def execConsoleKey (port : MgmtPort) (tag : Byte) (channel : Nat) (s : State) : Answered :=
  .next (receive port tag (.consoleKey channel) s)

/-- CONSOLE UNKEY (R116). -/
def execConsoleUnkey (port : MgmtPort) (tag : Byte) (channel : Nat) (s : State) : Answered :=
  .next (receive port tag (.consoleUnkey channel) s)

/-- VOTER CONFIG (R121). -/
def execVoterConfig (port : MgmtPort) (tag : Byte) (a : VoterConfigArgs) (s : State) : Answered :=
  .next (receive port tag (.voterConfig a) s)

/-! ### Group BROADCAST -/

/-- BREAKIN LIST (R142). -/
def execBreakinList (port : MgmtPort) (tag : Byte) (s : State) : Answered :=
  .next (receive port tag .breakinList s)

/-- BREAKIN POST (R131). -/
def execBreakinPost (port : MgmtPort) (tag : Byte) (a : BreakInArgs) (s : State) : Answered :=
  .next (receive port tag (.breakinPost a) s)

/-- BREAKIN WITHDRAW (R133). -/
def execBreakinWithdraw (port : MgmtPort) (tag : Byte) (request : Nat) (s : State) : Answered :=
  .next (receive port tag (.breakinWithdraw request) s)

/-! ### Group CLIPS -/

/-- CLIP LIST (R129). -/
def execClipList (port : MgmtPort) (tag : Byte) (clip : Nat) (s : State) : Answered :=
  .next (receive port tag (.clipList clip) s)

/-- CLIP OPEN (R125). -/
def execClipOpen (port : MgmtPort) (tag : Byte) (clip : Nat) (pages : Nat) (s : State) : Answered :=
  .next (receive port tag (.clipOpen clip pages) s)

/-- CLIP PAGE (R126). -/
def execClipPage (port : MgmtPort) (tag : Byte) (clip : Nat) (index : Nat) (payload : List Byte) (s : State) :
    Answered :=
  .next (receive port tag (.clipPage clip index payload) s)

/-- CLIP DELETE (R128). -/
def execClipDelete (port : MgmtPort) (tag : Byte) (clip : Nat) (s : State) : Answered :=
  .next (receive port tag (.clipDelete clip) s)

/-! ### Group PLANS -/

/-- PLAN READ (R161). -/
def execPlanRead (port : MgmtPort) (tag : Byte) (selector : Nat) (s : State) : Answered :=
  .next (receive port tag (.planRead selector) s)

/-- STACK READ (R161). -/
def execStackRead (port : MgmtPort) (tag : Byte) (s : State) : Answered :=
  .next (receive port tag .stackRead s)

/-- INVOKE (R149). -/
def execInvoke (port : MgmtPort) (tag : Byte) (trigger : Nat) (s : State) : Answered :=
  .next (receive port tag (.invoke trigger) s)

/-- STAND DOWN (R152). -/
def execStandDown (port : MgmtPort) (tag : Byte) (s : State) : Answered :=
  .next (receive port tag .standDown s)

/-- STAND DOWN ALL (R153). -/
def execStandDownAll (port : MgmtPort) (tag : Byte) (s : State) : Answered :=
  .next (receive port tag .standDownAll s)

/-- PLAN LOAD (R145). -/
def execPlanLoad (port : MgmtPort) (tag : Byte) (plan : Nat) (record : Option PlanArgs) (s : State) :
    Answered :=
  .next (receive port tag (.planLoad plan record) s)

/-- TRIGGER SET (R147). -/
def execTriggerSet (port : MgmtPort) (tag : Byte) (a : TriggerSetArgs) (s : State) : Answered :=
  .next (receive port tag (.triggerSet a) s)

/-- CONTACT SET (R156). -/
def execContactSet (port : MgmtPort) (tag : Byte) (a : ContactSetArgs) (s : State) : Answered :=
  .next (receive port tag (.contactSet a) s)

end Sys2Proof.Machine
end

