-- ==== Sys2Proof/Machine/Dispatch.lean ====
section
/-! DEFINITION. One arm for each row of spec/opcode_table.json. -/

namespace Sys2Proof.Machine

open Sys2Proof

def exec (i : Instr) (s : State) : Host.Outcome State Fault Refusal :=
  match i with
  | .powerOn => Sys2Proof.Machine.execPowerOn s
  | .resetLine => Sys2Proof.Machine.execResetLine s
  | .supplyDip => Sys2Proof.Machine.execSupplyDip s
  | .resetEnd straps written => Sys2Proof.Machine.execResetEnd straps written s
  | .exchangeOpen port => Sys2Proof.Machine.execExchangeOpen port s
  | .portSync port => Sys2Proof.Machine.execPortSync port s
  | .exchangeEnd port midFrame => Sys2Proof.Machine.execExchangeEnd port midFrame s
  | .framingFault port cause => Sys2Proof.Machine.execFramingFault port cause s
  | .requestFrameReceived port kind tag payload => Sys2Proof.Machine.execRequestFrameReceived port kind tag payload s
  | .replyClockedOut port => Sys2Proof.Machine.execReplyClockedOut port s
  | .storeWriteComplete key => Sys2Proof.Machine.execStoreWriteComplete key s
  | .hello port tag => Sys2Proof.Machine.execHello port tag s
  | .status port tag => Sys2Proof.Machine.execStatus port tag s
  | .keepalive port tag => Sys2Proof.Machine.execKeepalive port tag s
  | .readEvents port tag => Sys2Proof.Machine.execReadEvents port tag s
  | .permitSet port tag target groups => Sys2Proof.Machine.execPermitSet port tag target groups s
  | .watchSet port tag window => Sys2Proof.Machine.execWatchSet port tag window s
  | .restart port tag => Sys2Proof.Machine.execRestart port tag s
  | .carrierGet port tag carrier => Sys2Proof.Machine.execCarrierGet port tag carrier s
  | .carrierSet port tag a => Sys2Proof.Machine.execCarrierSet port tag a s
  | .carrierClear port tag carrier => Sys2Proof.Machine.execCarrierClear port tag carrier s
  | .ruGet port tag position => Sys2Proof.Machine.execRuGet port tag position s
  | .ruSet port tag a => Sys2Proof.Machine.execRuSet port tag a s
  | .zoneGet port tag zone => Sys2Proof.Machine.execZoneGet port tag zone s
  | .zoneSet port tag a => Sys2Proof.Machine.execZoneSet port tag a s
  | .ruAllocation port tag position => Sys2Proof.Machine.execRuAllocation port tag position s
  | .portStatus port tag span => Sys2Proof.Machine.execPortStatus port tag span s
  | .ringStatus port tag ring => Sys2Proof.Machine.execRingStatus port tag ring s
  | .portRenegotiate port tag span => Sys2Proof.Machine.execPortRenegotiate port tag span s
  | .portConfig port tag a => Sys2Proof.Machine.execPortConfig port tag a s
  | .portEnable port tag span => Sys2Proof.Machine.execPortEnable port tag span s
  | .portDisable port tag span => Sys2Proof.Machine.execPortDisable port tag span s
  | .spanTestStart port tag a => Sys2Proof.Machine.execSpanTestStart port tag a s
  | .spanTestStop port tag span => Sys2Proof.Machine.execSpanTestStop port tag span s
  | .ringRevert port tag ring => Sys2Proof.Machine.execRingRevert port tag ring s
  | .refStatus port tag => Sys2Proof.Machine.execRefStatus port tag s
  | .refConfig port tag a => Sys2Proof.Machine.execRefConfig port tag a s
  | .refForceHoldover port tag => Sys2Proof.Machine.execRefForceHoldover port tag s
  | .refResume port tag => Sys2Proof.Machine.execRefResume port tag s
  | .rescueStatus port tag channel => Sys2Proof.Machine.execRescueStatus port tag channel s
  | .consoleKey port tag channel => Sys2Proof.Machine.execConsoleKey port tag channel s
  | .consoleUnkey port tag channel => Sys2Proof.Machine.execConsoleUnkey port tag channel s
  | .voterConfig port tag a => Sys2Proof.Machine.execVoterConfig port tag a s
  | .breakinList port tag => Sys2Proof.Machine.execBreakinList port tag s
  | .breakinPost port tag a => Sys2Proof.Machine.execBreakinPost port tag a s
  | .breakinWithdraw port tag request => Sys2Proof.Machine.execBreakinWithdraw port tag request s
  | .clipList port tag clip => Sys2Proof.Machine.execClipList port tag clip s
  | .clipOpen port tag clip pages => Sys2Proof.Machine.execClipOpen port tag clip pages s
  | .clipPage port tag clip index payload => Sys2Proof.Machine.execClipPage port tag clip index payload s
  | .clipDelete port tag clip => Sys2Proof.Machine.execClipDelete port tag clip s
  | .planRead port tag selector => Sys2Proof.Machine.execPlanRead port tag selector s
  | .stackRead port tag => Sys2Proof.Machine.execStackRead port tag s
  | .invoke port tag trigger => Sys2Proof.Machine.execInvoke port tag trigger s
  | .standDown port tag => Sys2Proof.Machine.execStandDown port tag s
  | .standDownAll port tag => Sys2Proof.Machine.execStandDownAll port tag s
  | .planLoad port tag plan record => Sys2Proof.Machine.execPlanLoad port tag plan record s
  | .triggerSet port tag a => Sys2Proof.Machine.execTriggerSet port tag a s
  | .contactSet port tag a => Sys2Proof.Machine.execContactSet port tag a s
  | .pageEnd player => Sys2Proof.Machine.execPageEnd player s
  | .breakTimerExpiry span => Sys2Proof.Machine.execBreakTimerExpiry span s
  | .advertisementReceived span grades ack identity => Sys2Proof.Machine.execAdvertisementReceived span grades ack identity s
  | .idlePatternReceived span pattern => Sys2Proof.Machine.execIdlePatternReceived span pattern s
  | .advertiseTimerExpiry span => Sys2Proof.Machine.execAdvertiseTimerExpiry span s
  | .lossOfSignal span => Sys2Proof.Machine.execLossOfSignal span s
  | .signalRestored span => Sys2Proof.Machine.execSignalRestored span s
  | .beaconReceived span beacon => Sys2Proof.Machine.execBeaconReceived span beacon s
  | .silenceTimerExpiry position => Sys2Proof.Machine.execSilenceTimerExpiry position s
  | .waitToRestoreExpiry ring => Sys2Proof.Machine.execWaitToRestoreExpiry ring s
  | .uplinkBlockArrival span block => Sys2Proof.Machine.execUplinkBlockArrival span block s
  | .blockTick => Sys2Proof.Machine.execBlockTick s
  | .slipBurstClear span => Sys2Proof.Machine.execSlipBurstClear span s
  | .hangExpiry channel => Sys2Proof.Machine.execHangExpiry channel s
  | .keyLimitExpiry channel => Sys2Proof.Machine.execKeyLimitExpiry channel s
  | .baseKeyChange channel asserted => Sys2Proof.Machine.execBaseKeyChange channel asserted s
  | .testLock span => Sys2Proof.Machine.execTestLock span s
  | .testLockTimeout span => Sys2Proof.Machine.execTestLockTimeout span s
  | .spanTestTimerExpiry span => Sys2Proof.Machine.execSpanTestTimerExpiry span s
  | .sourceSignalChange source valid => Sys2Proof.Machine.execSourceSignalChange source valid s
  | .sourcePresent source => Sys2Proof.Machine.execSourcePresent source s
  | .sourceAbsent source => Sys2Proof.Machine.execSourceAbsent source s
  | .warmupEnd => Sys2Proof.Machine.execWarmupEnd s
  | .measurement offset => Sys2Proof.Machine.execMeasurement offset s
  | .switchTimerExpiry => Sys2Proof.Machine.execSwitchTimerExpiry s
  | .holdoverExpiry => Sys2Proof.Machine.execHoldoverExpiry s
  | .contactLevelChange contact level => Sys2Proof.Machine.execContactLevelChange contact level s
  | .debounceTimerExpiry contact => Sys2Proof.Machine.execDebounceTimerExpiry contact s
  | .watchExpiry => Sys2Proof.Machine.execWatchExpiry s
  | .testBitError span => Sys2Proof.Machine.execTestBitError span s

end Sys2Proof.Machine
end

