-- ==== Sys2Proof/Machine/Outputs.lean ====
section
/-! DEFINITION. What the head-end puts out, read from its state: line signals, slot streams, what a unit
radiates, the voters' audio on both sides, announcement pages. No output is stored; each follows its block's
state. What stands at these outputs between the beginning and the end of a reset the manual does not say: the model reads
them from the state before the reset, which its blocks keep until the end (DESIGN CHOICE, assumption 8). -/

namespace Sys2Proof.Machine

open Sys2Proof

/-! ### Span ports (R20, R23, R24, R39, R85) -/

/-- The line signal of a span port. -/
inductive LineSignal where
  | silent
  | advertisement (grades : GradeSet) (ack : Bool) (identity : SpanPort)
  | traffic
  | pattern (p : Pattern)
  deriving DecidableEq, Repr

/-- What a port sends (R20, R23, R24, R39): its advertisement in ADVERTISE, traffic in UP, the pattern with its
loop request in a FAR test, nothing otherwise. What a port sends while a reset runs the manual does not say; the model
shows the signal of the port's state before the reset until the reset ends (DESIGN CHOICE, assumption 8). -/
def lineSignal (s : State) (p : SpanPort) : LineSignal :=
  let x := s.spans.get p
  match x.state with
  | .disabled | .breaking => .silent
  | .advertise => .advertisement x.advertising x.ownAck p
  | .up _ _ => .traffic
  | .test =>
    match x.test with
    | some t => if t.loop = .far then .pattern t.pattern else .silent
    | none => .silent

/-- The stream that fills a slot (R2, R85). -/
inductive SlotStream where
  | voter (ch : ChannelNo)
  | programme (n : Fin 4)
  | donor (lane : Nat)
  deriving DecidableEq, Repr

/-- The stream a carrier's slot draws on (R2, R85). -/
def streamOf (x : Carrier) : Option SlotStream :=
  match x.kind with
  | .rescue => x.channel.map .voter
  | .broadcast => x.programme.map .programme
  | .mobile => some (.donor x.lane)

/-- The stream that slot k of a path draws on: none while its port is not UP or the slot is empty (R20, R85). While a reset
runs it is the one before the reset, of which the manual does not speak (DESIGN CHOICE, assumption 8). -/
def slotStream (s : State) (path : SpanPort) (k : Nat) : Option SlotStream :=
  if (s.spans.get path).isUp then
    ((s.carriage.get path).carried.find? (·.2 = k)).bind fun e =>
      (s.work.catalogue[e.1.carrier]).bind streamOf
  else none

/-- What a broadcast slot carries to a unit: its programme, or a player's page in the programme's place. -/
inductive Insertion where
  | programme
  | page (p : PlayerNo)
  deriving DecidableEq, Repr

/-- What takes the programmes' place at a unit (R137, R139): the page of the player it hears. One whose zone carries
no announcement, or has carried none to it yet, keeps its programmes. While a reset runs it hears what it heard before (DESIGN
CHOICE, assumption 8). -/
def inserted (s : State) (p : Position) : Insertion :=
  match (posGet s.breakin.heard p).bind fun n => (s.breakin.queue.find? (·.acceptance = n)).bind BreakIn.player with
  | some player => .page player
  | none => .programme

/-- What fills a slot sent to one unit (R85, R137). -/
inductive SlotFill where
  | stream (x : SlotStream)
  | page (p : PlayerNo)
  deriving DecidableEq, Repr

/-- What slot k carries to a unit on its path: the slot's stream, but for a BROADCAST carrier what is inserted at that
unit (R85, R137). The other units of the path have the same slot filled by what is inserted at them. -/
def slotFill (s : State) (p : Position) (k : Nat) : Option SlotFill :=
  (s.unitState p).side.bind fun side =>
    (slotStream s ⟨p.ring, side⟩ k).map fun x =>
      match x, inserted s p with
      | .programme _, .page player => .page player
      | x, _ => .stream x

/-! ### Radiation (R102, R103, R137) -/

/-- A rescue carrier is on the air only while the voter of its channel is not IDLE (R115, R120); the other kinds do not
depend on a voter. -/
def voterAllows (s : State) (w : Wanted) : Bool :=
  w.kind != .rescue || w.channel.any fun ch => s.voters[ch].state != .idle

/-- The level at which a unit radiates a carrier, if it does (R102, R120). While a reset runs it is the one before the reset,
of which the manual does not speak (DESIGN CHOICE, assumption 8). -/
def radiates (s : State) (p : Position) (c : CarrierNo) : Option Int :=
  match (s.unitState p).side with
  | none => none
  | some side =>
    let r := posGet s.alloc p
    let carried := (s.carriage.get ⟨p.ring, side⟩).carried.find? (·.1.carrier = c)
    if (posGet s.beacons p).amplifier = .ok then
      carried.bind fun e =>
        if (classOf e.1.kind (s.announced p) = 0 ∨ s.gateOpen) ∧ voterAllows s e.1 then
          (r.grants.find? (·.1 = c)).map (·.2)
        else none
    else none

/-- The composite a unit radiates, in nanowatts (R102). -/
def radiated (s : State) (p : Position) : Nat :=
  linSum ((List.finRange 24).filterMap (radiates s p))

/-- Whether a unit radiates some BROADCAST carrier (R102). -/
def radiatesBroadcast (s : State) (p : Position) : Bool :=
  (List.finRange 24).any fun c => (radiates s p c).isSome && s.work.catalogue[c].any (·.kind = .broadcast)

/-- The clip and the page of the announcement that is heard at a unit in place of its programmes. A unit that radiates
no BROADCAST carrier, since it is not fed, has an amplifier fault, or has them shed, muted or held off, hears nothing of
it (R137). -/
def announcement (s : State) (p : Position) : Option (ClipNo × Nat) :=
  match radiatesBroadcast s p, inserted s p with
  | true, .page player =>
    (s.breakin.queue.find? (·.player = some player)).bind fun r =>
      (r.clips[r.clipIndex - 1]?).map fun c => (c, r.page)
  | _, _ => none

/-- The clip page a player plays: its 1536 bytes (R124, R136). While a reset runs it is the page before the reset, of which
the manual does not speak (DESIGN CHOICE, assumption 8). -/
def playing (s : State) (p : PlayerNo) : Option (List Byte) :=
  (s.breakin.queue.find? (·.player = some p)).bind fun r =>
    (r.clips[r.clipIndex - 1]?).map fun c => pageRead s.work.pages (s.work.clips[c].first + r.page)

/-! ### Voters (R115) -/

/-- Audio a voter puts out on one of its sides. -/
inductive VoterAudio where
  | silence
  | uplink (audio : Nat)
  | consoleTalk
  | baseTalk
  deriving DecidableEq, Repr

/-- The voted uplink of the last block event (R110). -/
def voted (v : VoterRec) : VoterAudio :=
  match v.forwarded with
  | some a => .uplink a
  | none => .silence

/-- The downlink of a channel's carrier; none while the voter is IDLE and the carrier does not radiate (R115). What it is
while a reset runs the manual does not say; the model shows that of the voter's state before the reset, with the audio of
its last block, until the reset ends (DESIGN CHOICE, assumption 8). -/
def downlink (v : VoterRec) : Option VoterAudio :=
  match v.state with
  | .idle => none
  | .repeating => some (voted v)
  | .hang => some .silence
  | .console => some .consoleTalk
  | .base => some .baseTalk

/-- What a voter sends out to the console and the surface base (R115), also where its channel covers no ring: the console's
talk there reaches the surface base alone (R116), which is read as it not being radiated, and not as it taking the place of
the voted uplink (DEDUCED, assumption 31). What it sends while a reset runs the manual does not say; the model shows what
the voter's state before the reset sends, with the audio of its last block, until the reset ends (DESIGN CHOICE, assumption
8). -/
def portalOut (v : VoterRec) : VoterAudio :=
  match v.state with
  | .idle | .hang => .silence
  | .repeating | .console | .base => voted v

/-! ### Management ports (R164, R166) -/

/-- The frame a SYNCED port has next to send: that of the first reply of its ready order (R166). While a reset runs, and in
a select that was opened during one, it sends none (R177). -/
def nextReply (s : State) (port : MgmtPort) : Option (List Byte) :=
  let m := s.mgmt.get port
  if m.replies && !s.inReset then m.ready.head?.map Reply.frame else none

/-- The byte a port sends after its summary byte where it sends no reply: 0xFF (R165, R166), and 0x00 in every byte of a
select opened during a reset, also after the reset's end (R177). A select opened before the reset, of which the manual
does not speak, has 0x00 while the reset runs (DESIGN CHOICE, assumption 16). -/
def idleByte (s : State) (port : MgmtPort) : Byte :=
  if s.inReset || (s.mgmt.get port).exchange = some .dark then 0x00 else 0xFF

end Sys2Proof.Machine
end

