-- ==== Sys2Proof/WellFormed.lean ====
section
/-! DEFINITION. Which commands can arise: a request's fields fit the bytes that carry them and its payload
fits a frame (R164); an event carries values the hardware can bring. -/

namespace Sys2Proof

/-- A number one byte can spell. -/
def fitsByte (n : Nat) : Bool := n < 256

/-- A number two bytes can spell. -/
def fitsCount (n : Nat) : Bool := n < 65536

/-- A number a quantity field can spell (R164). -/
def fitsQuantity (v : Int) : Bool := -32768 ≤ v && v ≤ 32767

/-- A number an identity serial can spell (R164). -/
def fitsSerial (n : Nat) : Bool := n < 4294967296

/-- A list whose count one byte can spell, of entries that fit. -/
def fitsList {α : Type} (fits : α → Bool) (xs : List α) : Bool := xs.length < 256 && xs.all fits

/-- A break-in post or template whose fields fit. -/
def BreakInArgs.fits (a : BreakInArgs) : Bool :=
  fitsList fitsByte a.zones && fitsList fitsByte a.clips && fitsQuantity a.priority && fitsCount a.repeats

/-- An entry of a carriage list that fits. -/
def fitsEntry (e : Nat × Int) : Bool := fitsByte e.1 && fitsQuantity e.2

/-- A plan record whose fields fit. -/
def PlanArgs.fits (a : PlanArgs) : Bool :=
  a.label.all (fitsList fun _ => true) && fitsByte a.authority && fitsList fitsEntry a.listN
    && fitsList fitsEntry a.listS && fitsList BreakInArgs.fits a.templates && a.override.all fitsQuantity

/-- Every field of a request fits the bytes that carry it. -/
def Request.fieldsFit : Request → Bool
  | .hello | .status | .keepalive | .readEvents | .restart | .refStatus | .refForceHoldover | .refResume
  | .breakinList | .stackRead | .standDown | .standDownAll => true
  | .permitSet t g => fitsByte t && fitsList fitsByte g
  | .watchSet w => fitsQuantity w
  | .carrierGet n | .ruGet n | .zoneGet n | .ruAllocation n | .carrierClear n | .portStatus n
  | .ringStatus n | .portRenegotiate n | .portEnable n | .portDisable n | .spanTestStop n | .ringRevert n
  | .rescueStatus n | .consoleKey n | .consoleUnkey n | .breakinWithdraw n | .clipList n | .clipDelete n
  | .planRead n | .invoke n => fitsByte n
  | .carrierSet a => fitsByte a.carrier && fitsByte a.kind && fitsByte a.lane && a.channel.all fitsByte
      && a.programme.all fitsByte
  | .ruSet a => fitsByte a.position && a.identity.all fitsSerial && fitsQuantity a.ceiling
      && fitsQuantity a.margin && fitsQuantity a.trim
  | .zoneSet a => fitsByte a.zone && fitsList fitsByte a.members
  | .portConfig a => fitsByte a.port && fitsList fitsByte a.grades && fitsQuantity a.threshold
      && a.restore.all fitsQuantity
  | .spanTestStart a => fitsByte a.port && fitsByte a.pattern && fitsByte a.loop && fitsQuantity a.duration
  | .refConfig a => fitsByte a.preferred && fitsQuantity a.limit
  | .voterConfig a => fitsByte a.channel && fitsQuantity a.hysteresis && fitsQuantity a.hang
  | .breakinPost a => a.fits
  | .clipOpen c n => fitsByte c && fitsCount n
  | .clipPage c i p => fitsByte c && fitsCount i && p.length == 1536
  | .planLoad p r => fitsByte p && r.all PlanArgs.fits
  | .triggerSet a => fitsByte a.trigger && fitsByte a.minimum && fitsByte a.plan && fitsByte a.mode
  | .contactSet a => fitsByte a.contact && a.trigger.all fitsByte && fitsByte a.release
      && fitsByte a.polarity

/-- A request that a frame can carry: its fields fit, and its payload is at most 1600 bytes (R164). -/
def Request.WellFormed (r : Request) : Bool := r.fieldsFit && (encodeRequest r).length ≤ 1600

/-- The request a command of a request row stands for, with its port and its tag. -/
def Instr.request? : Instr → Option (MgmtPort × Byte × Request)
  | .hello p t => some (p, t, .hello)
  | .status p t => some (p, t, .status)
  | .keepalive p t => some (p, t, .keepalive)
  | .readEvents p t => some (p, t, .readEvents)
  | .permitSet p t a b => some (p, t, .permitSet a b)
  | .watchSet p t a => some (p, t, .watchSet a)
  | .restart p t => some (p, t, .restart)
  | .carrierGet p t a => some (p, t, .carrierGet a)
  | .carrierSet p t a => some (p, t, .carrierSet a)
  | .carrierClear p t a => some (p, t, .carrierClear a)
  | .ruGet p t a => some (p, t, .ruGet a)
  | .ruSet p t a => some (p, t, .ruSet a)
  | .zoneGet p t a => some (p, t, .zoneGet a)
  | .zoneSet p t a => some (p, t, .zoneSet a)
  | .ruAllocation p t a => some (p, t, .ruAllocation a)
  | .portStatus p t a => some (p, t, .portStatus a)
  | .ringStatus p t a => some (p, t, .ringStatus a)
  | .portRenegotiate p t a => some (p, t, .portRenegotiate a)
  | .portConfig p t a => some (p, t, .portConfig a)
  | .portEnable p t a => some (p, t, .portEnable a)
  | .portDisable p t a => some (p, t, .portDisable a)
  | .spanTestStart p t a => some (p, t, .spanTestStart a)
  | .spanTestStop p t a => some (p, t, .spanTestStop a)
  | .ringRevert p t a => some (p, t, .ringRevert a)
  | .refStatus p t => some (p, t, .refStatus)
  | .refConfig p t a => some (p, t, .refConfig a)
  | .refForceHoldover p t => some (p, t, .refForceHoldover)
  | .refResume p t => some (p, t, .refResume)
  | .rescueStatus p t a => some (p, t, .rescueStatus a)
  | .consoleKey p t a => some (p, t, .consoleKey a)
  | .consoleUnkey p t a => some (p, t, .consoleUnkey a)
  | .voterConfig p t a => some (p, t, .voterConfig a)
  | .breakinList p t => some (p, t, .breakinList)
  | .breakinPost p t a => some (p, t, .breakinPost a)
  | .breakinWithdraw p t a => some (p, t, .breakinWithdraw a)
  | .clipList p t a => some (p, t, .clipList a)
  | .clipOpen p t a b => some (p, t, .clipOpen a b)
  | .clipPage p t a b c => some (p, t, .clipPage a b c)
  | .clipDelete p t a => some (p, t, .clipDelete a)
  | .planRead p t a => some (p, t, .planRead a)
  | .stackRead p t => some (p, t, .stackRead)
  | .invoke p t a => some (p, t, .invoke a)
  | .standDown p t => some (p, t, .standDown)
  | .standDownAll p t => some (p, t, .standDownAll)
  | .planLoad p t a b => some (p, t, .planLoad a b)
  | .triggerSet p t a => some (p, t, .triggerSet a)
  | .contactSet p t a => some (p, t, .contactSet a)
  | .powerOn | .resetLine | .supplyDip | .resetEnd .. | .exchangeOpen .. | .portSync .. | .exchangeEnd ..
  | .framingFault .. | .requestFrameReceived .. | .replyClockedOut .. | .storeWriteComplete ..
  | .pageEnd .. | .breakTimerExpiry .. | .advertisementReceived .. | .idlePatternReceived ..
  | .advertiseTimerExpiry .. | .lossOfSignal .. | .signalRestored .. | .beaconReceived ..
  | .silenceTimerExpiry .. | .waitToRestoreExpiry .. | .uplinkBlockArrival .. | .blockTick
  | .slipBurstClear .. | .hangExpiry .. | .keyLimitExpiry .. | .baseKeyChange .. | .testLock ..
  | .testLockTimeout .. | .spanTestTimerExpiry .. | .sourceSignalChange .. | .sourcePresent ..
  | .sourceAbsent .. | .warmupEnd | .measurement .. | .switchTimerExpiry | .holdoverExpiry
  | .contactLevelChange .. | .debounceTimerExpiry .. | .watchExpiry | .testBitError .. => none

/-- A command that can arise. -/
def Instr.WellFormed (i : Instr) : Bool :=
  match i.request? with
  | some (_, _, r) => r.WellFormed
  | none =>
    match i with
    | .resetEnd straps _ => straps < 8
    | .requestFrameReceived _ kind _ payload => 1 ≤ kind.toNat && kind.toNat < 128 && payload.length ≤ 1600
    | .advertisementReceived _ _ _ identity => fitsSerial identity
    | .beaconReceived _ b => fitsSerial b.identity && b.number < 256
    | _ => true

end Sys2Proof
end

