-- ==== Sys2Proof/Safety.lean ====
section
/-! DEFINITION. The terms in which statements about the head-end are made: which parts of the state two states
share, when a port serves a request, how a reply is given, and the invariants of the machine. -/

namespace Sys2Proof.Machine

open Sys2Proof

/-! ### Frames: the parts of the state, and what a step leaves alone -/

/-- The parts of the state a frame speaks of. `ports` is all of both management ports but their event queues
and overflow flags, which are `events`. -/
inductive Part where
  | clock | resets | straps | baseLane | work | stored | inFlight | spans | beacons | rings | reference
  | carriage | alloc | voters | breakin | plans | contacts | ports | events | watch | choices | pending
  deriving DecidableEq, Repr

/-- A port record without its event queue and its overflow flag. -/
def MgmtRec.quiet (m : MgmtRec) : MgmtRec := { m with events := [], overflow := false }

/-- Two states agree on a part. -/
def Part.same (x : Part) (s t : State) : Prop :=
  match x with
  | .clock => t.now = s.now
  | .resets => t.resetAt = s.resetAt ∧ t.lastReset = s.lastReset ∧ t.causes = s.causes ∧ t.restarts = s.restarts
  | .straps => t.straps = s.straps
  | .baseLane => t.baseLane = s.baseLane
  | .work => t.work = s.work
  | .stored => t.stored = s.stored
  | .inFlight => t.inFlight = s.inFlight
  | .spans => t.spans = s.spans
  | .beacons => t.beacons = s.beacons
  | .rings => t.rings = s.rings
  | .reference => t.reference = s.reference
  | .carriage => t.carriage = s.carriage
  | .alloc => t.alloc = s.alloc
  | .voters => t.voters = s.voters
  | .breakin => t.breakin = s.breakin
  | .plans => t.plans = s.plans
  | .contacts => t.contacts = s.contacts
  | .ports => ∀ port, (t.mgmt.get port).quiet = (s.mgmt.get port).quiet
  | .events => ∀ port, (t.mgmt.get port).events = (s.mgmt.get port).events
      ∧ (t.mgmt.get port).overflow = (s.mgmt.get port).overflow
  | .watch => t.watch = s.watch
  | .choices => t.choices = s.choices
  | .pending => t.pending = s.pending

/-- Every part but the named ones is the same in two states. -/
def SameBut (changed : List Part) (s t : State) : Prop := ∀ x : Part, x ∉ changed → x.same s t

/-- The event queues of `t` are those of `s` after some records posted in order, and no others. -/
def PostsOnly (all : List Note) (s t : State) : Prop :=
  ∀ port, (t.mgmt.get port).events = ((s.postAll all).mgmt.get port).events ∧
    (t.mgmt.get port).overflow = ((s.postAll all).mgmt.get port).overflow

/-- The event queues of `t` are those of `s` after some records posted in order, of which `first` are the first. -/
def Posts (first : List Note) (s t : State) : Prop := ∃ more, PostsOnly (first ++ more) s t

/-- Some records are among those posted between `s` and `t`, in this order. -/
def Tells (notes : List Note) (s t : State) : Prop := ∃ all, notes.Sublist all ∧ PostsOnly all s t

/-- A record is among those posted between `s` and `t`. -/
abbrev Reports (note : Note) (s t : State) : Prop := Tells [note] s t

/-- The units of a ring that port A, or port B, feeds, by position (R54). -/
def fedFrom (s : State) (r : Ring) (side : Side) : List UnitNo :=
  (List.finRange 12).filter fun u => s.unitState ⟨r, u⟩ = match side with
    | .a => .fedA
    | .b => .fedB

/-- The record of span port q in `s`, with a pending invalid mark on its next output block where the port is UP and `t` has
other units on its feeding path than `s`; as it is where the path's units are the same (R36, R53). -/
def pathMarked (s t : State) (q : SpanPort) : Span :=
  if fedFrom t q.ring q.side = fedFrom s q.ring q.side then s.spans.get q else (s.spans.get q).marked

/-- FEED_CHANGE of a run of n units, `first` the lowest, that have come to a state: its severity by the state, and by the
cause for UNREACHABLE and MISMATCH; the causes numbered HOP 0, UNIT 1, MODEL 2, RESTORE 3, REVERT 4 (R52). That the states
have R44's numbers is the model's choice (assumption 33). -/
def feedRecord (r : Ring) (cause : Nat) (first : UnitNo) (state : UnitState) (n : Nat) : Note :=
  let told (severity : Severity) (number : Nat) : Note :=
    ⟨.feedChange, severity, .position ⟨r, first⟩, [.named number, .count n, .named cause]⟩
  let failed : Severity := if cause = 2 then .notice else .alarm
  match state with
  | .absent => told .notice 0
  | .fedA => told .notice 1
  | .fedB => told .warning 2
  | .unreachable => told failed 3
  | .mismatch => told failed 4

/-- The records of a change of a ring's unit states from `old` to `new` (R52): one for each run of consecutive units that
have entered the same state, as long as there are any at its two ends, so that each unit whose state has changed is in one
run and no other unit is in any. That they ascend by position is the model's reading (assumption 17). -/
def FeedReported (r : Ring) (cause : Nat) (old new : Vector UnitState 12) (notes : List Note) : Prop :=
  ∃ runs : List (UnitNo × UnitState × Nat),
    let holds (g : UnitNo × UnitState × Nat) (v : UnitNo) : Prop := g.1.val ≤ v.val ∧ v.val < g.1.val + g.2.2
    let entered (g : UnitNo × UnitState × Nat) (v : UnitNo) : Prop := old[v] ≠ new[v] ∧ new[v] = g.2.1
    notes = runs.map (fun g => feedRecord r cause g.1 g.2.1 g.2.2) ∧
    (∀ g ∈ runs, 0 < g.2.2 ∧ g.1.val + g.2.2 ≤ 12 ∧ (∀ v, holds g v → entered g v) ∧
      ∀ v : UnitNo, v.val + 1 = g.1.val ∨ v.val = g.1.val + g.2.2 → ¬entered g v) ∧
    (∀ v : UnitNo, old[v] ≠ new[v] → ∃ g ∈ runs, holds g v) ∧
    runs.Pairwise fun g h => g.1.val + g.2.2 ≤ h.1.val

/-- A span port has become `x`, so that its hop has changed, and `note` is posted, then FEED_CHANGE with cause HOP for the
units whose state has changed: the ring's topology record is formed afresh, and every other port has its mark exactly where
the units on its path have changed (R20, R36, R49, R52, R53). `x` says all of the port itself: on leaving UP it has no block
to mark, and on entering UP it has its mark. -/
def hopEvent (p : SpanPort) (x : Span) (note : Note) (s t : State) : Prop :=
  t.spans.get p = x ∧
  (∀ q, q ≠ p → t.spans.get q = pathMarked s t q) ∧
  t.rings = s.rings.set p.ring (recomputeRing (s.setSpan p x) p.ring []) ∧
  ∃ feeds, FeedReported p.ring 0 (s.rings.get p.ring).units (t.rings.get p.ring).units feeds ∧ Posts (note :: feeds) s t

/-- The waiting units of a ring have returned in `t` from `s`: the timer has stopped, every unit that was FED_B and
reachable from A is FED_A, with FEED_CHANGE of a cause's code for each run of them, both ports' next output blocks are
marked, and the units' allocation records follow their new path (R36, R52, R53, R57). -/
def Restored (r : Ring) (code : Nat) (s t : State) : Prop :=
  let x := s.rings.get r
  let waits (u : UnitNo) : Prop := x.units[u] = .fedB ∧ x.reachA[u] = true
  (t.rings.get r).timer = none ∧ (t.rings.get r).hops = x.hops ∧ (t.rings.get r).reachA = x.reachA ∧
  (t.rings.get r).reachB = x.reachB ∧ (∀ r', r' ≠ r → t.rings.get r' = s.rings.get r') ∧
  (∀ v : UnitNo, (waits v → t.unitState ⟨r, v⟩ = .fedA) ∧ (¬waits v → t.unitState ⟨r, v⟩ = x.units[v])) ∧
  (∀ q, t.spans.get q = if q.ring = r ∧ ∃ v, waits v then (s.spans.get q).marked else s.spans.get q) ∧
  (∃ feeds, FeedReported r code x.units (t.rings.get r).units feeds ∧ Posts feeds s t) ∧
  (∀ v, waits v → (posGet t.alloc ⟨r, v⟩).status = allocStatus .fedA (posGet s.beacons ⟨r, v⟩).amplifier)

/-- The parts a feed change can reach beyond the ring's own: marks on ports, planners, allocators and voters. -/
def fedParts : List Part := [.spans, .rings, .carriage, .alloc, .voters, .events, .choices]

/-! ### Requests -/

/-- A port takes the frames it receives: no reset runs, the port is SYNCED, and fewer than 2 requests are
outstanding (R165, R168, R177). -/
abbrev Takes (s : State) (port : MgmtPort) : Prop :=
  s.causes = [] ∧ (s.mgmt.get port).synced = true ∧ (s.mgmt.get port).outstanding < 2

/-- A port takes a request and admits it: its authority is at least the kind's minimum, and the kind's group is
not in its deny map (R169, R172). -/
abbrev Serves (s : State) (port : MgmtPort) (r : Request) : Prop :=
  Takes s port ∧ (minimumAuthority r).rank ≤ (s.mgmt.get port).authority.rank
    ∧ requestGroup r ∉ s.work.denied.get port

/-- The kind values of the request catalogue, group by group (R172). -/
def catalogueKinds : List Nat :=
  [0x01, 0x02, 0x03, 0x04, 0x05, 0x06, 0x07,
   0x11, 0x12, 0x13, 0x14, 0x15, 0x16, 0x17, 0x18,
   0x21, 0x22, 0x23, 0x24, 0x25, 0x26, 0x27, 0x28, 0x29,
   0x31, 0x32, 0x33, 0x34,
   0x41, 0x42, 0x43, 0x44,
   0x51, 0x52, 0x53,
   0x61, 0x62, 0x63, 0x64,
   0x71, 0x72, 0x73, 0x74, 0x75, 0x76, 0x77, 0x78]

/-- The record of the Configuration Store that a request writes, when the identifiers its rule checks before
that record's write flag are in range (R171). -/
def requestRecord : Request → Option StoreKey
  | .carrierSet a =>
    match carrierOf a.carrier, optOf channelOf a.channel, optOf (identOf 4 1) a.programme with
    | some c, some _, some _ => if 1 ≤ a.lane ∧ a.lane ≤ 4 then some (.carrier c) else none
    | _, _, _ => none
  | .carrierClear c => (carrierOf c).map .carrier
  | .ruSet a => (positionOf a.position).map .unit
  | .zoneSet a =>
    match zoneOf a.zone, allOf positionOf a.members with
    | some z, some _ => some (.zone z)
    | _, _ => none
  | .portConfig a => (spanOf a.port).map fun p => .ring p.ring
  | .refConfig a => (sourceOf a.preferred).map fun _ => .reference
  | .voterConfig a => (channelOf a.channel).map .voter
  | .clipOpen c _ => (clipOf c).map .clip
  | .clipPage c _ _ => (clipOf c).map .clip
  | .clipDelete c => (clipOf c).map .clip
  | .planLoad p _ => (planOf p).map .plan
  | .triggerSet a =>
    match triggerOf a.trigger, planOf a.plan with
    | some t, some _ => some (.trigger t)
    | _, _ => none
  | .contactSet a =>
    match contactOf a.contact, optOf triggerOf a.trigger with
    | some c, some _ => some (.contact c)
    | _, _ => none
  | .permitSet target groups =>
    match mgmtOf target, allOf groupOf groups with
    | some p, some _ => some (.denyMap p)
    | _, _ => none
  | .watchSet _ => some .watch
  | .hello | .status | .keepalive | .readEvents | .restart | .carrierGet .. | .ruGet .. | .zoneGet ..
  | .ruAllocation .. | .portStatus .. | .ringStatus .. | .portRenegotiate .. | .portEnable .. | .portDisable ..
  | .spanTestStart .. | .spanTestStop .. | .ringRevert .. | .refStatus | .refForceHoldover | .refResume
  | .rescueStatus .. | .consoleKey .. | .consoleUnkey .. | .breakinList | .breakinPost .. | .breakinWithdraw ..
  | .clipList .. | .planRead .. | .stackRead | .invoke .. | .standDown | .standDownAll => none

/-- Two stores hold the same record under a key; a clip's record here is its directory record. -/
def Store.agree (x y : Store) : StoreKey → Prop
  | .carrier c => x.catalogue[c] = y.catalogue[c]
  | .unit p => posGet x.units p = posGet y.units p
  | .zone z => x.zones[z] = y.zones[z]
  | .ring r => x.rings.get r = y.rings.get r
  | .reference => x.reference = y.reference
  | .voter ch => x.voters[ch] = y.voters[ch]
  | .clip c => x.clips[c] = y.clips[c]
  | .plan p => x.plans[p] = y.plans[p]
  | .trigger t => x.triggers[t] = y.triggers[t]
  | .contact c => x.contacts[c] = y.contacts[c]
  | .denyMap p => x.denied.get p = y.denied.get p
  | .watch => x.window = y.window

/-- A state with a READY reply added at a port (R166, R169). -/
def State.withReply (s : State) (port : MgmtPort) (r : Reply) : State :=
  s.setMgmt port { s.mgmt.get port with ready := (s.mgmt.get port).ready ++ [r] }

/-- A state with a HELD reply added at a port and the store write it waits for begun (R15, R171). -/
def State.withHeld (s : State) (port : MgmtPort) (key : StoreKey) (r : Reply) : State :=
  { s with inFlight := s.inFlight ++ [key] }.setMgmt port
    { s.mgmt.get port with held := (s.mgmt.get port).held ++ [(key, r)] }

/-! ### The elasticity buffer (chapter 2) -/

/-- The slips of the last 10 s with one entered now (R37). -/
def Buffer.recent (b : Buffer) (now : Nat) : List Nat := (b.record.filter fun t => now - t < 10000) ++ [now]

/-- A buffer with a slip entered: the count saturates at 65535, and the burst flag is set by the eighth of the last
10 s (R35, R37). -/
def Buffer.slipped (b : Buffer) (now : Nat) : Buffer :=
  { b with slips := min 65535 (b.slips + 1), record := b.recent now, burst := b.burst || decide (8 ≤ (b.recent now).length) }

/-- The record a slip posts: SLIP_BURST when it sets the burst flag (R37). -/
def Buffer.burstNotes (b : Buffer) (p : SpanPort) (now : Nat) : List Note :=
  if b.burst = false ∧ 8 ≤ (b.recent now).length then
    [⟨.slipBurst, .warning, .span p, [.count (min 65535 (b.slips + 1))]⟩]
  else []

/-- A port's buffer underruns at a tick (R35). -/
def Span.underruns (x : Span) : Bool := x.isUp && x.buffer.running && x.buffer.blocks.isEmpty

/-- A port after a tick of the block schedule (R34, R35). -/
def Span.ticked (x : Span) (now : Nat) : Span :=
  if x.underruns then { x with buffer := { x.buffer with running := false }.slipped now }
  else if x.isUp && x.buffer.running then
    { x with buffer := { x.buffer with blocks := x.buffer.blocks.drop 1, mark := false } }
  else x

/-- The block a port outputs valid at a tick, if it does: its oldest, of a running buffer, without a mark (R34). -/
def Span.validBlock (x : Span) : Option UplinkBlock :=
  if x.isUp && x.buffer.running && !x.buffer.mark then x.buffer.blocks.head? else none

/-- What a tick's valid blocks carry for a unit on a channel (R110). -/
def uplinkOf (s : State) (ch : ChannelNo) (p : Position) : Option Uplink :=
  (s.unitState p).side.bind fun side => (s.spans.get ⟨p.ring, side⟩).validBlock.map fun block => block[p.unit][ch]

/-! ### The reference unit (chapter 4) -/

/-- The reference state record on entry into ACQUIRE, TRACK or LOCKED with a source: counts 0, a measurement interval
started, nothing of the other states (R65, R68, R69). That a count R65 gives no value is 0 is assumption 29, here and in
the two that follow. -/
def RefRec.entered (r : RefRec) (state : RefState) (src : Source) (now : Nat) : RefRec :=
  ⟨state, none, some src, none, r.lastOffset, 0, 0, none, false, none, some now, r.refIn, r.pilot⟩

/-- The record on entry into FREE: no source, no count, no timer (R65, R67). -/
def RefRec.freed (r : RefRec) : RefRec :=
  ⟨.free, none, none, none, r.lastOffset, 0, 0, none, false, none, none, r.refIn, r.pilot⟩

/-- The record on entry into HOLDOVER from a source: its age is 0 (R65, R71). -/
def RefRec.holding (r : RefRec) (src : Option Source) (forced : Bool) (now : Nat) : RefRec :=
  ⟨.holdover, none, none, src, r.lastOffset, 0, 0, some now, forced, none, none, r.refIn, r.pilot⟩

/-- REF_STATE with the causes numbered from WARMUP_END 0 to HOLDOVER_EXPIRED 8, and the gate opened 0, closed 1
or as it was 2 (R75); the states have the numbers of R65 (assumption 33). -/
def refEvent (severity : Severity) (old new : RefState) (src : Option Source) (cause gate : Nat) : Note :=
  ⟨.refState, severity, .none,
    [.named old.ctorIdx, .named new.ctorIdx] ++ (match src with
      | none => [.present false]
      | some x => [.present true, .named x.ctorIdx]) ++ [.named cause, .named gate]⟩

/-- The gate has been handed to every allocation record, and beyond the reference unit, those records and the
event queues nothing is changed (R74). -/
def gateHanded (gate : Bool) (s t : State) : Prop :=
  SameBut [.reference, .alloc, .events, .choices] s t ∧ ∀ p, (posGet t.alloc p).gate = gate

/-- A reference record `r` that a reset has kept has come to `x`, with the records `notes`, as the settings in `s` that the
reset has loaded differ from those in force before, `old` (R71, R73, R76): a changed preference moves ACQUIRE and TRACK to
the new preferred source and has the switch timer of LOCKED judged, and a changed limit that the age has reached ends
HOLDOVER, by FREE. In any other case nothing changes. -/
structure KeptUnder (old : RefSettings) (s : State) (r x : RefRec) (notes : List Note) : Prop where
  prefers : s.work.reference.preferred ≠ old.preferred →
    let src := s.work.reference.preferred
    let turns := r.selected = some (Source.other src) ∧ (r.monitor src).present = true
    (r.state = .acquire ∨ r.state = .track → turns →
      x = r.entered .acquire src s.now ∧ notes = [refEvent .notice r.state .acquire (some src) 5 2]) ∧
    (r.state = .acquire ∨ r.state = .track → ¬turns → x = r ∧ notes = []) ∧
    (r.state = .locked → notes = [] ∧ (turns → x = { r with switchSince := some (r.switchSince.getD s.now) }) ∧
      (¬turns → x = { r with switchSince := none }))
  expires : s.work.reference.limit ≠ old.limit → ∀ since, r.state = .holdover → r.heldSince = some since →
    s.work.reference.limit * 3600000 ≤ s.now - since →
    let src := s.work.reference.preferred
    let ended := refEvent .alarm .holdover .free none 8 1
    let goesOn (y : Source) : Prop := x = r.entered .acquire y s.now ∧
      notes = [ended, refEvent .notice .free .acquire (some y) 1 2]
    ((r.monitor src).present = true → goesOn src) ∧
    ((r.monitor src).present = false → (r.monitor (Source.other src)).present = true → goesOn (Source.other src)) ∧
    ((r.monitor src).present = false → (r.monitor (Source.other src)).present = false → x = r.freed ∧ notes = [ended])
  stays : r.state = .warmup ∨ r.state = .free ∨
      (s.work.reference.preferred = old.preferred ∧ (r.state ≠ .holdover ∨ s.work.reference.limit = old.limit)) ∨
      (r.state = .holdover ∧ (s.work.reference.limit = old.limit ∨
        ∀ since, r.heldSince = some since → s.now - since < s.work.reference.limit * 3600000)) →
    x = r ∧ notes = []

/-! ### Voters (chapter 7) -/

/-- A fresh choice among candidates with a selected source: the highest quality, above 0; the selected source when
it is among the best, else the first of the best in candidate order (R111). -/
def FreshChoice (cands : List VoterCand) (kept : Option Position) (p : Position) : Prop :=
  ∃ before c after, cands = before ++ c :: after ∧ c.position = p ∧ 0 < c.value ∧
    (∀ d ∈ cands, d.value ≤ c.value) ∧
    (kept = some p ∨ ((∀ d ∈ before, d.value < c.value) ∧
      ∀ k, kept = some k → ∀ d ∈ cands, d.position = k → d.value < c.value))

/-- The vote of a channel that goes on, some candidate being heard: with no source a fresh choice; with one, the best
other candidate when the source is not heard or some other is better by the hysteresis, else the source (R111). -/
def Revote (h : Nat) (cands : List VoterCand) (old new : Option Position) : Prop :=
  ∃ q, new = some q ∧
    (old = none → FreshChoice cands none q) ∧
    ∀ p, old = some p →
      let better (d : VoterCand) : Prop :=
        d.position ≠ p ∧ 0 < d.value ∧ (qualityOf cands p = 0 ∨ qualityOf cands p + h ≤ d.value)
      ((∃ d ∈ cands, better d) → FreshChoice (cands.filter (·.position ≠ p)) none q) ∧
      ((∀ d ∈ cands, ¬better d) → q = p)

/-- Portal talk of a voter `v` has ended in `v'` with `now` and a hang time, by the candidates as they stand: REPEAT
when one is heard, keeping a source that is, else HANG (R119). -/
def TalkEnds (now hang : Nat) (v v' : VoterRec) : Prop :=
  ((∃ c ∈ v.cands, 0 < c.value) → ∃ q, v' = { v with state := .repeating, consoleKey := none, source := some q } ∧
    ((∃ p, v.source = some p ∧ qualityOf v.cands p ≠ 0) → v.source = some q) ∧
    ((∀ p, v.source = some p → qualityOf v.cands p = 0) → FreshChoice v.cands v.source q)) ∧
  ((∀ c ∈ v.cands, c.value = 0) → v' = { v with state := .hang, consoleKey := none, hang := some (now, hang) })

/-- What a voter carries, its voted uplink given, by the table of R115: the downlink of its channel's carrier, none where the
carrier does not radiate, and out to the console and the surface base, also where the channel covers no ring (assumption
31). -/
def Forwards (v : VoterRec) (uplink : VoterAudio) : Prop :=
  let carries (down : Option VoterAudio) (out : VoterAudio) : Prop := downlink v = down ∧ portalOut v = out
  match v.state with
  | .idle => carries none .silence
  | .repeating => carries (some uplink) uplink
  | .hang => carries (some .silence) .silence
  | .console => carries (some .consoleTalk) uplink
  | .base => carries (some .baseTalk) uplink

/-- A voted uplink that is heard, or silence (R110). -/
def votedAudio : Option Nat → VoterAudio
  | some a => .uplink a
  | none => .silence

/-- A channel's activity has been handed to every allocation record, and beyond the voters, those records and the
event queues nothing is changed (R120). -/
def activityHanded (ch : ChannelNo) (active : Bool) (s t : State) : Prop :=
  SameBut [.voters, .alloc, .events, .choices] s t ∧ (∀ c, c ≠ ch → t.voters[c] = s.voters[c]) ∧
    ∀ p, (posGet t.alloc p).rescue[ch] = active

/-- A command that can end in a reset: RESET_END, and RESTART, as its row or as the frame of its kind (R177, R178). -/
def Resets : Instr → Prop
  | .resetEnd .. | .restart .. => True
  | .requestFrameReceived _ kind _ _ => kind = 0x07
  | _ => False

/-- The voters stand for their inputs (R108, R109): each covers the rings whose list names its carrier, its candidates are
the FED_A and FED_B units of these, in candidate order, and its selected source is one of them. -/
structure VotersSound (s : State) : Prop where
  covers : ∀ ch : ChannelNo, s.voters[ch].covers = coverageOf s ch
  cands : ∀ ch : ChannelNo, s.voters[ch].cands.map VoterCand.position =
    allPositions.filter fun p => s.voters[ch].covers.get p.ring && (s.unitState p = .fedA || s.unitState p = .fedB)
  source : ∀ (ch : ChannelNo) (p : Position), s.voters[ch].source = some p → ∃ c ∈ s.voters[ch].cands, c.position = p

/-- A voter `v` has come to `x` by a change of its coverage or its candidates, with `now` and its hang time: a candidate
that stays keeps its quality, and one that joins is NEW (R109). A source that has left is lost, and the voter acts by its
state on the candidates that remain (R114); of any other voter nothing else changes. -/
structure Rejudged (now hang : Nat) (v x : VoterRec) : Prop where
  stay : ∀ c ∈ x.cands, ∀ d ∈ v.cands, d.position = c.position → c.quality = d.quality
  join : ∀ c ∈ x.cands, (∀ d ∈ v.cands, d.position ≠ c.position) → c.quality = none
  others : x = { v with
    covers := x.covers, cands := x.cands, source := x.source, state := x.state, hang := x.hang }
  kept : (∀ p, v.source = some p → ∃ c ∈ x.cands, c.position = p) →
    x.source = v.source ∧ x.state = v.state ∧ x.hang = v.hang
  lost : ∀ p, v.source = some p → (∀ c ∈ x.cands, c.position ≠ p) →
    let hears := ∃ c ∈ x.cands, 0 < c.value
    let chooses := ∃ q, x.source = some q ∧ FreshChoice x.cands none q
    (v.state = .repeating → hears → chooses ∧ x.state = .repeating ∧ x.hang = v.hang) ∧
    (v.state = .repeating → ¬hears → x.source = none ∧ x.state = .hang ∧ x.hang = some (now, hang)) ∧
    (v.state = .console ∨ v.state = .base → (hears → chooses) ∧ (¬hears → x.source = none) ∧
      x.state = v.state ∧ x.hang = v.hang) ∧
    (v.state = .hang ∨ v.state = .idle → x.source = none ∧ x.state = v.state ∧ x.hang = v.hang)

/-! ### Carriage planning (chapter 5) -/

/-- The records a planner posts as its path's record goes from `old` to `new`, with the number of the cause (R83, R87):
CARRIER_SHED for each carrier that has joined the shed list, with its place in carriage order and the capacity; then
CARRIER_RESTORED for each that has left it, CARRIED with its slot or ENDED. The place counts from 1 (assumption 13). -/
def shedReports (path : SpanPort) (cause : Nat) (old new : CarriageRec) : List Note :=
  let lacks (ws : List Wanted) (w : Wanted) : Bool := ws.all (·.carrier ≠ w.carrier)
  let detail : List Field := [.ring path.ring, .named path.side.ctorIdx, .named cause]
  ((new.shed.filter (lacks old.shed)).map fun w => ⟨.carrierShed, .warning, .carrier w.carrier, detail ++
    [.count (new.wanted.findIdx (·.carrier = w.carrier) + 1), .count (new.capacity.getD 0)]⟩) ++
  (old.shed.filter (lacks new.shed)).map fun w => ⟨.carrierRestored, .notice, .carrier w.carrier, detail ++
    match new.carried.find? (·.1.carrier = w.carrier) with
    | some (_, slot) => [.named 0, .ident slot]
    | none => [.named 1]⟩

/-- Every carriage record stands for its inputs (R53, R77 to R84): the ring's list in the active plan, the units of the path
and its capacity, whether an announcement is on air at one of them, and the Catalogue. -/
structure CarriageSound (s : State) : Prop where
  list : ∀ path, (s.carriage.get path).list = s.carriageList path.ring
  capacity : ∀ path, (s.carriage.get path).capacity = ((s.rings.get path.ring).pathCapacity path.side).map (·.1)
  units : ∀ path, (s.carriage.get path).units =
    (List.finRange 12).filter fun u => (s.unitState ⟨path.ring, u⟩).side = some path.side
  announcing : ∀ path, (s.carriage.get path).announcing = true ↔
    ∃ u ∈ (s.carriage.get path).units, s.announced ⟨path.ring, u⟩ = true
  wanted : ∀ path capacity, (s.carriage.get path).capacity = some capacity →
    let x := s.carriage.get path
    x.wanted = carriageOrder (s.catalogued x.list) ∧ x.carried.map (·.1) = x.wanted.take capacity ∧
      x.shed = x.wanted.drop capacity
  empty : ∀ path, (s.carriage.get path).capacity = none →
    (s.carriage.get path).wanted = [] ∧ (s.carriage.get path).carried = [] ∧ (s.carriage.get path).shed = []

/-! ### Composite power allocation (chapter 6) -/

/-- The mute set, the grants, the composite and the ending stage of a record are those of the four stages, run on its own
budget and its own candidates (R91, R98 to R101). -/
def Granted (r : AllocRec) : Prop :=
  let a := allocate r.budget r.cands
  r.mute = a.mute ∧ r.grants = a.grants ∧ r.ending = some a.ending ∧ r.composite = (r.grants.map fun g => lin g.2).sum

/-- A record carries nothing, has no candidates and grants nothing, as a NONE one does (R91, R92, R96). -/
def Barren (r : AllocRec) : Prop :=
  r.carried = [] ∧ r.cands = [] ∧ r.excluded = [] ∧ r.mute = [] ∧ r.grants = [] ∧ r.composite = 0 ∧ r.ending = none

/-- The class of a carrier kind at the unit of a record (R3). -/
def AllocRec.classAt (r : AllocRec) : CarrierKind → Nat
  | .rescue => 0
  | .broadcast => if r.announced then 1 else 2
  | .mobile => 3

/-- The floor of a request in a class: the request less the backoff limit of the class, not below −300 (R93). -/
def floorIn (cls : Nat) (request : Int) : Int :=
  max (-300) (request - (if cls = 0 then 0 else if cls = 1 then 30 else if cls = 2 then 60 else 150))

/-- A record is what R92 to R101 make of the inputs it holds, of the unit's record in the Remote Unit Table, and of the
kinds and channels in the Catalogue. -/
structure Allocated (s : State) (p : Position) (r : AllocRec) : Prop where
  margin : r.margin = (match r.override with
    | some x => (x.2 : Int)
    | none => (s.unit p).margin)
  budget : r.budget = lin ((s.unit p).ceiling - r.margin)
  none : ∀ reason, r.status = .none reason → Barren r
  active : ∀ side, r.status = .active side →
    let admits (w : Wanted) : Bool := (r.classAt w.kind = 0 || r.gate) &&
      (w.kind != .rescue || w.channel.any fun ch => r.rescue[ch])
    let request (w : Wanted) : Int := max (-300) (min 370 (w.level + (s.unit p).trim))
    r.cands = ((s.catalogued r.carried).filter admits).map (fun w =>
      ⟨w.carrier, w.kind, r.classAt w.kind, request w, floorIn (r.classAt w.kind) (request w)⟩) ∧
    r.excluded = ((s.catalogued r.carried).filter (!admits ·)).map (fun w =>
      (w.carrier, if w.kind = .rescue then .idle else .gate)) ∧
    Granted r

/-- The records an event at a unit's allocation record posts as it recomputes from `old` to `new` (R104), with the number of
its cause: none for a unit left NONE; else CARRIER_MUTED for each carrier that has joined the mute set, in the new muting
order and with its class; CARRIER_UNMUTED for each that has left it, in the order it had, GRANTED with its level or
NOT_CANDIDATE; and ALLOCATION_LIMITED for a limited flag that has been set, with the backoff and the number of rescue
candidates, or cleared. A record that was NONE has muted none and is not limited (R103, `AllocSound`). -/
def allocReports (p : Position) (cause : Nat) (old new : AllocRec) : List Note :=
  let muted (c : CarrierNo) : Note := ⟨.carrierMuted, .warning, .carrier c,
    [.position p, .ident (((new.cands.find? (·.carrier = c)).map Cand.cls).getD 0), .named cause]⟩
  let unmuted (c : CarrierNo) : Note := ⟨.carrierUnmuted, .notice, .carrier c, [.position p] ++
    (match new.grants.find? (·.1 = c) with
      | some g => [.named 0, .quantity g.2]
      | none => [.named 1]) ++ [.named cause]⟩
  let backoff (r : AllocRec) : Option Nat := match r.ending with
    | some (.rescueLimit d) => some d
    | _ => none
  if new.status = .active .a ∨ new.status = .active .b then
    (new.mute.filter (· ∉ old.mute)).map muted ++ (old.mute.filter (· ∉ new.mute)).map unmuted ++
      match backoff old, backoff new with
      | none, some d => [⟨.allocationLimited, .alarm, .position p,
          [.named 0, .quantity d, .count (new.cands.filter (·.cls = 0)).length, .named cause]⟩]
      | some _, none => [⟨.allocationLimited, .notice, .position p, [.named 1, .named cause]⟩]
      | _, _ => []
  else []

/-- Every allocation record holds the inputs in force (R53, R86, R91, R96): the status of its unit's state and amplifier;
where it is ACTIVE the carriers that its path's planner carries, with their levels; the announcement flag, the gate, the
override and each channel's activity. -/
structure AllocFed (s : State) : Prop where
  status : ∀ p, (posGet s.alloc p).status = allocStatus (s.unitState p) (posGet s.beacons p).amplifier
  carried : ∀ p side, (posGet s.alloc p).status = .active side → ∀ c level,
    (c, level) ∈ (posGet s.alloc p).carried ↔
      ∃ e ∈ (s.carriage.get ⟨p.ring, side⟩).carried, e.1.carrier = c ∧ e.1.level = level
  announced : ∀ p, (posGet s.alloc p).announced = s.announced p
  gate : ∀ p, (posGet s.alloc p).gate = s.gateOpen
  override : ∀ p, (posGet s.alloc p).override = s.override
  rescue : ∀ p (ch : ChannelNo), (posGet s.alloc p).rescue[ch] = true ↔ s.voters[ch].state ≠ .idle

/-! ### The break-in queue (chapter 8) -/

/-- An identifier that counts from 1 (R164). -/
def numbered {m : Nat} (i : Fin m) : Field := .ident (i.val + 1)

/-- Where a request comes from, by its number: CONTROL_PORT 0, CONSOLE_PORT 1, PLAN 2 (R130). -/
def BreakInSource.number : BreakInSource → Nat
  | .controlPort => 0
  | .consolePort => 1
  | .plan => 2

/-- BREAKIN_ON_AIR (R141): the source, the player, the zones owned in ascending order, and the position. How a player, a set
and a position are sent is the model's choice (assumption 13). -/
def airReport (r : BreakIn) : Note :=
  ⟨.breakinOnAir, .notice, .breakin r.id, List.flatten [
    [.named r.source.number, .ident (match r.player with | some n => n.val + 1 | none => 0), .entries r.owned.length],
    r.owned.map numbered, [.ident r.clipIndex, .count r.page, .count r.done]]⟩

/-- BREAKIN_EVICTED by the request with id `by_` (R141): the source, the priority, the state before with WAITING 0, HELD 1
and ON_AIR 2, and the evicting id. How a priority and an id are sent is the model's choice (assumption 13). -/
def evictedReport (r : BreakIn) (by_ : Nat) : Note :=
  ⟨.breakinEvicted, .warning, .breakin r.id, [.named r.source.number, .quantity r.priority,
    .named (match r.state with | .waiting => 0 | .held => 1 | .onAir => 2), .ident by_]⟩

/-- What an acceptance fixes of a break-in request, and what it has played whole. -/
def BreakIn.body (r : BreakIn) : Nat × BreakInSource × Option PlanNo × List ZoneNo × List ClipNo × Nat × Nat × Nat × Nat :=
  (r.id, r.source, r.plan, r.zones, r.clips, r.priority, r.repeats, r.acceptance, r.done)

/-- A queue is settled by R134: each request owns the zones it is the first to name, the first four owning requests
hold the players, and each is ON_AIR, HELD or WAITING accordingly. Which player each one has been given depends on the queue
before, and is in `QueueResettled`. -/
structure QueueSettled (q : List BreakIn) : Prop where
  owned : ∀ r ∈ q, r.owned = r.zones.filter fun z => (q.find? (z ∈ ·.zones)).map BreakIn.id = some r.id
  players : q.filter (·.player.isSome) = (q.filter (·.owned ≠ [])).take 4
  states : ∀ r ∈ q, r.state = if r.player.isSome then .onAir else if r.owned = [] then .waiting else .held

/-- A queue is one that R134 and R135 make at the moment `now` of requests that stood in the queue `old`, told by their
acceptance numbers, and of new ones. It is settled, with a player at one request at most. A request keeps its player, and
one that gains a player has the lowest-numbered free one in its turn: each lower one is held by a request that kept its own,
or by one before it in queue order (R134, steps 3 and 4). Position and playback of an old request are as R135 says; a new one
stands at clip index 1, page 0 (R130), and begins its page at once if it is ON_AIR (R135). -/
structure QueueResettled (now : Nat) (old q : List BreakIn) : Prop where
  settled : QueueSettled q
  distinct : q.Pairwise fun x y => x.player.isSome = true → x.player ≠ y.player
  lowest : ∀ before r after p, q = before ++ r :: after → r.player = some p →
    (∀ o ∈ old, o.acceptance = r.acceptance → o.player = none) →
    ∀ n < p, ∃ x ∈ q, x.player = some n ∧
      (x ∈ before ∨ ∃ o ∈ old, o.acceptance = x.acceptance ∧ o.player.isSome = true)
  kept : ∀ r ∈ old, ∀ r' ∈ q, r'.acceptance = r.acceptance →
    (r.player.isSome = true → r'.player.isSome = true → r'.player = r.player) ∧
    (r.state = .onAir → r'.state ≠ .onAir → r'.clipIndex = 1 ∧ r'.page = 0) ∧
    (r.state = .onAir → r'.state = .onAir →
      r'.clipIndex = r.clipIndex ∧ r'.page = r.page ∧ r'.pageSince = r.pageSince) ∧
    (r.state ≠ .onAir → r'.clipIndex = r.clipIndex ∧ r'.page = r.page ∧ (r'.state = .onAir → r'.pageSince = now))
  fresh : ∀ r ∈ q, (∀ o ∈ old, o.acceptance ≠ r.acceptance) →
    r.clipIndex = 1 ∧ r.page = 0 ∧ (r.state = .onAir → r.pageSince = now)

/-- The break-in unit of `t` holds a queue that R134 and R135 make of the requests of `s` and of new ones; its zones carry
what R137 says, and the classes of their members have been handed on (R138). A position hears its zone's owner at once as the
zone comes to carry that owner's page, and what it heard before while the zone carries the same owner's (R135, R137,
assumption 22). -/
structure Resettled (s t : State) : Prop where
  queue : QueueResettled t.now s.breakin.queue t.breakin.queue
  carrying : ∀ z : ZoneNo,
    t.breakin.carrying[z] = (t.breakin.queue.find? (z ∈ ·.zones)).any (·.state = .onAir)
  classes : ∀ p, (posGet s.alloc p).announced = s.announced p → (posGet t.alloc p).announced = t.announced p
  silent : ∀ p, (∀ z, t.zoneOfPosition p = some z → t.breakin.carrying[z] = false) → posGet t.breakin.heard p = none
  heard : ∀ p z r, t.zoneOfPosition p = some z → t.breakin.carrying[z] = true →
    t.breakin.queue.find? (z ∈ ·.zones) = some r →
    let before := s.breakin.queue.find? (z ∈ ·.zones)
    ((∃ o, before = some o ∧ o.state = .onAir ∧ o.acceptance = r.acceptance) →
      posGet t.breakin.heard p = posGet s.breakin.heard p) ∧
    ((∀ o, before = some o → o.state = .onAir → o.acceptance ≠ r.acceptance) →
      posGet t.breakin.heard p = some r.acceptance)

/-- A request takes its place in a queue and gives the queue `q'`, after an eviction where the queue is full (R130,
R131): after the requests of at least its priority, with the lowest id that is free. -/
structure Accepts (q : List BreakIn) (new : BreakIn) (evicted : Option BreakIn) (q' : List BreakIn) : Prop where
  room : q.length < 8 → evicted = none
  full : 8 ≤ q.length → ∃ e ∈ q, evicted = some e ∧ ∀ r ∈ q,
    e.priority < r.priority ∨ (e.priority = r.priority ∧ r.acceptance ≤ e.acceptance)
  place : ∃ before after, (q.filter fun r => evicted.all (·.id ≠ r.id)) = before ++ after ∧
    q' = before ++ new :: after ∧ (∀ r ∈ before, new.priority ≤ r.priority) ∧ (∀ r ∈ after, r.priority < new.priority) ∧
    1 ≤ new.id ∧ (∀ r ∈ before ++ after, r.id ≠ new.id) ∧
    ∀ n, 1 ≤ n → n < new.id → ∃ r ∈ before ++ after, r.id = n

/-- The templates of plan p from the i-th on, posted in order into a queue with so many acceptances before, give the
queue `q'` with `n'` acceptances and the records `notes` (R132): a template with a clip that is not READY is skipped,
and one that finds the queue full of requests of at least its priority; any other is accepted. An index counts from 0
(assumption 13), and a request of the same activation that is evicted is WAITING (assumption 26). -/
def TemplatesPosted (s : State) (p : PlanNo) (q' : List BreakIn) (n' : Nat) :
    Nat → List Template → List BreakIn → Nat → List Note → Prop
  | _, [], q, n, notes => q' = q ∧ n' = n ∧ notes = []
  | i, x :: rest, q, n, notes =>
    let skipped (reason : Nat) : Prop := ∃ more, notes =
      ⟨.breakinSkipped, .warning, .plan p, [.ident i, .named reason]⟩ :: more ∧
        TemplatesPosted s p q' n' (i + 1) rest q n more
    let ready := ∀ c ∈ x.clips, s.work.clips[c].state = .ready
    let room := q.length < 8 ∨ ∃ r ∈ q, r.priority < x.priority
    (¬ready → skipped 0) ∧ (ready → ¬room → skipped 1) ∧
    (ready → room → ∃ id evicted q1 more,
      Accepts q ⟨id, .plan, some p, x.zones, x.clips, x.priority, x.repeats, 1, 0, 0, .waiting, none, [], n + 1, 0⟩
        evicted q1 ∧
      notes = (evicted.map (evictedReport · id)).toList ++ more ∧
      TemplatesPosted s p q' n' (i + 1) rest q1 (n + 1) more)

/-- The requests that `t` has ON_AIR and `s` had not, in queue order, as their records (R135, R141). -/
def putOnAir (s t : State) : List Note :=
  (t.breakin.queue.filter fun r => decide (r.state = .onAir ∧
    ∀ o ∈ s.breakin.queue, o.acceptance = r.acceptance → o.state ≠ .onAir)).map airReport

/-- The break-in queue holds at most 8 requests, of different ids from 1 to 255 and different acceptance numbers, in
queue order; it is settled, a player is held by one request at most, and a zone carries an announcement while its
owner is ON_AIR. What a position hears is the player of its zone's owner (R130, R134, R137, R139). -/
structure QueueSound (s : State) : Prop where
  size : s.breakin.queue.length ≤ 8
  ids : (s.breakin.queue.map BreakIn.id).Nodup
  range : ∀ r ∈ s.breakin.queue, 1 ≤ r.id ∧ r.id ≤ 255
  order : s.breakin.queue.Pairwise fun x y =>
    y.priority < x.priority ∨ (y.priority = x.priority ∧ x.acceptance < y.acceptance)
  acceptances : (s.breakin.queue.map BreakIn.acceptance).Nodup
  accepted : ∀ r ∈ s.breakin.queue, r.acceptance ≤ s.breakin.accepted
  settled : QueueSettled s.breakin.queue
  players : s.breakin.queue.Pairwise fun x y => x.player.isSome = true → x.player ≠ y.player
  carrying : s.breakin.carrying = zonesCarrying s.breakin.queue
  heard : ∀ p n, posGet s.breakin.heard p = some n → n ≤ s.breakin.accepted ∧
    ∃ z r, s.zoneOfPosition p = some z ∧ s.breakin.carrying[z] = true ∧
      s.breakin.queue.find? (z ∈ ·.zones) = some r ∧ r.acceptance = n

/-- What the break-in unit hands on beyond itself: classes to the planners and the allocation records (R138). -/
def breakinParts : List Part := [.breakin, .carriage, .alloc, .events, .choices]

/-! ### Plans and contacts (chapter 9) -/

/-- The parts a plan activation reaches (R154). -/
def planParts : List Part := [.plans, .carriage, .alloc, .voters, .breakin, .events, .choices]

/-- The active plan of `t` has been handed on since `s` (R154): each non-empty path wants what its carriage list names,
each voter covers the rings that list gives it, and each allocation record holds its override. The break-in queue has
lost every PLAN request and been given the plan's templates, its records are posted in their order, and it is settled
(R132, R134, R141). -/
structure Activated (s t : State) : Prop where
  planners : ∀ path,
    let x := t.carriage.get path
    x.list = t.carriageList path.ring ∧ x.capacity = (s.carriage.get path).capacity ∧
      x.wanted = if x.capacity.isSome then carriageOrder (t.catalogued x.list) else []
  voters : ∀ ch : ChannelNo, t.voters[ch].covers = coverageOf t ch
  overrides : ∀ p, (posGet t.alloc p).override = t.override
  requests : QueueSound s →
    let stay := s.breakin.queue.filter (·.source ≠ .plan)
    let gone := s.breakin.queue.filter (·.source = .plan)
    ∃ q notes, TemplatesPosted s t.plans.active q t.breakin.accepted 0 t.activePlan.templates stay s.breakin.accepted
        notes ∧
      t.breakin.queue.map BreakIn.body = q.map BreakIn.body ∧ Resettled s t ∧
      Tells (gone.map (fun r =>
          ⟨.breakinDone, .notice, .breakin r.id, [.named 1, .named 1, .named r.source.number, .count r.done]⟩)
        ++ notes ++ putOnAir s t) s t

/-- A state whose break-in queue and active plan's templates keep their bounds: the records an activation posts are
then few (R130, R144). -/
abbrev Bounded (s : State) : Prop :=
  s.breakin.queue.length ≤ 8 ∧ ∀ p x, s.work.plans[(p : PlanNo)] = some x → x.templates.length ≤ 4

/-- PLAN_CHANGED from one plan to a plan state (R154). -/
def planChanged (old : PlanNo) (x : PlanState) : Note :=
  ⟨.planChanged, if x.active = 0 then .notice else .warning, .plan x.active,
    [.ident old.val, .ident x.active.val, .named x.activation.cause.ctorIdx] ++ (match x.activation.source with
      | none => [.present false]
      | some src => .present true :: sourceFields src) ++ (match x.activation.trigger with
      | none => [.present false]
      | some n => [.present true, .ident n.val]) ++ [.count x.stack.length]⟩

/-- A plan has been activated: the plan state is `x`, PLAN_CHANGED is the first record posted, and the activation has
been handed on (R154). -/
def Activates (x : PlanState) (s t : State) : Prop :=
  SameBut planParts s t ∧ t.plans = x ∧ Posts [planChanged s.plans.active x] s t ∧ (Bounded s → Activated s t)

/-- TRIGGER_REFUSED of a trigger, with the fields of its source (numbered in the order of R151, by R174), the outcome, and
the entry's plan when the entry is present (R151). -/
def triggerRefusal (s : State) (n : TriggerNo) (source : List Field) (outcome : Answer) : Note :=
  ⟨.triggerRefused, .alarm, .trigger n, source ++ [.named outcome.ctorIdx] ++
    (if s.work.triggers[n].present then [.present true, .ident s.work.triggers[n].plan.val] else [.present false])⟩

/-- The outcome of an invocation by R149, checks 2 to 9. -/
def invocation (s : State) (n : TriggerNo) (authority : Nat) : Answer :=
  let e := s.work.triggers[n]
  if e.present = false then .triggerAbsent
  else if authority < e.minimum.rank then .authority
  else match s.work.plans[e.plan] with
    | none => .planAbsent
    | some x =>
      if .plan e.plan ∈ s.inFlight then .busy
      else if authority < x.authority.rank then .authority
      else if e.plan = s.plans.active then .alreadyActive
      else if e.plan ∈ s.plans.stack then .alreadyStacked
      else if e.mode = .nest ∧ 4 ≤ s.plans.stack.length then .stackFull
      else .accepted

/-- The plan state after an accepted invocation of a trigger (R150). -/
def invoked (s : State) (n : TriggerNo) (source : ActivationSource) : PlanState :=
  let e := s.work.triggers[n]
  ⟨e.plan, ⟨.invoke, some source, some n, s.now - s.resetAt⟩,
    if e.mode = .nest then s.plans.active :: s.plans.stack else s.plans.stack⟩

/-- CONTACT_ACTIVE of a contact (R158). -/
def contactRises (c : ContactNo) (detail : List Field) : Note := ⟨.contactActive, .alarm, .contact c, detail⟩

/-- CONTACT_RELEASED of a contact (R159). -/
def contactFalls (c : ContactNo) (detail : List Field) : Note := ⟨.contactReleased, .notice, .contact c, detail⟩

/-- What happens as contact c, whose state in `s` is `old`, has come to its state in `s`, under its entry there: an
activation (R158), a release (R159), or nothing. -/
def ContactMoved (c : ContactNo) (old : ContactState) (s t : State) : Prop :=
  let new := s.contacts[c].state
  let e := s.work.contacts[c]
  (old = new ∨ new = .unsettled ∨ (old = .unsettled ∧ new = .inactive) → t = s) ∧
  (old ≠ .active → new = .active →
    (e.trigger = none → t = s.post (contactRises c [.present false])) ∧
    ∀ n, e.trigger = some n →
      let a := invocation s n 2
      let rises := contactRises c [.present true, .ident n.val, .named a.ctorIdx]
      (a = .alreadyActive → t = s.post rises) ∧
      (a = .accepted → Activates (invoked s n (.contact c)) s t ∧ (Bounded s → Reports rises s t)) ∧
      (a ≠ .accepted → a ≠ .alreadyActive →
        t = (s.post (triggerRefusal s n [.named 0, .ident c.val] a)).post rises)) ∧
  (old = .active → new = .inactive →
    (e.release = .none ∨ e.trigger = none → t = s.post (contactFalls c [.named 0])) ∧
    ∀ n, e.release = .withdraw → e.trigger = some n →
      let p := s.work.triggers[n].plan
      let standsDown (q : PlanNo) (stack : List PlanNo) : Prop :=
        Activates ⟨q, ⟨.release, some (.contact c), some n, s.now - s.resetAt⟩, stack⟩ s t ∧
          (Bounded s → Reports (contactFalls c [.named 2, .ident p.val, .ident q.val]) s t)
      (s.work.triggers[n].present = false ∨ (s.plans.active ≠ p ∧ p ∉ s.plans.stack) →
        t = s.post (contactFalls c [.named 1])) ∧
      (s.work.triggers[n].present = true → s.plans.active = p →
        (∀ q rest, s.plans.stack = q :: rest → standsDown q rest) ∧
        (s.plans.stack = [] → p ≠ 0 → standsDown 0 [])) ∧
      (s.work.triggers[n].present = true → s.plans.active ≠ p → p ∈ s.plans.stack →
        t = { s with plans := { s.plans with stack := s.plans.stack.erase p } }.post
          (contactFalls c [.named 3, .ident p.val, .count (s.plans.stack.length - 1)])))

/-! ### Records in replies, field by field (R41, R61, R122, R130, R144) -/

/-- The whole seconds since a moment. -/
def State.secondsSince (s : State) (t : Nat) : Int := ((s.now - t) / 1000 : Nat)

/-- What PORT STATUS shows of a port (R41): state, grade and mode; the settings; the partner; failed attempts and fault
latch; the buffer and the slip count; stray beacons; the running test, whose far loop the partner's last beacon confirms
(R39); the last result; the write flag. -/
def showSpan (s : State) (p : SpanPort) : List Field :=
  let x := s.spans.get p
  let set := s.work.rings.get p.ring
  let partner (q : Position) : Bool := q.ring = p.ring &&
    q.unit.val + 1 = (match p.side with
      | .a => 1
      | .b => s.ringLength p.ring)
  List.flatten [
    match x.state with
      | .disabled => [.named 0, .present false]
      | .breaking => [.named 1, .present false]
      | .advertise => [.named 2, .present false]
      | .up g .negotiated => [.named 3, .present true, .ident (Grade.number g), .named 0]
      | .up g .parallel => [.named 3, .present true, .ident (Grade.number g), .named 1]
      | .test => [.named 4, .present false],
    match p.side with
      | .a => gradesField set.gradesA ++ [.quantity set.thresholdA]
      | .b => gradesField set.gradesB ++ [.quantity set.thresholdB],
    [.quantity set.restore],
    match x.partner with
      | .none => [.present false]
      | .advertised g i => .present true :: .named 0 :: (gradesField g ++ [.serial i])
      | .notNegotiating .grade1 => [.present true, .named 1, .ident 1]
      | .notNegotiating .grade2 => [.present true, .named 1, .ident 2],
    [.count x.failed],
    match x.latch with
      | some .negotiation => [.named 0]
      | some .parallel => [.named 1]
      | none => [.named 2],
    if x.isUp then
      [.present true, .count x.buffer.blocks.length, .named (if x.buffer.running then 1 else 0), .flag x.buffer.burst]
    else [.present false],
    [.count x.buffer.slips, .count x.stray],
    match x.state, x.test with
      | .test, some t =>
        [.present true, .named t.pattern.ctorIdx, .named t.loop.ctorIdx, .quantity (t.duration - s.secondsSince t.since),
          .flag t.locked, .flag (t.loop = .far && allPositions.any fun q => partner q && (posGet s.beacons q).loopback),
          .count t.errors]
      | _, _ => [.present false],
    match x.lastTest with
      | none => [.present false]
      | some t => [.present true, .named (if t.pass then 0 else 1), .count t.errors, .named t.pattern.ctorIdx,
          .named t.loop.ctorIdx, .quantity t.seconds, .named t.ending.ctorIdx],
    [.flag (decide (.ring p.ring ∈ s.inFlight))]]

/-- The slots of hop i of a ring; a hop that is DOWN has none (R45). -/
def slotsOf (s : State) (r : Ring) (i : Nat) : Nat :=
  match (s.rings.get r).hops[i - 1]? with
  | some (some g) => 4 * Grade.number g
  | _ => 0

/-- What RING STATUS shows of a path (R54, R61): empty; or its first and last position, and the fewest slots among its hops
with the number of the hop that has them, of equals the nearest to the port. -/
def ShowsPath (s : State) (r : Ring) (side : Side) (fields : List Field) : Prop :=
  (fedFrom s r side = [] → fields = [.present false]) ∧
  ∀ first last, (fedFrom s r side).head? = some first → (fedFrom s r side).getLast? = some last →
    let onPath (i : Nat) : Prop := match side with
      | .a => 1 ≤ i ∧ i ≤ last.val + 1
      | .b => first.val + 2 ≤ i ∧ i ≤ (s.rings.get r).hops.length
    (∃ i, onPath i) → ∃ hop, onPath hop ∧
      (∀ i, onPath i → slotsOf s r hop ≤ slotsOf s r i ∧ (slotsOf s r i = slotsOf s r hop → match side with
        | .a => hop ≤ i
        | .b => i ≤ hop)) ∧
      fields = [.present true, .position ⟨r, first⟩, .position ⟨r, last⟩, .count (slotsOf s r hop), .ident hop]

/-- What RING STATUS shows of a ring, given what it shows of its two paths (R61): the length; each hop with its source; each
position; the paths; whether port B carries; the wait-to-restore timer and time. -/
def showRing (s : State) (r : Ring) (pathA pathB : List Field) : List Field :=
  let x := s.rings.get r
  let end_ (i : Nat) : Field := match positionAt r i with
    | some p => .position p
    | none => .ident 0
  List.flatten [
    [.ident (x.hops.length - 1), .entries x.hops.length],
    (List.range x.hops.length).flatMap fun i => .named (hopNumber (x.hops.getD i none)) ::
      (if i = 0 then [.named 0, .span ⟨r, .a⟩]
        else if i + 1 = x.hops.length then [.named 0, .span ⟨r, .b⟩]
        else [.named 1, end_ i, end_ (i + 1)]),
    (List.finRange 12).flatMap fun u => List.flatten [[.named (s.unitState ⟨r, u⟩).ctorIdx],
      optField (fun (b : BeaconStatus) => .named b.ctorIdx) (posGet s.beacons ⟨r, u⟩).status,
      [.flag x.reachA[u], .flag x.reachB[u], .named (posGet s.beacons ⟨r, u⟩).amplifier.ctorIdx]],
    pathA, pathB, [.named (if fedFrom s r .b = [] then 0 else 1)],
    match x.timer with
      | none => [.named 0]
      | some t => [.named 1, .quantity ((s.work.rings.get r).restore - s.secondsSince t)],
    [.quantity (s.work.rings.get r).restore]]

/-- What RESCUE STATUS shows of a channel (R122): state and activity; source; hang remaining; console key; base key;
coverage and rescue carrier; the candidates; the settings with their write flag. -/
def showVoter (s : State) (ch : ChannelNo) : List Field :=
  let v := s.voters[ch]
  let carries (c : CarrierNo) : Bool := s.work.catalogue[c].any fun x => x.kind = .rescue && x.channel = some ch
  List.flatten [
    [.named v.state.ctorIdx, .named (if v.state = .idle then 0 else 1)], optField .position v.source,
    optField (fun (h : Nat × Nat) => .quantity (h.2 - ((s.now - h.1) / 100 : Nat))) v.hang,
    match v.consoleKey with
      | some t => [.named 0, .quantity (60 - s.secondsSince t)]
      | none => [.named 1],
    [.named (if v.baseKey then 0 else 1)],
    listField .ring ((if v.covers.get .n then [Ring.n] else []) ++ (if v.covers.get .s then [Ring.s] else [])),
    optField numbered ((List.finRange 24).find? carries), [.entries v.cands.length],
    v.cands.flatMap fun c => .position c.position :: optField .ident c.quality,
    [.quantity s.work.voters[ch].hysteresis, .quantity s.work.voters[ch].hang,
      .flag (decide (.voter ch ∈ s.inFlight))]]

/-- What BREAKIN LIST shows of a queued request: every field of R130 in its order (R142). -/
def showBreakIn (r : BreakIn) : List Field :=
  List.flatten [
    [.ident r.id, .named r.source.number], optField (fun p => .ident p.val) r.plan, listField numbered r.zones,
    listField numbered r.clips, [.quantity r.priority, .count r.repeats, .ident r.clipIndex, .count r.page,
      .count r.done, .named r.state.ctorIdx], optField numbered r.player, listField numbered r.owned,
    [.count r.acceptance]]

/-- What PLAN READ shows of a plan's record: its absence, or the fields of R144 in their order (R161). -/
def showPlan (p : PlanNo) : Option PlanRecord → List Field
  | none => [.present false]
  | some x =>
    let entries (es : List ListEntry) : List Field :=
      .entries es.length :: es.flatMap fun e => [numbered e.1, .quantity e.2]
    List.flatten [
      [.present true, .ident p.val],
      match x.label with
        | none => [.present false]
        | some cs => .present true :: listField .char cs,
      [.named x.authority.rank], entries x.listN, entries x.listS, [.entries x.templates.length],
      x.templates.flatMap fun t => List.flatten [listField numbered t.zones, listField numbered t.clips,
        [.quantity t.priority, .count t.repeats]],
      optField (fun (m : Nat) => .quantity m) x.override]

/-! ### Resets (R177) -/

/-- The kind recorded of the causes that acted: the first in the order POWER_ON, SUPPLY_DIP, RESET_LINE, RESTART. -/
def firstCause (causes : List ResetKind) : ResetKind :=
  if .powerOn ∈ causes then .powerOn else if .supplyDip ∈ causes then .supplyDip
  else if .resetLine ∈ causes then .resetLine else .restart

/-- The state with those of the store writes `written` that are in flight done (R15). -/
def State.finished (s : State) (written : List StoreKey) : State :=
  (written.filter (· ∈ s.inFlight)).foldl (fun x key => completeWrite key x) s

/-- What a reset that ends leaves (R19, R43, R62, R76, R89, R106, R123, R143, R162, R177, R179). What acts at its end, the
settings of a kept reference unit, the base keys and the templates of plan 0, is told where these are few (R144), and no
record is posted after RESET_DONE but theirs. The queue is settled from an empty one; a zone carries an announcement while
its owner is ON_AIR, a member of it has class 1, and hears that owner's page, which begins at once (R135, R143, assumption
22). -/
structure AfterReset (kind : ResetKind) (straps : Nat) (s t : State) : Prop where
  frame : t.now = s.now ∧ t.baseLane = s.baseLane ∧ t.pending = s.pending
  reset : t.resetAt = s.now ∧ t.lastReset = kind ∧ t.causes = [] ∧ t.straps = straps
  store : t.work = t.stored ∧ t.inFlight = []
  spans : ∀ p, t.spans.get p = Span.start s.now
  beacons : ∀ p, posGet t.beacons p = ⟨if (t.unit p).commissioned then some .awaited else none, none, none, none, .ok, false⟩
  hops : ∀ r, (t.rings.get r).hops = List.replicate (t.ringLength r + 1) none ∧ (t.rings.get r).timer = none
  units : ∀ p, t.unitState p = (if (t.unit p).commissioned then .unreachable else .absent) ∧
    (t.rings.get p.ring).reachA[p.unit] = false ∧ (t.rings.get p.ring).reachB[p.unit] = false
  reference : kind = .powerOn ∨ kind = .supplyDip →
    t.reference = { RefRec.start s.now with
      refIn := ⟨false, s.reference.refIn.valid, s.now⟩, pilot := ⟨false, s.reference.pilot.valid, s.now⟩ }
  kept : kind = .resetLine ∨ kind = .restart → t.work.reference = s.work.reference → t.reference = s.reference
  carriage : ∀ path, t.carriage.get path = CarriageRec.start (t.carriageList path.ring)
  alloc : ∀ p, (posGet t.alloc p).status = .none (if (t.unit p).commissioned then .unreachable else .absent) ∧
    (posGet t.alloc p).override = t.override ∧ Allocated t p (posGet t.alloc p)
  allocInputs : (∀ x, t.work.plans[(0 : PlanNo)] = some x → x.templates.length ≤ 4) → ∀ p,
    (posGet t.alloc p).gate = t.gateOpen ∧ (posGet t.alloc p).announced = t.announced p ∧
    ∀ ch : ChannelNo, (posGet t.alloc p).rescue[ch] = s.baseLane[ch]
  voters : (∀ x, t.work.plans[(0 : PlanNo)] = some x → x.templates.length ≤ 4) → ∀ ch : ChannelNo,
    t.voters[ch] = ⟨if s.baseLane[ch] then .base else .idle, none, none, none, s.baseLane[ch], coverageOf t ch, [], none⟩
  requests : (∀ x, t.work.plans[(0 : PlanNo)] = some x → x.templates.length ≤ 4) →
    QueueResettled t.now [] t.breakin.queue ∧
    (∀ z : ZoneNo, t.breakin.carrying[z] = (t.breakin.queue.find? (z ∈ ·.zones)).any (·.state = .onAir)) ∧
    ∀ p, posGet t.breakin.heard p = (t.zoneOfPosition p).bind fun z =>
      ((t.breakin.queue.find? (z ∈ ·.zones)).filter (·.state = .onAir)).map BreakIn.acceptance
  plans : t.plans = ⟨0, ⟨.reset, none, none, 0⟩, []⟩
  contacts : ∀ c : ContactNo, t.contacts[c] = ⟨s.contacts[c].raw, none, some s.now, .unsettled⟩
  ports : ∀ port, (t.mgmt.get port).quiet = ⟨match port with
      | .control => if straps = 2 then .incident else if straps = 3 then .maintain else .operate
      | .console => .incident, false, 0,
        if (s.mgmt.get port).exchange = some .dark then some .dark else none, [], [], [], false, 0, 0⟩
  events : ∃ u : State, u.now = s.now ∧ u.resetAt = s.now ∧ Posts [] u t ∧ ∀ port,
    (u.mgmt.get port).events = [Record.resetDone kind straps] ∧ (u.mgmt.get port).overflow = false
  records : (∀ x, t.work.plans[(0 : PlanNo)] = some x → x.templates.length ≤ 4) →
    ∃ (u : State) (q : List BreakIn) (moves skips all : List Note),
      (u.now = s.now ∧ u.resetAt = s.now ∧ ∀ port,
        (u.mgmt.get port).events = [Record.resetDone kind straps] ∧ (u.mgmt.get port).overflow = false) ∧
      (kind = .powerOn ∨ kind = .supplyDip → moves = []) ∧
      (kind = .resetLine ∨ kind = .restart → KeptUnder s.work.reference t s.reference t.reference moves) ∧
      t.breakin.queue.map BreakIn.body = q.map BreakIn.body ∧
      TemplatesPosted t 0 q t.breakin.accepted 0 t.activePlan.templates [] 0 skips ∧
      let onAir := (t.breakin.queue.filter (·.state = .onAir)).map airReport
      let keys := ((List.finRange 4).filter fun ch => s.baseLane[ch]).map fun ch =>
        ⟨.rescueActive, .notice, voterSubject t ch, [.channel ch, .named 2]⟩
      all.Perm (moves ++ keys ++ (skips ++ onAir)) ∧ moves.Sublist all ∧ (skips ++ onAir).Sublist all ∧ PostsOnly all u t
  watch : t.watch = if t.work.window = 0 then .off else .running s.now

/-! ### Invariants -/

/-- Event queues hold at most 48 records, at most 2 requests are outstanding at a port, port 0 has the authority its
straps give it, and port 1 has INCIDENT (R163). -/
def portsBounded (s : State) : Prop :=
  (∀ port, (s.mgmt.get port).events.length ≤ 48 ∧ (s.mgmt.get port).outstanding ≤ 2) ∧
  (s.mgmt.get .control).authority = strapAuthority s.straps ∧ (s.mgmt.get .console).authority = .incident

/-- The clip store is in canonical form, in working and in stored form. -/
def memoryCanonical (s : State) : Prop := memWf s.work.pages = true ∧ memWf s.stored.pages = true

/-- The plan state record keeps the rules of R148, and the plans it names are loaded: what R144, R145 and R147
keep true. -/
structure PlansSound (s : State) : Prop where
  distinct : (s.plans.active :: s.plans.stack).Nodup
  depth : s.plans.stack.length ≤ 4
  standing : s.plans.active = 0 → s.plans.stack = []
  bottom : (0 : PlanNo) ∈ s.plans.stack → s.plans.stack.getLast? = some 0
  loaded : ∀ p ∈ s.plans.active :: s.plans.stack, (s.work.plans[p]).isSome = true
  plan0 : (s.work.plans[(0 : PlanNo)]).isSome = true ∧ (s.stored.plans[(0 : PlanNo)]).isSome = true
  triggers : ∀ t : TriggerNo, (s.work.triggers[t]).plan ≠ 0 ∧ (s.stored.triggers[t]).plan ≠ 0
  templates : ∀ p x, s.work.plans[(p : PlanNo)] = some x ∨ s.stored.plans[p] = some x → x.templates.length ≤ 4

/-- A clip of a directory occupies pages of the store, has written no more than it has, and all of them in READY
(R124). -/
def Clip.sound (x : Clip) : Prop :=
  x.state ≠ .empty → 1 ≤ x.pages ∧ x.first + x.pages ≤ 2048 ∧ x.written ≤ x.pages ∧
    (x.state = .ready → x.written = x.pages)

/-- The Catalogue, the Remote Unit Table, the Zone Table and the clip directory keep R1, R9, R13 and R124 in working
form; in stored form position 1 of each ring is commissioned and each clip is sound. -/
structure TablesSound (s : State) : Prop where
  catalogue : catalogueOk s.work.catalogue = true
  run : ∀ r, runOk (s.work.units.get r) = true
  zones : ∀ y z : ZoneNo, y ≠ z → ∀ p, p ∈ s.work.zones[y] → p ∉ s.work.zones[z]
  first : ∀ r, (s.stored.units.get r)[(0 : UnitNo)].commissioned = true
  clips : ∀ c : ClipNo, s.work.clips[c].sound ∧ s.stored.clips[c].sound
  disjoint : ∀ c d : ClipNo, c ≠ d → s.work.clips[c].state ≠ .empty → s.work.clips[d].state ≠ .empty →
    s.work.clips[c].first + s.work.clips[c].pages ≤ s.work.clips[d].first ∨
    s.work.clips[d].first + s.work.clips[d].pages ≤ s.work.clips[c].first

/-- A unit is passable: commissioned, present and identity-accepted (R49). -/
def PassesAt (s : State) (r : Ring) (u : UnitNo) : Prop :=
  (s.unit ⟨r, u⟩).commissioned = true ∧ s.present ⟨r, u⟩ = true ∧ s.mismatched ⟨r, u⟩ = false

/-- The ring topology records agree with the ports, the Remote Unit Table and the beacons, and keep what chapter 3
derives: a terminal hop is its port's while the unit at its end is present, an inner hop the lower of two present units'
reports; a unit is reachable from an end over hops that are up and passable units; the fed units are the reachable ones,
the FED_A units stand before the FED_B units, and the wait-to-restore timer runs exactly while a unit waits (R44 to R51,
R56). -/
structure RingsSound (s : State) : Prop where
  hops : ∀ r, (s.rings.get r).hops.length = s.ringLength r + 1
  first : ∀ r, (s.rings.get r).hops[0]? =
    some (if s.present ⟨r, 0⟩ then (s.spans.get ⟨r, .a⟩).state.hop else none)
  last : ∀ r (u : UnitNo), u.val + 1 = s.ringLength r → (s.rings.get r).hops[u.val + 1]? =
    some (if s.present ⟨r, u⟩ then (s.spans.get ⟨r, .b⟩).state.hop else none)
  inner : ∀ r (u v : UnitNo), v.val = u.val + 1 → v.val < s.ringLength r →
    let x := s.report ⟨r, u⟩ false
    let y := s.report ⟨r, v⟩ true
    (s.rings.get r).hops[v.val]? = some (if s.present ⟨r, u⟩ ∧ s.present ⟨r, v⟩ then
      (if hopNumber x ≤ hopNumber y then x else y) else none)
  reachA : ∀ r (u : UnitNo), (s.rings.get r).reachA[u] = true ↔ u.val < s.ringLength r ∧
    ∀ v : UnitNo, v ≤ u → PassesAt s r v ∧ ∃ g, (s.rings.get r).hops[v.val]? = some (some g)
  reachB : ∀ r (u : UnitNo), (s.rings.get r).reachB[u] = true ↔ u.val < s.ringLength r ∧
    ∀ v : UnitNo, u ≤ v → v.val < s.ringLength r → PassesAt s r v ∧ ∃ g, (s.rings.get r).hops[v.val + 1]? = some (some g)
  absent : ∀ p, s.unitState p = .absent ↔ (s.unit p).commissioned = false
  beacon : ∀ p, (posGet s.beacons p).status = none ↔ (s.unit p).commissioned = false
  mismatch : ∀ p, s.unitState p = .mismatch ↔ (s.unit p).commissioned = true ∧ s.mismatched p = true
  fed : ∀ p, (s.unitState p = .fedA ∨ s.unitState p = .fedB) ↔
    ((s.rings.get p.ring).reachA[p.unit] = true ∨ (s.rings.get p.ring).reachB[p.unit] = true)
  fedA : ∀ p, s.unitState p = .fedA → (s.rings.get p.ring).reachA[p.unit] = true
  fedB : ∀ p, s.unitState p = .fedB → (s.rings.get p.ring).reachB[p.unit] = true
  before : ∀ r (u v : UnitNo), v ≤ u → s.unitState ⟨r, u⟩ = .fedA → s.unitState ⟨r, v⟩ = .fedA
  timer : ∀ r, (s.rings.get r).timer ≠ none ↔
    ∃ u : UnitNo, s.unitState ⟨r, u⟩ = .fedB ∧ (s.rings.get r).reachA[u] = true

/-- A command asks for a request: as its row, or as a frame with its bytes. -/
def Asks (c : Instr) (r : Request) : Prop :=
  (∃ port tag, c.request? = some (port, tag, r)) ∨
  ∃ port kind tag payload, c = .requestFrameReceived port kind tag payload ∧ decodeRequest kind.toNat payload = .request r

/-- A command from `s` to `t` ends a running wait-to-restore timer of a ring: its expiry, a RING REVERT of the ring, or a
PORT CONFIG of one of its ports whose wait-to-restore time, as set, the elapsed time has reached (R57 to R59). -/
def Returns (c : Instr) (s t : State) (r : Ring) : Prop :=
  ∃ since, (s.rings.get r).timer = some since ∧
    (c = .waitToRestoreExpiry r ∨ Asks c (.ringRevert (ringNumber r)) ∨
      ((t.work.rings.get r).restore * 1000 ≤ s.now - since ∧
        ∃ (a : PortConfigArgs) (side : Side), a.port = spanNumber ⟨r, side⟩ ∧ a.restore ≠ none ∧ Asks c (.portConfig a)))

/-- What a command that is no reset can make of the units of a ring, row by row of R51, with their reachability as the command
leaves it, and of its wait-to-restore timer (R49, R51, R56). A row tells where a unit comes from, and the states it can have
come to; `RingsSound` says when a unit is ABSENT or MISMATCH. -/
structure Redecided (c : Instr) (s t : State) (r : Ring) : Prop where
  neither : ∀ u : UnitNo, (t.unit ⟨r, u⟩).commissioned = true → t.mismatched ⟨r, u⟩ = false →
    (t.rings.get r).reachA[u] = false → (t.rings.get r).reachB[u] = false → t.unitState ⟨r, u⟩ = .unreachable
  onlyB : ∀ u : UnitNo, (t.rings.get r).reachA[u] = false → (t.rings.get r).reachB[u] = true →
    t.unitState ⟨r, u⟩ = .fedB
  wasFedA : ∀ u : UnitNo, s.unitState ⟨r, u⟩ = .fedA → (t.rings.get r).reachA[u] = true → t.unitState ⟨r, u⟩ = .fedA
  wasFedB : ∀ u : UnitNo, s.unitState ⟨r, u⟩ = .fedB → (t.rings.get r).reachA[u] = true →
    ((t.rings.get r).reachB[u] = false → t.unitState ⟨r, u⟩ = .fedA) ∧
    ((t.rings.get r).reachB[u] = true →
      t.unitState ⟨r, u⟩ = .fedB ∨ (t.unitState ⟨r, u⟩ = .fedA ∧ Returns c s t r))
  wasUnfed : ∀ u : UnitNo, s.unitState ⟨r, u⟩ ≠ .fedA → s.unitState ⟨r, u⟩ ≠ .fedB →
    (t.rings.get r).reachA[u] = true →
    t.unitState ⟨r, u⟩ = if ∃ v < u, t.unitState ⟨r, v⟩ = .fedB then .fedB else .fedA
  starts : ∀ x, (s.rings.get r).timer = none → (t.rings.get r).timer = some x → x = s.now
  runs : ∀ x y, (s.rings.get r).timer = some x → (t.rings.get r).timer = some y → y = x

/-- Every allocation record stands for its own inputs: a NONE one is empty; the candidates of an ACTIVE one are carriers of
its carried set at the class its input gives, of class 0 alone with its gate closed, with a request in range and the floor
of the class, and its grants are the allocation of its budget to them (R91 to R93, R98 to R101). -/
structure AllocSound (s : State) : Prop where
  none : ∀ p reason, (posGet s.alloc p).status = .none reason → Barren (posGet s.alloc p)
  active : ∀ p side, (posGet s.alloc p).status = .active side → Granted (posGet s.alloc p)
  cands : ∀ p, ∀ c ∈ (posGet s.alloc p).cands, (∃ e ∈ (posGet s.alloc p).carried, e.1 = c.carrier) ∧
    c.cls = (posGet s.alloc p).classAt c.kind ∧ (c.cls ≠ 0 → (posGet s.alloc p).gate = true) ∧
    -300 ≤ c.request ∧ c.request ≤ 370 ∧ c.floor = floorIn c.cls c.request

end Sys2Proof.Machine
end

