-- ==== Sys2Proof/Certificates/Slice0/Obligations.lean ====
section
/-! DEFINITION. The statements for the provers. A request's statement starts from `watchFrame port s`: the state
once the frame has reached the control watch of port 0 (R175), which it changes there and nowhere else. -/

section

open Sys2Proof Sys2Proof.Machine

/-! ### The queue and the clock -/

/-- A step with a command at the front of the queue is that command on the state with the queue's rest; with an empty
queue nothing happens but the passing of a millisecond, which is the model's choice (assumption 2). -/
def Obligations.StepRunsTheFrontCommand : Prop :=
  (∀ (c : Instr) (rest : List Instr) (s : State), s.pending = c :: rest →
    step s = exec c { s with pending := rest }) ∧
  ∀ s : State, s.pending = [] → step s = .next { s with now := s.now + 1 }

/-- Every command completes in every state, and leaves the queue and the clock alone: the manual gives each
command an effect or none, and no command a stop. The queue and the clock are the model's own (assumptions 2, 15). -/
def Obligations.EveryCommandCompletes : Prop :=
  ∀ (c : Instr) (s : State), ∃ t, exec c s = .next t ∧ t.pending = s.pending ∧ t.now = s.now

/-! ### Request frames (R164, R169, R172) -/

/-- R172: the kind value, the group and the minimum authority of each request, as the catalogue gives them. -/
def Obligations.RequestCatalogue : Prop :=
  ∀ r : Request,
    let is (kind group authority : Nat) : Prop :=
      Request.kind r = kind ∧ (requestGroup r).val = group ∧ (minimumAuthority r).rank = authority
    match r with
    | .hello => is 0x01 0 0
    | .status => is 0x02 0 0
    | .keepalive => is 0x03 0 0
    | .readEvents => is 0x04 0 0
    | .permitSet .. => is 0x05 0 3
    | .watchSet .. => is 0x06 0 3
    | .restart => is 0x07 0 3
    | .carrierGet .. => is 0x11 1 0
    | .ruGet .. => is 0x12 1 0
    | .zoneGet .. => is 0x13 1 0
    | .ruAllocation .. => is 0x14 1 0
    | .carrierSet .. => is 0x15 1 3
    | .carrierClear .. => is 0x16 1 3
    | .ruSet .. => is 0x17 1 3
    | .zoneSet .. => is 0x18 1 3
    | .portStatus .. => is 0x21 2 0
    | .ringStatus .. => is 0x22 2 0
    | .portRenegotiate .. => is 0x23 2 1
    | .portConfig .. => is 0x24 2 3
    | .portEnable .. => is 0x25 2 3
    | .portDisable .. => is 0x26 2 3
    | .spanTestStart .. => is 0x27 2 3
    | .spanTestStop .. => is 0x28 2 3
    | .ringRevert .. => is 0x29 2 3
    | .refStatus => is 0x31 3 0
    | .refConfig .. => is 0x32 3 3
    | .refForceHoldover => is 0x33 3 3
    | .refResume => is 0x34 3 3
    | .rescueStatus .. => is 0x41 4 0
    | .consoleKey .. => is 0x42 4 1
    | .consoleUnkey .. => is 0x43 4 1
    | .voterConfig .. => is 0x44 4 3
    | .breakinList => is 0x51 5 0
    | .breakinPost .. => is 0x52 5 1
    | .breakinWithdraw .. => is 0x53 5 1
    | .clipList .. => is 0x61 6 0
    | .clipOpen .. => is 0x62 6 3
    | .clipPage .. => is 0x63 6 3
    | .clipDelete .. => is 0x64 6 3
    | .planRead .. => is 0x71 7 0
    | .stackRead => is 0x72 7 0
    | .invoke .. => is 0x73 7 2
    | .standDown => is 0x74 7 2
    | .standDownAll => is 0x75 7 2
    | .planLoad .. => is 0x76 7 3
    | .triggerSet .. => is 0x77 7 3
    | .contactSet .. => is 0x78 7 3

/-- Reading the bytes of a request's fields gives the request back, every field at every value its bytes can
carry (R164); and bytes that are read as a request are the bytes of that request. -/
def Obligations.RequestBytesRoundTrip : Prop :=
  (∀ r : Request, r.WellFormed = true → decodeRequest (Request.kind r) (encodeRequest r) = .request r) ∧
  (∀ (kind : Nat) (payload : List Byte) (r : Request), decodeRequest kind payload = .request r →
    Request.kind r = kind ∧ encodeRequest r = payload)

/-- REQUEST_FRAME_RECEIVED with the bytes of a request is the command of that request: that a request row stands for the
receipt of its frame is the model's reading (assumption 7). -/
def Obligations.FrameRunsItsRequest : Prop :=
  ∀ (i : Instr) (port : MgmtPort) (tag : Byte) (r : Request) (s : State),
    i.request? = some (port, tag, r) → r.WellFormed = true →
    ∃ t, exec (.requestFrameReceived port (BitVec.ofNat 8 (Request.kind r)) tag (encodeRequest r)) s = .next t
      ∧ exec i s = .next t

/-- R169, checks 1 and 2: a frame of a kind outside the catalogue is refused with UNKNOWN_KIND, one of a catalogue kind whose
payload is the bytes of no well-formed request with BAD_LENGTH, such as a CLIP PAGE whose page is not 1536 bytes (R126);
nothing else changes. A payload above 1600 bytes, which no frame carries (R164), is read by its fields alone. -/
def Obligations.UnreadableFramesAreRefused : Prop :=
  ∀ (s : State) (port : MgmtPort) (kind tag : Byte) (payload : List Byte), Takes s port →
    (kind.toNat ∉ catalogueKinds →
      exec (.requestFrameReceived port kind tag payload) s
        = .next ((watchFrame port s).withReply port ⟨kind, tag, .unknownKind, []⟩)) ∧
    (kind.toNat ∈ catalogueKinds →
      (∀ r, Request.kind r = kind.toNat → r.WellFormed = true ∨ 1600 < payload.length → encodeRequest r ≠ payload) →
      exec (.requestFrameReceived port kind tag payload) s
        = .next ((watchFrame port s).withReply port ⟨kind, tag, .badLength, []⟩))

/-- R169, checks 3 and 4: a request that a port takes is refused with AUTHORITY below its kind's minimum
authority, and with DENIED when its group is in the port's deny map; nothing else changes. -/
def Obligations.AdmissionRefusals : Prop :=
  ∀ (i : Instr) (port : MgmtPort) (tag : Byte) (r : Request) (s : State),
    i.request? = some (port, tag, r) → r.WellFormed = true → Takes s port →
    ((s.mgmt.get port).authority.rank < (minimumAuthority r).rank →
      exec i s = .next ((watchFrame port s).withReply port
        ⟨BitVec.ofNat 8 (Request.kind r), tag, .authority, []⟩)) ∧
    ((minimumAuthority r).rank ≤ (s.mgmt.get port).authority.rank → requestGroup r ∈ s.work.denied.get port →
      exec i s = .next ((watchFrame port s).withReply port ⟨BitVec.ofNat 8 (Request.kind r), tag, .denied, []⟩))

/-- R165, R168, R177: an UNSYNCED port, and a head-end in reset, take no request and no frame of any bytes, and nothing
changes. A frame that finds 2 requests outstanding is discarded, and the room discard count rises by one up to 65535; the
port stays SYNCED, and nothing else changes but the watch (R175). A request row stands for the receipt of its frame
(assumption 7). -/
def Obligations.UntakenFrames : Prop :=
  (∀ (i : Instr) (port : MgmtPort) (tag : Byte) (r : Request) (s : State),
    i.request? = some (port, tag, r) → (s.causes ≠ [] ∨ (s.mgmt.get port).synced = false) →
    exec i s = .next s) ∧
  (∀ (s : State) (port : MgmtPort) (kind tag : Byte) (payload : List Byte),
    (s.causes ≠ [] ∨ (s.mgmt.get port).synced = false) →
    exec (.requestFrameReceived port kind tag payload) s = .next s) ∧
  ∀ (s : State) (port : MgmtPort) (kind tag : Byte) (payload : List Byte), s.causes = [] →
    (s.mgmt.get port).synced = true → 2 ≤ (s.mgmt.get port).outstanding →
    exec (.requestFrameReceived port kind tag payload) s =
      .next ((watchFrame port s).setMgmt port
        { (watchFrame port s).mgmt.get port with room := min 65535 ((s.mgmt.get port).room + 1) })

/-- R15, R171: a request that writes a record whose store write is in flight is refused with BUSY, in any
request that a port serves; nothing else changes. -/
def Obligations.BusyRecordsRefuseWrites : Prop :=
  ∀ (i : Instr) (port : MgmtPort) (tag : Byte) (r : Request) (key : StoreKey) (s : State),
    i.request? = some (port, tag, r) → r.WellFormed = true → Serves s port r → requestRecord r = some key →
    key ∈ s.inFlight →
    exec i s = .next ((watchFrame port s).withReply port ⟨BitVec.ofNat 8 (Request.kind r), tag, .busy, []⟩)

/-! ### Management ports (R164 to R167, R171, R174) -/

/-- R164 to R167, R177: the summary byte's eight flags; EXCHANGE_OPEN records it. Behind it the port sends the first reply of
its ready order, or 0xFF; an UNSYNCED port sends no reply. A select opened during a reset has 0x00 in every byte, and no
reply, to its own end, also after that of the reset. That a select opened before the reset has 0x00 while the reset runs is
the model's choice (assumption 16). -/
def Obligations.SummaryByteShowsTheFlags : Prop :=
  ∀ (s : State) (port : MgmtPort),
    (s.causes ≠ [] → summaryByte s port = 0) ∧
    (s.causes = [] →
      (summaryByte s port).getLsbD 7 = !(s.mgmt.get port).ready.isEmpty ∧
      (summaryByte s port).getLsbD 6 = !(s.mgmt.get port).events.isEmpty ∧
      (summaryByte s port).getLsbD 5 = decide (2 ≤ (s.mgmt.get port).held.length + (s.mgmt.get port).ready.length) ∧
      (summaryByte s port).getLsbD 4 = !s.plans.stack.isEmpty ∧
      (summaryByte s port).getLsbD 3 = decide (s.reference.state = .locked ∨ s.reference.state = .holdover) ∧
      ((summaryByte s port).getLsbD 2 = true ↔
        ∃ p, s.unitState p = .fedB ∨ s.unitState p = .unreachable ∨ s.unitState p = .mismatch) ∧
      (summaryByte s port).getLsbD 1 = decide (s.watch = .expired) ∧
      (summaryByte s port).getLsbD 0 = (s.mgmt.get port).overflow) ∧
    exec (.exchangeOpen port) s = .next (s.setMgmt port { s.mgmt.get port with
      exchange := some (if s.causes = [] then .answered (summaryByte s port) else .dark) }) ∧
    (s.causes ≠ [] ∨ (s.mgmt.get port).exchange = some .dark → idleByte s port = 0 ∧ nextReply s port = none) ∧
    ((s.mgmt.get port).synced = false → nextReply s port = none) ∧
    (s.causes = [] → (s.mgmt.get port).exchange ≠ some .dark → idleByte s port = 0xFF ∧
      ((s.mgmt.get port).synced = true → nextReply s port = (s.mgmt.get port).ready.head?.map Reply.frame))

/-- R165: the fourth 0xFF syncs the port; a framing fault at a SYNCED port makes it UNSYNCED and is counted, at an
UNSYNCED one it is nothing; the end of an exchange is a framing fault when a frame was not whole. The sync count, and
a frame cut off at an UNSYNCED port, are the model's reading (assumption 16). -/
def Obligations.SyncAndFramingFaults : Prop :=
  ∀ (s : State) (port : MgmtPort) (cause : FramingCause), s.causes = [] →
    exec (.portSync port) s =
      .next (s.setMgmt port { s.mgmt.get port with synced := true, syncCount := 4 }) ∧
    ((s.mgmt.get port).synced = true →
      exec (.framingFault port cause) s =
        .next (s.setMgmt port { s.mgmt.get port with
          synced := false, syncCount := 0, framing := min 65535 ((s.mgmt.get port).framing + 1) }) ∧
      exec (.exchangeEnd port true) s =
        .next (s.setMgmt port { s.mgmt.get port with
          synced := false, syncCount := 0, framing := min 65535 ((s.mgmt.get port).framing + 1), exchange := none })) ∧
    ((s.mgmt.get port).synced = false →
      exec (.framingFault port cause) s = .next s ∧
      exec (.exchangeEnd port true) s =
        .next (s.setMgmt port { s.mgmt.get port with exchange := none, syncCount := 0 })) ∧
    exec (.exchangeEnd port false) s =
      .next (s.setMgmt port { s.mgmt.get port with exchange := none, syncCount := 0 })

/-- R166: a reply clocked out whole leaves the ready order of a SYNCED port, and so the outstanding list; the
next one is first. In a select opened during a reset no reply is sent, and none leaves (R177). -/
def Obligations.ReplyLeavesTheReadyOrder : Prop :=
  ∀ (s : State) (port : MgmtPort) (r : Reply) (rest : List Reply), s.causes = [] →
    (s.mgmt.get port).synced = true → (s.mgmt.get port).ready = r :: rest →
    ((s.mgmt.get port).exchange ≠ some .dark →
      exec (.replyClockedOut port) s = .next (s.setMgmt port { s.mgmt.get port with ready := rest })) ∧
    ((s.mgmt.get port).exchange = some .dark → exec (.replyClockedOut port) s = .next s)

/-- R15, R171: a store write in flight that completes leaves its record in stored form as in working form, every
other record as it was, and makes each reply held for it READY, last in the ready order. A clip takes with it the
page it has written last (R127), and a LOADING clip all of whose pages are written becomes READY. -/
def Obligations.StoreWriteCompletes : Prop :=
  ∀ (s : State) (key : StoreKey), s.causes = [] → key ∈ s.inFlight → memoryCanonical s →
    ∃ t, exec (.storeWriteComplete key) s = .next t ∧
      SameBut [.work, .stored, .inFlight, .ports] s t ∧
      t.inFlight = s.inFlight.erase key ∧
      t.stored.agree t.work key ∧
      (∀ k, k ≠ key → t.stored.agree s.stored k ∧ t.work.agree s.work k) ∧
      ((∀ c, key ≠ .clip c) → t.work = s.work ∧ t.stored.pages = s.stored.pages) ∧
      (∀ c, key = .clip c →
        t.work.clips[c] = (if s.work.clips[c].state = .loading ∧ s.work.clips[c].written = s.work.clips[c].pages then
          { s.work.clips[c] with state := .ready } else s.work.clips[c]) ∧
        t.work.pages = s.work.pages ∧
        ∀ a, memRead t.stored.pages a =
          (if 0 < s.work.clips[c].written ∧ a / 1536 = s.work.clips[c].first + s.work.clips[c].written - 1 then
            memRead s.work.pages a
          else memRead s.stored.pages a)) ∧
      ∀ q,
        (t.mgmt.get q).held = (s.mgmt.get q).held.filter (fun h => h.1 ≠ key) ∧
        (t.mgmt.get q).ready =
          (s.mgmt.get q).ready ++ ((s.mgmt.get q).held.filter (fun h => h.1 = key)).map (·.2) ∧
        (t.mgmt.get q).synced = (s.mgmt.get q).synced ∧
        (t.mgmt.get q).authority = (s.mgmt.get q).authority

/-- R173: a posted record joins both queues, each on its own: as newest while fewer than 48 are held; in a full
queue in place of the oldest NOTICE record; discarded, with the overflow flag set, when there is none. -/
def Obligations.EventQueuesKeepAlarms : Prop :=
  ∀ (s : State) (e : Note) (port : MgmtPort),
    let m := s.mgmt.get port
    let m' := (s.post e).mgmt.get port
    let new : Record := ⟨e.kind, e.severity, s.now - s.resetAt, e.subject, e.detail⟩
    m'.quiet = m.quiet ∧
    (m.events.length < 48 → m'.events = m.events ++ [new] ∧ m'.overflow = m.overflow) ∧
    (∀ before old after, m.events = before ++ old :: after → old.severity = .notice →
      (∀ r ∈ before, r.severity ≠ .notice) → 48 ≤ m.events.length →
      m'.events = before ++ after ++ [new] ∧ m'.overflow = m.overflow) ∧
    ((∀ r ∈ m.events, r.severity ≠ .notice) → 48 ≤ m.events.length →
      m'.events = m.events ∧ m'.overflow = true)

/-- R174: READ EVENTS removes the oldest records, up to 8, and its reply, READY at once, carries them oldest first; a
queue left empty clears the overflow flag. The count before the records is the model's choice (assumption 13). -/
def Obligations.ReadEventsTakesTheOldest : Prop :=
  ∀ (s : State) (port : MgmtPort) (tag : Byte), Serves s port .readEvents →
    let w := watchFrame port s
    let m := w.mgmt.get port
    exec (.readEvents port tag) s =
      .next ((w.setMgmt port { m with
        events := m.events.drop 8
        overflow := if m.events.length ≤ 8 then false else m.overflow }).withReply port
        ⟨0x04, tag, .accepted, .entries (min 8 m.events.length) :: (m.events.take 8).flatMap Record.fields⟩)

/-! ### The control watch (R175, R176) -/

/-- R175, R178: a valid frame on port 0, here KEEPALIVE, restarts a RUNNING watch, ends control loss with
CONTROL_RESTORED, and leaves an OFF watch alone; a frame on port 1 does none of it. -/
def Obligations.FramesRestartTheWatch : Prop :=
  ∀ (s : State) (tag : Byte),
    (Serves s .control .keepalive →
      (s.watch = .off →
        exec (.keepalive .control tag) s = .next (s.withReply .control ⟨0x03, tag, .accepted, []⟩)) ∧
      (∀ since, s.watch = .running since →
        exec (.keepalive .control tag) s =
          .next ({ s with watch := .running s.now }.withReply .control ⟨0x03, tag, .accepted, []⟩)) ∧
      (s.watch = .expired →
        exec (.keepalive .control tag) s =
          .next (({ s with watch := .running s.now }.post ⟨.controlRestored, .notice, .none, []⟩).withReply .control
            ⟨0x03, tag, .accepted, []⟩))) ∧
    (Serves s .console .keepalive →
      exec (.keepalive .console tag) s = .next (s.withReply .console ⟨0x03, tag, .accepted, []⟩))

/-- R147, R151, R160, R175: a RUNNING watch that reaches its window becomes EXPIRED. Without entry 31, CONTROL_LOST is
posted with the window and ENTRY_ABSENT, and nothing else changes. With it, trigger 31 is invoked with INCIDENT:
accepted, its plan is activated, and CONTROL_LOST stands after PLAN_CHANGED; refused, TRIGGER_REFUSED stands before
CONTROL_LOST, but for ALREADY_ACTIVE, which posts none; CONTROL_LOST carries the outcome. A watch that is OFF or EXPIRED
makes no invocation. The source CONTROL_WATCH is 1 in TRIGGER_REFUSED, second of the two that R151 lists (R174), and 3
in PLAN_CHANGED, fourth of those of R148. ENTRY_ABSENT is sent as an absent field, the source in PLAN_CHANGED behind a
presence byte, and a template's index counts from 0 (assumption 13); a window that a frame has restarted at the same
moment is not reached (assumption 24); a request that an earlier template posted is WAITING when evicted (assumption
26). What a position hears after an activation is by assumption 22. -/
def Obligations.WatchExpiryInvokesTrigger31 : Prop :=
  ∀ s : State, s.causes = [] →
    ((∀ since, s.watch = .running since → since = s.now) → exec .watchExpiry s = .next s) ∧
    ∀ since, s.watch = .running since → since ≠ s.now →
      let e := s.work.triggers[(31 : TriggerNo)]
      let expired := { s with watch := .expired }
      let a := invocation s 31 2
      let lost (detail : List Field) : Note := ⟨.controlLost, .alarm, .none, .quantity s.work.window :: detail⟩
      let told := lost [.present true, .named a.ctorIdx]
      (e.present = false → exec .watchExpiry s = .next (expired.post (lost [.present false]))) ∧
      (e.present = true → a = .accepted →
        let x := invoked s 31 .controlWatch
        ∃ t, exec .watchExpiry s = .next t ∧ Activates x expired t ∧
          (Bounded s → Tells [planChanged s.plans.active x, told] s t)) ∧
      (e.present = true → a = .alreadyActive → exec .watchExpiry s = .next (expired.post told)) ∧
      (e.present = true → a ≠ .accepted → a ≠ .alreadyActive →
        exec .watchExpiry s = .next ((expired.post (triggerRefusal s 31 [.named 1] a)).post told))

/-- R176: WATCH SET is of the MANAGEMENT group and needs MAINTAIN, which only port 0 can hold (`portsBounded`, R163). While
a store write of the window is in flight it is refused with BUSY. Otherwise the window in force becomes 0 for off, else
one from 2 to 60, and the watch OFF or RUNNING from 0; the reply carries the window, with ACCEPTED_CLAMPED when it is
not the one asked for, and is HELD for the store write. Its frame has ended control loss before. -/
def Obligations.WatchSetSetsTheWindow : Prop :=
  ∀ (s : State) (port : MgmtPort) (tag : Byte) (v : Int),
    requestGroup (.watchSet v) = 0 ∧ minimumAuthority (.watchSet v) = .maintain ∧
    (Serves s port (.watchSet v) →
      (portsBounded s → port = .control) ∧
      (.watch ∈ s.inFlight →
        exec (.watchSet port tag v) s = .next ((watchFrame port s).withReply port ⟨0x06, tag, .busy, []⟩)) ∧
      (.watch ∉ s.inFlight →
        let told := if port = .control ∧ s.watch = .expired then s.post ⟨.controlRestored, .notice, .none, []⟩ else s
        let set : Nat := if v ≤ 0 then 0 else if v = 1 then 2 else if v ≤ 60 then v.toNat else 60
        exec (.watchSet port tag v) s =
          .next ({ told with
              work := { s.work with window := set }
              watch := if set = 0 then .off else .running s.now }.withHeld port .watch
            ⟨0x06, tag, if (set : Int) = v then .accepted else .acceptedClamped, [.quantity set]⟩)))

/-! ### The management group (R170, R178) -/

/-- R178: HELLO answers with the head-end's identity, the port and its authority, the kind of the last reset and the
seconds since it ended; nothing else changes. The revision and the serial are open constants, the revision a count of
two bytes (assumption 3), and so is the family number (assumption 13). -/
def Obligations.HelloAnswersTheIdentity : Prop :=
  ∀ (s : State) (port : MgmtPort) (tag : Byte), Serves s port .hello →
    exec (.hello port tag) s =
      .next ((watchFrame port s).withReply port ⟨0x01, tag, .accepted,
        [.count 7420, .count Config.siliconRevision.toNat, .serial Config.serialNumber.toNat,
         .ident (if port = .control then 0 else 1), .named (s.mgmt.get port).authority.rank,
         .named (match s.lastReset with
           | .powerOn => 0
           | .resetLine => 1
           | .supplyDip => 2
           | .restart => 3), .wide ((s.now - s.resetAt) / 1000 : Nat)]⟩)

/-- R178: STATUS answers with the port's record; it counts itself as outstanding and not as ready (assumption 20), and
nothing else changes. That it carries the window and the watch on both ports, and how the watch is encoded, is the
model's choice (assumption 13). -/
def Obligations.StatusAnswersThePortRecord : Prop :=
  ∀ (s : State) (port : MgmtPort) (tag : Byte), Serves s port .status →
    let w := watchFrame port s
    let m := w.mgmt.get port
    exec (.status port tag) s =
      .next (w.withReply port ⟨0x02, tag, .accepted,
        [.named m.authority.rank, .count (m.held.length + m.ready.length + 1), .count m.ready.length,
         .count m.events.length, .flag m.overflow, .entries (s.work.denied.get port).length]
        ++ (s.work.denied.get port).map (fun g => .named g.val)
        ++ [.count m.framing, .count m.room, .quantity s.work.window]
        ++ (match w.watch with
          | .off => [.named 0]
          | .running since => [.named 1, .quantity ((s.now - since) / 1000 : Nat)]
          | .expired => [.named 2])
        ++ [.ident (summaryWith w port (m.held.length + m.ready.length + 1)).toNat]⟩)

/-- R170: PERMIT SET replaces the target's deny map whole, a group named twice taken once, with its reply HELD; it is
refused with BAD_ID out of range and with SELF_LOCKOUT when it would deny MANAGEMENT on its own port. -/
def Obligations.PermitSetReplacesTheDenyMap : Prop :=
  ∀ (s : State) (port : MgmtPort) (tag : Byte) (target : Nat) (groups : List Nat),
    Serves s port (.permitSet target groups) →
    let w := watchFrame port s
    ((1 < target ∨ ∃ g ∈ groups, 7 < g) →
      exec (.permitSet port tag target groups) s = .next (w.withReply port ⟨0x05, tag, .badId, []⟩)) ∧
    (∀ p, mgmtOf target = some p → (∀ g ∈ groups, g ≤ 7) → .denyMap p ∉ s.inFlight →
      (p = port ∧ 0 ∈ groups →
        exec (.permitSet port tag target groups) s = .next (w.withReply port ⟨0x05, tag, .selfLockout, []⟩)) ∧
      (¬(p = port ∧ 0 ∈ groups) →
        ∃ denied : List GroupNo, denied.Nodup ∧ (∀ g, g ∈ denied ↔ g.val ∈ groups) ∧
          exec (.permitSet port tag target groups) s =
            .next ({ w with work := { w.work with denied := w.work.denied.set p denied } }.withHeld port (.denyMap p)
              ⟨0x05, tag, .accepted, []⟩)))

/-! ### The tables of the tunnel (chapter 1) -/

/-- R6, R12, R14, R88, R105: CARRIER GET, RU GET, ZONE GET and RU ALLOCATION answer ACCEPTED with the records asked for,
field by field, and BAD_ID out of range; nothing else changes. The encoding of fields that R164 does not class, and the
order of the eight zones, are the model's choice (assumption 13); a carried carrier's kind is read from the Catalogue
now (assumption 11). -/
def Obligations.ModelReadsAnswer : Prop :=
  ∀ (s : State) (port : MgmtPort) (tag : Byte) (n : Nat),
    let w := watchFrame port s
    let flag (key : StoreKey) : Field := .flag (decide (key ∈ s.inFlight))
    let cls (kind : CarrierKind) (announced : Bool) : Nat := match kind with
      | .rescue => 0
      | .broadcast => if announced then 1 else 2
      | .mobile => 3
    let carrier (c : CarrierNo) (x : Carrier) : List Field :=
      [.ident (c.val + 1), .named x.kind.ctorIdx, .ident x.lane] ++ optField .channel x.channel ++
        optField (fun m : Fin 4 => .ident (m.val + 1)) x.programme ++
        [.flag (decide (∃ p : PlanNo, ∃ e ∈ (match s.work.plans[p] with
          | some r => r.listN ++ r.listS
          | none => []), e.1 = c)), flag (.carrier c)]
    let unit (p : Position) : List Field :=
      let u := posGet s.work.units p
      [.position p, .flag u.commissioned] ++ optField .serial u.identity ++
        [.quantity u.ceiling, .quantity u.margin, .quantity u.trim, flag (.unit p), .named (s.unitState p).ctorIdx] ++
        optField .serial (posGet s.beacons p).identity ++
        optField (fun z : ZoneNo => .ident (z.val + 1)) ((List.finRange 8).find? fun z => p ∈ s.work.zones[z])
    let zone (z : ZoneNo) : List Field :=
      let members := allPositions.filter (· ∈ s.work.zones[z])
      .entries members.length :: members.map .position ++ [flag (.zone z)]
    let allocated (p : Position) (r : AllocRec) (x : Wanted) : List Field :=
      let k := cls x.kind r.announced
      let request := max (-300) (min 370 (x.level + (s.unit p).trim))
      let limit : Int := if k = 0 then 0 else if k = 1 then 30 else if k = 2 then 60 else 150
      [.ident (x.carrier.val + 1), .named x.kind.ctorIdx, .quantity x.level, .ident k, .quantity request,
        .quantity (max (-300) (request - limit))] ++
      (match r.grants.find? (·.1 = x.carrier), r.excluded.find? (·.1 = x.carrier) with
        | some (_, g), _ => [.named 0, .quantity g]
        | none, none => [.named 1]
        | none, some (_, .gate) => [.named 2, .named 0]
        | none, some (_, .idle) => [.named 2, .named 1])
    let active (p : Position) (r : AllocRec) : List Field :=
      let carried := carriageOrder (s.catalogued r.carried)
      .named (if r.gate then 0 else 1) :: r.rescue.toList.map (fun b => .named (if b then 1 else 0)) ++
        .entries carried.length :: carried.flatMap (allocated p r) ++
        [.power r.composite, .power (r.budget - r.composite)] ++
        (match r.ending with
          | none => []
          | some .fit => [.named 0]
          | some (.backoff k d) => [.named 1, .ident k, .quantity d]
          | some (.rescueLimit d) => [.named 2, .quantity d]) ++
        [.count r.mute.length, .flag (match r.ending with | some (.rescueLimit _) => true | _ => false)]
    let path (p : Position) (side : Side) : List Field :=
      let x := s.carriage.get ⟨p.ring, side⟩
      [.present true, .ring p.ring, .named side.ctorIdx, .count (x.capacity.getD 0), .flag x.announcing,
        .entries x.wanted.length] ++ x.wanted.flatMap fun e =>
          [.ident (e.carrier.val + 1), .named e.kind.ctorIdx, .quantity e.level, .ident (cls e.kind x.announcing)] ++
          optField (fun slot => .ident slot) ((x.carried.find? (·.1.carrier = e.carrier)).map (·.2))
    let allocation (p : Position) : List Field :=
      let r := posGet s.alloc p
      (match r.status with
        | .active _ => [.named 0]
        | .none reason => [.named 1, .named reason.ctorIdx]) ++
      [.quantity (s.unit p).ceiling, .quantity r.margin] ++
      (match r.override with
        | none => [.named 0]
        | some (plan, _) => [.named 1, .ident plan.val]) ++
      .power r.budget :: (match r.status with
        | .active _ => active p r
        | .none _ => []) ++
      (match s.unitState p with
        | .fedA => path p .a
        | .fedB => path p .b
        | _ => [.present false])
    (Serves s port (.carrierGet n) →
      (24 < n → exec (.carrierGet port tag n) s = .next (w.withReply port ⟨0x11, tag, .badId, []⟩)) ∧
      (∀ c : CarrierNo, n = c.val + 1 →
        exec (.carrierGet port tag n) s = .next (w.withReply port ⟨0x11, tag, .accepted,
          match s.work.catalogue[c] with
          | none => [.present false]
          | some x => .present true :: carrier c x⟩)) ∧
      (n = 0 →
        exec (.carrierGet port tag n) s = .next (w.withReply port ⟨0x11, tag, .accepted,
          .entries ((List.finRange 24).filter fun c => s.work.catalogue[c].isSome).length ::
            (List.finRange 24).flatMap fun c => ((s.work.catalogue[c].map (carrier c)).getD [])⟩))) ∧
    (Serves s port (.ruGet n) →
      (∀ p, positionNumber p = n →
        exec (.ruGet port tag n) s = .next (w.withReply port ⟨0x12, tag, .accepted, unit p⟩)) ∧
      (∀ r, 16 * ringNumber r = n →
        exec (.ruGet port tag n) s = .next (w.withReply port ⟨0x12, tag, .accepted,
          (List.finRange 12).flatMap fun u => unit ⟨r, u⟩⟩)) ∧
      ((∀ p, positionNumber p ≠ n) → (∀ r, 16 * ringNumber r ≠ n) →
        exec (.ruGet port tag n) s = .next (w.withReply port ⟨0x12, tag, .badId, []⟩))) ∧
    (Serves s port (.zoneGet n) →
      (8 < n → exec (.zoneGet port tag n) s = .next (w.withReply port ⟨0x13, tag, .badId, []⟩)) ∧
      (∀ z : ZoneNo, n = z.val + 1 →
        exec (.zoneGet port tag n) s = .next (w.withReply port ⟨0x13, tag, .accepted, zone z⟩)) ∧
      (n = 0 →
        exec (.zoneGet port tag n) s = .next (w.withReply port ⟨0x13, tag, .accepted,
          (List.finRange 8).flatMap zone⟩))) ∧
    (Serves s port (.ruAllocation n) →
      (∀ p, positionNumber p = n →
        exec (.ruAllocation port tag n) s = .next (w.withReply port ⟨0x14, tag, .accepted, allocation p⟩)) ∧
      ((∀ p, positionNumber p ≠ n) →
        exec (.ruAllocation port tag n) s = .next (w.withReply port ⟨0x14, tag, .badId, []⟩)))

/-- R4, R5, R7, R15: a CARRIER SET is refused with BAD_ID for an identifier out of range, with IN_USE for a change of kind of
a carrier that a plan names, and with BAD_VALUE when kind, lane, channel and programme disagree or R1 would not hold. One
that passes its checks replaces the record whole in working form, its store write begins and its reply is HELD. CARRIER
CLEAR is refused with BAD_ID out of range, and with IN_USE for a record that a plan names; it removes any other, its reply
HELD, and with no record there it is ACCEPTED at once and nothing is written. A change is an event CATALOGUE at each
planner, which forms its record afresh and posts what it sheds and restores; a planner's changed carried set reaches the
allocation records of its units, and the voters of the old and the new channel judge their coverage afresh. Beyond these
nothing else changes. That a byte which names no kind differs from every kind and is a BAD_VALUE is the model's reading
(assumption 19); so is the kind read from the Catalogue, and the channel a carrier moves to at the allocators (assumption
11); the place counted from 1 in CARRIER_SHED is its choice (assumption 13). -/
def Obligations.CarrierSetAndClear : Prop :=
  (∀ (s : State) (port : MgmtPort) (tag : Byte),
    let w := watchFrame port s
    (∀ a : CarrierSetArgs, Serves s port (.carrierSet a) →
      (¬(1 ≤ a.carrier ∧ a.carrier ≤ 24) ∨ ¬(1 ≤ a.lane ∧ a.lane ≤ 4) ∨
        (∃ n, a.channel = some n ∧ ¬(1 ≤ n ∧ n ≤ 4)) ∨ (∃ n, a.programme = some n ∧ ¬(1 ≤ n ∧ n ≤ 4))) →
      exec (.carrierSet port tag a) s = .next (w.withReply port ⟨0x15, tag, .badId, []⟩)) ∧
    ∀ n, Serves s port (.carrierClear n) → ¬(1 ≤ n ∧ n ≤ 24) →
      exec (.carrierClear port tag n) s = .next (w.withReply port ⟨0x16, tag, .badId, []⟩)) ∧
  ∀ (s : State) (port : MgmtPort) (tag : Byte) (c : CarrierNo), .carrier c ∉ s.inFlight →
    let w := watchFrame port s
    let reached : List Part := [.carriage, .alloc, .voters, .events, .choices]
    let concerns (x : Option Carrier) (ch : ChannelNo) : Prop := ∃ y, x = some y ∧ y.channel = some ch
    let changed (x : Option Carrier) (u t : State) : Prop :=
      SameBut reached u t ∧
      (∀ path, t.carriage.get path = plan t path .catalogue (s.carriage.get path) ∧
        Tells (shedReports path 4 (s.carriage.get path) (t.carriage.get path)) u t ∧
        ∀ v ∈ (t.carriage.get path).units, (posGet s.alloc ⟨path.ring, v⟩).status = .active path.side →
          (¬∀ e : ListEntry, e ∈ (s.carriage.get path).carried.map (fun y => (y.1.carrier, y.1.level)) ↔
            e ∈ (t.carriage.get path).carried.map (fun y => (y.1.carrier, y.1.level))) →
          (posGet t.alloc ⟨path.ring, v⟩).carried =
            (t.carriage.get path).carried.map fun y => (y.1.carrier, y.1.level)) ∧
      ∀ ch : ChannelNo,
        (concerns s.work.catalogue[c] ch ∨ concerns x ch → t.voters[ch].covers = coverageOf t ch) ∧
        (¬concerns s.work.catalogue[c] ch → ¬concerns x ch → t.voters[ch] = s.voters[ch])
    (∀ (a : CarrierSetArgs) (channel : Option ChannelNo) (programme : Option (Fin 4)),
      Serves s port (.carrierSet a) → a.carrier = c.val + 1 → 1 ≤ a.lane → a.lane ≤ 4 →
      a.channel = channel.map (fun ch => ch.val + 1) → a.programme = programme.map (fun pr => pr.val + 1) →
      let refused (e : Answer) : Prop := exec (.carrierSet port tag a) s = .next (w.withReply port ⟨0x15, tag, e, []⟩)
      (kindOf a.kind = none →
        (s.work.catalogue[c] ≠ none → s.planNames c = true → refused .inUse) ∧
        (s.work.catalogue[c] = none ∨ s.planNames c = false → refused .badValue)) ∧
      ∀ kind, kindOf a.kind = some kind → (∀ x, s.work.catalogue[c] = some x → x.kind = kind ∨ s.planNames c = false) →
        let agrees : Prop := match kind with
          | .mobile => a.lane ≤ 2 ∧ channel = none ∧ programme = none
          | .broadcast => a.lane = 3 ∧ channel = none ∧ programme ≠ none
          | .rescue => a.lane = 4 ∧ channel ≠ none ∧ programme = none
        (¬agrees → refused .badValue) ∧
        (agrees → catalogueOk (s.work.catalogue.set c (some ⟨kind, a.lane, channel, programme⟩)) = false →
          refused .badValue)) ∧
    (∀ (a : CarrierSetArgs) (kind : CarrierKind) (channel : Option ChannelNo) (programme : Option (Fin 4)),
      Serves s port (.carrierSet a) → a.carrier = c.val + 1 → 1 ≤ a.lane → a.lane ≤ 4 →
      a.channel = channel.map (fun ch => ch.val + 1) → a.programme = programme.map (fun pr => pr.val + 1) →
      kindOf a.kind = some kind →
      ((∃ x, s.work.catalogue[c] = some x ∧ x.kind ≠ kind) → s.planNames c = true →
        exec (.carrierSet port tag a) s = .next (w.withReply port ⟨0x15, tag, .inUse, []⟩)) ∧
      ((∀ x, s.work.catalogue[c] = some x → x.kind = kind ∨ s.planNames c = false) →
        laneAgrees kind a.lane = true → presenceAgrees kind channel.isSome programme.isSome = true →
        catalogueOk (s.work.catalogue.set c (some ⟨kind, a.lane, channel, programme⟩)) = true →
        ∃ t, exec (.carrierSet port tag a) s = .next t ∧
          changed (some ⟨kind, a.lane, channel, programme⟩)
            ((w.setCatalogue (s.work.catalogue.set c (some ⟨kind, a.lane, channel, programme⟩))).withHeld port
              (.carrier c) ⟨0x15, tag, .accepted, []⟩) t)) ∧
    (Serves s port (.carrierClear (c.val + 1)) →
      (s.planNames c = true →
        exec (.carrierClear port tag (c.val + 1)) s = .next (w.withReply port ⟨0x16, tag, .inUse, []⟩)) ∧
      (s.planNames c = false → s.work.catalogue[c] = none →
        exec (.carrierClear port tag (c.val + 1)) s = .next (w.withReply port ⟨0x16, tag, .accepted, []⟩)) ∧
      (s.planNames c = false → s.work.catalogue[c] ≠ none →
        ∃ t, exec (.carrierClear port tag (c.val + 1)) s = .next t ∧
          changed none
            ((w.setCatalogue (s.work.catalogue.set c none)).withHeld port (.carrier c) ⟨0x16, tag, .accepted, []⟩) t))

/-- R9, R10, R11: a RU SET of no position is refused with BAD_ID, one after which the commissioned run would break with
BAD_VALUE; any other replaces the record, its ceiling, margin and trim brought into range, with its reply HELD. A
changed commissioned flag, or a changed expected identity of a commissioned position, is a recomputation of the ring,
with FEED_CHANGE of cause MODEL for each run of consecutive positions that enter the same state (R52). A position newly
commissioned is UNREACHABLE and awaits its first beacon; one newly decommissioned is ABSENT, off its path, no voter's
candidate, and allocated nothing. A span port takes its mark exactly where the units on its path have changed, and is
else as it was (R36, R53). A changed expected identity has MISMATCH judged afresh, with RU_MISMATCH posted on a change.
A changed ceiling, margin or trim of a commissioned position has its allocation formed afresh from the inputs held, with
the reports of R104, and changes nothing else. A record that stays uncommissioned concerns no block. That RU_MISMATCH
stands before FEED_CHANGE, and these by ascending position, is the model's reading (assumption 17); how CLEARED, a class
and a backoff are sent (assumption 13), and the loopback flag of a position newly commissioned or decommissioned
(assumption 28), are its choice, and so are the numbers of the states in FEED_CHANGE (assumption 33). -/
def Obligations.RuSetReplacesTheRecord : Prop :=
  (∀ (s : State) (port : MgmtPort) (tag : Byte) (a : RuSetArgs), Serves s port (.ruSet a) →
    (∀ p, positionNumber p ≠ a.position) →
    exec (.ruSet port tag a) s = .next ((watchFrame port s).withReply port ⟨0x17, tag, .badId, []⟩)) ∧
  ∀ (s : State) (port : MgmtPort) (tag : Byte) (a : RuSetArgs) (p : Position), Serves s port (.ruSet a) →
    a.position = positionNumber p → .unit p ∉ s.inFlight →
    let w := watchFrame port s
    let new : RuRecord := ⟨a.commissioned, a.identity, max 200 (min 370 a.ceiling), max 0 (min 30 a.margin),
      max (-60) (min 60 a.trim)⟩
    let answer : Answer :=
      if new.ceiling = a.ceiling ∧ new.margin = a.margin ∧ new.trim = a.trim then .accepted else .acceptedClamped
    let held := (w.setUnit p new).withHeld port (.unit p) ⟨0x17, tag, answer, ruFields p new⟩
    (runOk ((s.work.units.get p.ring).set p.unit new) = false →
      exec (.ruSet port tag a) s = .next (w.withReply port ⟨0x17, tag, .badValue, []⟩)) ∧
    (runOk ((s.work.units.get p.ring).set p.unit new) = true →
      ∃ t, exec (.ruSet port tag a) s = .next t ∧
        SameBut [.spans, .beacons, .rings, .carriage, .alloc, .voters, .events, .choices] held t ∧
        (∀ q, q ≠ p → posGet t.beacons q = posGet s.beacons q) ∧ (∀ q, t.spans.get q = pathMarked s t q) ∧
        ((s.unit p).commissioned = false → a.commissioned = false → t = held) ∧
        ((s.unit p).commissioned = a.commissioned → posGet t.beacons p = posGet s.beacons p) ∧
        ((s.unitState p = .absent ↔ (s.unit p).commissioned = false) →
          ((s.unit p).commissioned = false → a.commissioned = true →
            t.unitState p = .unreachable ∧ (posGet t.beacons p).status = some .awaited
              ∧ (posGet t.beacons p).identity = none) ∧
          ((s.unit p).commissioned = true → a.commissioned = false →
            t.unitState p = .absent ∧ (posGet t.beacons p).status = none ∧
            (posGet t.alloc p).status = .none .absent ∧ Barren (posGet t.alloc p) ∧
            (∀ side, (s.unitState p).side = some side →
              p.unit ∉ (t.carriage.get ⟨p.ring, side⟩).units ∧
              ∀ ch : ChannelNo, s.voters[ch].covers.get p.ring = true → ∀ c ∈ t.voters[ch].cands, c.position ≠ p))) ∧
        ((s.unit p).commissioned ≠ a.commissioned →
          let u := (w.setUnit p new).setBeacon p
            ⟨if a.commissioned then some .awaited else none, none, none, none, .ok, false⟩
          t.rings = s.rings.set p.ring (recomputeRing u p.ring []) ∧
          ∃ feeds, FeedReported p.ring 2 (s.rings.get p.ring).units (t.rings.get p.ring).units feeds ∧
            Posts feeds w t) ∧
        ((s.unit p).commissioned = true → a.commissioned = true →
          let u := w.setUnit p new
          let judged := s.mismatched p != u.mismatched p
          let ring := recomputeRing u p.ring (if judged then [p.unit] else [])
          let old := posGet s.alloc p
          let x := posGet t.alloc p
          let same := new.ceiling = (s.unit p).ceiling ∧ new.margin = (s.unit p).margin ∧ new.trim = (s.unit p).trim
          ((s.unit p).identity ≠ a.identity →
            t.rings = s.rings.set p.ring ring ∧
            ((s.unitState p = .mismatch ↔ s.mismatched p = true) →
              (t.unitState p = .mismatch ↔ ∃ i j, a.identity = some i ∧ (posGet s.beacons p).identity = some j ∧ i ≠ j)) ∧
            ∃ feeds, FeedReported p.ring 2 (s.rings.get p.ring).units (t.rings.get p.ring).units feeds ∧
              Posts ((if judged then [if u.mismatched p
                then ⟨.ruMismatch, .alarm, .position p, [.serial ((posGet s.beacons p).identity.getD 0)]⟩
                else ⟨.ruMismatch, .notice, .position p, [.named 0]⟩] else []) ++ feeds) w t) ∧
          (¬same → Allocated t p x) ∧
          ((s.unit p).identity = a.identity → same → t = held) ∧
          ((s.unit p).identity = a.identity → ¬same →
            SameBut [.alloc, .events] held t ∧ (∀ q, q ≠ p → posGet t.alloc q = posGet s.alloc q) ∧
            x.status = old.status ∧ x.announced = old.announced ∧ x.gate = old.gate ∧ x.rescue = old.rescue ∧
            x.override = old.override ∧ ∀ side, x.status = .active side →
              x.carried = old.carried ∧
              (∀ c ∈ x.mute, c ∉ old.mute → ∀ d ∈ x.cands, d.carrier = c → (x.cands.map Cand.carrier).Nodup →
                Reports ⟨.carrierMuted, .warning, .carrier c, [.position p, .ident d.cls, .named 3]⟩ w t) ∧
              (∀ c ∈ old.mute, c ∉ x.mute →
                (∀ g, (c, g) ∈ x.grants → (x.grants.map Prod.fst).Nodup → Reports
                  ⟨.carrierUnmuted, .notice, .carrier c, [.position p, .named 0, .quantity g, .named 3]⟩ w t) ∧
                ((∀ g, (c, g) ∉ x.grants) →
                  Reports ⟨.carrierUnmuted, .notice, .carrier c, [.position p, .named 1, .named 3]⟩ w t)) ∧
              let limited (r : AllocRec) : Prop := ∃ d, r.ending = some (.rescueLimit d)
              (∀ d, ¬limited old → x.ending = some (.rescueLimit d) → Reports ⟨.allocationLimited, .alarm, .position p,
                [.named 0, .quantity d, .count (x.cands.filter (·.cls = 0)).length, .named 3]⟩ w t) ∧
              (limited old → ¬limited x →
                Reports ⟨.allocationLimited, .notice, .position p, [.named 1, .named 3]⟩ w t))))

/-- R13, R14, R139: a ZONE SET of no zone, or with a member that is no position, is refused with BAD_ID; one with a member
that another zone holds is refused with OVERLAP and names the lowest such zone with a position of it; any other replaces the
zone's member set whole, a position named twice taken once, with its reply HELD. Queue, owners and players go on; in a zone
that carries an announcement, a position that leaves returns to its programmes and one that joins hears nothing new yet, and
each class change is handed on. That a position's hearing is kept as the request it hears is assumption 22. -/
def Obligations.ZoneSetReplacesTheMembers : Prop :=
  (∀ (s : State) (port : MgmtPort) (tag : Byte) (a : ZoneSetArgs), Serves s port (.zoneSet a) →
    (¬(1 ≤ a.zone ∧ a.zone ≤ 8) ∨ ∃ n ∈ a.members, ∀ p, positionNumber p ≠ n) →
    exec (.zoneSet port tag a) s = .next ((watchFrame port s).withReply port ⟨0x18, tag, .badId, []⟩)) ∧
  ∀ (s : State) (port : MgmtPort) (tag : Byte) (z : ZoneNo) (members : List Nat),
    Serves s port (.zoneSet ⟨z.val + 1, members⟩) → (∀ n ∈ members, ∃ p, positionNumber p = n) →
    .zone z ∉ s.inFlight →
    let w := watchFrame port s
    let conflict (y : ZoneNo) (p : Position) : Prop :=
      y ≠ z ∧ p ∈ s.work.zones[y] ∧ positionNumber p ∈ members
    ((∃ y p, conflict y p) →
      ∃ y p, conflict y p ∧ (∀ y' p', conflict y' p' → y ≤ y') ∧
        exec (.zoneSet port tag ⟨z.val + 1, members⟩) s =
          .next (w.withReply port ⟨0x18, tag, .overlap, [.ident (y.val + 1), .position p]⟩)) ∧
    ((∀ y p, ¬conflict y p) →
      ∃ set t, set.Nodup ∧ (∀ p, p ∈ set ↔ positionNumber p ∈ members) ∧
        exec (.zoneSet port tag ⟨z.val + 1, members⟩) s = .next t ∧
        SameBut [.breakin, .carriage, .alloc, .events, .choices]
          ({ w with work := { w.work with zones := w.work.zones.set z set } }.withHeld port (.zone z)
            ⟨0x18, tag, .accepted, []⟩) t ∧
        t.breakin = { s.breakin with heard := t.breakin.heard } ∧
        (∀ p, posGet t.breakin.heard p = if s.breakin.carrying[z] ∧ p ∈ s.work.zones[z] ∧ positionNumber p ∉ members then
          none else posGet s.breakin.heard p) ∧
        (∀ p, (posGet s.alloc p).announced = s.announced p → (posGet t.alloc p).announced = t.announced p) ∧
        (s.breakin.carrying[z] = false →
          t = { w with work := { w.work with zones := w.work.zones.set z set } }.withHeld port (.zone z)
            ⟨0x18, tag, .accepted, []⟩))

/-- R16: a reset, and a RESTART, loads the Remote Unit Table that the store holds, once the writes it lets finish are done,
with every commissioned position above the lowest uncommissioned one of its ring uncommissioned, and its other fields
kept. -/
def Obligations.ResetRestoresTheRun : Prop :=
  let restores (x : Store) (t : State) : Prop := ∀ p : Position,
    t.unit p = { posGet x.units p with
      commissioned := decide ((posGet x.units p).commissioned = true ∧
        ∀ v : UnitNo, v < p.unit → (posGet x.units ⟨p.ring, v⟩).commissioned = true) }
  ∀ s : State,
    (∀ (straps : Nat) (written : List StoreKey), s.causes ≠ [] →
      ∃ t, exec (.resetEnd straps written) s = .next t ∧ restores (s.finished written).stored t) ∧
    ∀ (port : MgmtPort) (tag : Byte), Serves s port .restart → s.inFlight = [] →
      ∃ t, exec (.restart port tag) s = .next t ∧ restores s.stored t

/-- R17: a reset, and a RESTART, loads the Zone Table that the store holds, once the writes it lets finish are done, with a
position that more than one zone holds kept in the lowest-numbered of them and in no other. -/
def Obligations.ResetRestoresTheZones : Prop :=
  let restores (x : Store) (t : State) : Prop := ∀ (z : ZoneNo) (p : Position),
    p ∈ t.work.zones[z] ↔ p ∈ x.zones[z] ∧ ∀ y : ZoneNo, y < z → p ∉ x.zones[y]
  ∀ s : State,
    (∀ (straps : Nat) (written : List StoreKey), s.causes ≠ [] →
      ∃ t, exec (.resetEnd straps written) s = .next t ∧ restores (s.finished written).stored t) ∧
    ∀ (port : MgmtPort) (tag : Byte), Serves s port .restart → s.inFlight = [] →
      ∃ t, exec (.restart port tag) s = .next t ∧ restores s.stored t

/-- R18: the Catalogue that a reset loads, from the store once the writes it lets finish are done, keeps R1, holds no record
that was not stored, and is the stored one itself when that kept R1; while it does not, the record of highest id in
breach goes first. Which records are in breach is the model's reading (assumption 12). -/
def Obligations.ResetRestoresTheCatalogue : Prop :=
  (∀ (s : State) (straps : Nat) (written : List StoreKey), s.causes ≠ [] →
    let x := (s.finished written).stored.catalogue
    ∃ t, exec (.resetEnd straps written) s = .next t ∧
      t.work.catalogue = repairCatalogue 24 x ∧ catalogueOk t.work.catalogue = true ∧
      (∀ c : CarrierNo, t.work.catalogue[c] = x[c] ∨ t.work.catalogue[c] = none) ∧
      (catalogueOk x = true → t.work.catalogue = x)) ∧
  ∀ (t : Vector (Option Carrier) 24) (c : CarrierNo), inBreach t c = true →
    (∀ d : CarrierNo, c < d → inBreach t d = false) → repairCatalogue 24 t = repairCatalogue 24 (t.set c none)

/-! ### Span ports (chapter 2) -/

/-- R28: PORT RENEGOTIATE needs OPERATE, and is refused with STATE in DISABLED and TEST; in any other state it clears
the fault latch and sends the port to BREAK with a full break timer, without a failed attempt counted; a port in UP
posts PORT_DOWN, empties its buffer and keeps its partner record, its hop is DOWN, and FEED_CHANGE with cause HOP is
posted of what the ring's recomputation changes (R52). That PORT_DOWN stands before FEED_CHANGE, and these by ascending
position, is the model's reading (assumption 17), and the numbers of the states in FEED_CHANGE are its choice
(assumption 33). -/
def Obligations.RenegotiateGoesToBreak : Prop :=
  ∀ (s : State) (port : MgmtPort) (tag : Byte) (n : Nat), Serves s port (.portRenegotiate n) →
    let w := watchFrame port s
    minimumAuthority (.portRenegotiate n) = .operate ∧
    ((∀ p, spanNumber p ≠ n) →
      exec (.portRenegotiate port tag n) s = .next (w.withReply port ⟨0x23, tag, .badId, []⟩)) ∧
    ∀ p, spanNumber p = n →
      let x := s.spans.get p
      let y := { x with state := .breaking, timer := some s.now, test := none, latch := none }
      (x.state = .disabled ∨ x.state = .test →
        exec (.portRenegotiate port tag n) s = .next (w.withReply port ⟨0x23, tag, .wrongState, []⟩)) ∧
      (x.state = .breaking ∨ x.state = .advertise →
        exec (.portRenegotiate port tag n) s =
          .next ((w.setSpan p y).withReply port ⟨0x23, tag, .accepted, []⟩)) ∧
      (∀ g m, x.state = .up g m →
        ∃ t, exec (.portRenegotiate port tag n) s = .next t ∧
          SameBut fedParts (w.withReply port ⟨0x23, tag, .accepted, []⟩) t ∧
          hopEvent p { y with buffer := ⟨[], false, false, x.buffer.slips, [], false⟩ }
            ⟨.portDown, .notice, .span p, [.named 2]⟩ w t)

/-- R29, R40: PORT DISABLE is accepted in every state: nothing changes in DISABLED; BREAK and ADVERTISE end; UP is left
with PORT_DOWN and then FEED_CHANGE with cause HOP of what the ring's recomputation changes (R52); a test ends with
TEST_DONE. PORT ENABLE sends a DISABLED port to BREAK with its latch clear and changes nothing in any other state. A
port out of range is refused with BAD_ID. The seconds a test has run are read from the model's clock (assumption 2),
PORT_DOWN stands before FEED_CHANGE, and these by ascending position (assumption 17), and the numbers of the states in
FEED_CHANGE are the model's choice (assumption 33). -/
def Obligations.DisableAndEnable : Prop :=
  (∀ (s : State) (port : MgmtPort) (tag : Byte) (n : Nat), (∀ p, spanNumber p ≠ n) →
    let w := watchFrame port s
    (Serves s port (.portDisable n) →
      exec (.portDisable port tag n) s = .next (w.withReply port ⟨0x26, tag, .badId, []⟩)) ∧
    (Serves s port (.portEnable n) →
      exec (.portEnable port tag n) s = .next (w.withReply port ⟨0x25, tag, .badId, []⟩))) ∧
  ∀ (s : State) (port : MgmtPort) (tag : Byte) (p : SpanPort),
    let w := watchFrame port s
    let x := s.spans.get p
    (Serves s port (.portDisable (spanNumber p)) →
      (x.state = .disabled →
        exec (.portDisable port tag (spanNumber p)) s = .next (w.withReply port ⟨0x26, tag, .accepted, []⟩)) ∧
      (x.state = .breaking ∨ x.state = .advertise →
        exec (.portDisable port tag (spanNumber p)) s =
          .next ((w.setSpan p { x with state := .disabled, timer := none, test := none }).withReply port
            ⟨0x26, tag, .accepted, []⟩)) ∧
      (∀ g m, x.state = .up g m →
        ∃ t, exec (.portDisable port tag (spanNumber p)) s = .next t ∧
          SameBut fedParts (w.withReply port ⟨0x26, tag, .accepted, []⟩) t ∧
          hopEvent p { x with state := .disabled, timer := none, test := none
                              buffer := ⟨[], false, false, x.buffer.slips, [], false⟩ }
            ⟨.portDown, .notice, .span p, [.named 3]⟩ w t) ∧
      (∀ test, x.state = .test → x.test = some test →
        exec (.portDisable port tag (spanNumber p)) s =
          .next (((w.setSpan p { x with
            state := .disabled, timer := none, test := none
            lastTest := some ⟨test.errors == 0, test.errors, test.pattern, test.loop, (s.now - test.since) / 1000,
              .disabled⟩ }).post ⟨.testDone, if test.errors = 0 then .notice else .warning, .span p,
              [.named (if test.errors = 0 then 0 else 1), .count test.errors, .named 2]⟩).withReply port
            ⟨0x26, tag, .accepted, []⟩))) ∧
    (Serves s port (.portEnable (spanNumber p)) →
      (x.state = .disabled →
        exec (.portEnable port tag (spanNumber p)) s =
          .next ((w.setSpan p { x with state := .breaking, timer := some s.now, test := none, latch := none }).withReply
            port ⟨0x25, tag, .accepted, []⟩)) ∧
      (x.state ≠ .disabled →
        exec (.portEnable port tag (spanNumber p)) s = .next (w.withReply port ⟨0x25, tag, .accepted, []⟩)))

/-- R21, R36, R58: an accepted PORT CONFIG replaces the port's grade set and threshold, brought into 1 to 4, and the
ring's wait-to-restore time when it names one, brought into 10 to 600; its reply is HELD and carries the values in
force. A port in UP whose threshold changes starts its buffer again, with the next block invalid. A changed time ends a
running wait-to-restore timer that has reached it, with FEED_CHANGE cause RESTORE, a NOTICE, for each run of units that
return (R52). An empty grade set, or one that names no grade 1 to 4, is refused with BAD_VALUE, and a port out of range
with BAD_ID. Which values the reply carries, in which order, is the model's choice (assumption 13), and so is FED_A as 1
in FEED_CHANGE (assumption 33); FEED_CHANGE stands before what its hand-overs post (assumption 17), and the time a timer
has run is read from the model's clock (assumption 2). -/
def Obligations.PortConfigTakesEffect : Prop :=
  (∀ (s : State) (port : MgmtPort) (tag : Byte) (a : PortConfigArgs), Serves s port (.portConfig a) →
    (∀ p, spanNumber p ≠ a.port) →
    exec (.portConfig port tag a) s = .next ((watchFrame port s).withReply port ⟨0x24, tag, .badId, []⟩)) ∧
  ∀ (s : State) (port : MgmtPort) (tag : Byte) (p : SpanPort) (grades : List Nat) (threshold : Int)
    (restore : Option Int), Serves s port (.portConfig ⟨spanNumber p, grades, threshold, restore⟩) →
    .ring p.ring ∉ s.inFlight →
    let w := watchFrame port s
    let cmd : Instr := .portConfig port tag ⟨spanNumber p, grades, threshold, restore⟩
    ((grades = [] ∨ ∃ g ∈ grades, g = 0 ∨ 4 < g) → exec cmd s = .next (w.withReply port ⟨0x24, tag, .badValue, []⟩)) ∧
    (grades ≠ [] → (∀ g ∈ grades, 1 ≤ g ∧ g ≤ 4) →
      let set : GradeSet := ⟨decide (1 ∈ grades), decide (2 ∈ grades), decide (3 ∈ grades), decide (4 ∈ grades)⟩
      let t' : Nat := (max 1 (min 4 threshold)).toNat
      let old := s.settings p
      let r' : Nat := match restore with
        | none => old.restore
        | some v => (max 10 (min 600 v)).toNat
      let new : RingSettings := match p.side with
        | .a => ⟨set, old.gradesB, t', old.thresholdB, r'⟩
        | .b => ⟨old.gradesA, set, old.thresholdA, t', r'⟩
      let clamped := (t' : Int) ≠ threshold ∨ ∃ v, restore = some v ∧ (r' : Int) ≠ v
      ∃ t, exec cmd s = .next t ∧
        SameBut fedParts ((w.setSettings p.ring new).withHeld port (.ring p.ring)
          ⟨0x24, tag, if clamped then .acceptedClamped else .accepted,
            gradesField set ++ [.quantity t', .quantity r']⟩) t ∧
        let spans := if old.threshold p.side ≠ t' ∧ (s.spans.get p).isUp = true then
            s.spans.set p { s.spans.get p with buffer := { (s.spans.get p).buffer with
              blocks := [], running := false, mark := true } }
          else s.spans
        ((∀ since, (s.rings.get p.ring).timer = some since → r' = old.restore ∨ s.now - since < r' * 1000) →
          t.rings = s.rings ∧ t.spans = spans) ∧
        (∀ since, (s.rings.get p.ring).timer = some since → r' ≠ old.restore → r' * 1000 ≤ s.now - since →
          Restored p.ring 3 { w with spans := spans } t))

/-- R23, R24: at the end of the break timer a port in BREAK enters ADVERTISE with the grade set of the ring settings
record, nothing of the partner, no acknowledge and a running advertise timer; in any other state nothing changes. In
DISABLED and BREAK a port sends nothing, in ADVERTISE its advertisement, of its grade set, its acknowledge flag and
itself, and in UP traffic (R20, R23, R24). -/
def Obligations.BreakEndsInAdvertise : Prop :=
  ∀ (s : State) (p : SpanPort), s.causes = [] →
    let x := s.spans.get p
    let set := match p.side with
      | .a => (s.work.rings.get p.ring).gradesA
      | .b => (s.work.rings.get p.ring).gradesB
    (x.state = .disabled ∨ x.state = .breaking → lineSignal s p = .silent) ∧
    (x.state = .advertise → lineSignal s p = .advertisement x.advertising x.ownAck p) ∧
    (∀ g m, x.state = .up g m → lineSignal s p = .traffic) ∧
    (x.state = .breaking →
      let t := s.setSpan p { x with
        state := .advertise
        timer := some s.now
        advertising := set
        ownAck := false
        heardAck := false
        seen1 := false
        seen2 := false
        partner := .none }
      exec (.breakTimerExpiry p) s = .next t ∧ lineSignal t p = .advertisement set false p) ∧
    (x.state ≠ .breaking → exec (.breakTimerExpiry p) s = .next s)

/-- R24, R25, R27: an advertisement is discarded in DISABLED, BREAK and TEST. In ADVERTISE it is recorded and
acknowledged, and once some advertisement of the period has carried the acknowledge the port resolves: UP at the highest
grade both sets hold, or BREAK with one more failed attempt and NEGOTIATION_FAULT unless that is in the latch. In UP it
sends the port to BREAK with PORT_DOWN. After PORT_UP and PORT_DOWN stands FEED_CHANGE with cause HOP of what the ring's
recomputation changes (R52). That PORT_UP and PORT_DOWN stand before FEED_CHANGE, and these by ascending position, is
the model's reading (assumption 17); the fields for grades (assumption 13) and the numbers of the states in FEED_CHANGE
(assumption 33) are its choice. -/
def Obligations.AdvertisementsResolve : Prop :=
  ∀ (s : State) (p : SpanPort) (theirs : GradeSet) (ack : Bool) (identity : Nat), s.causes = [] →
    let x := s.spans.get p
    let y := { x with
      partner := .advertised theirs identity, ownAck := true, heardAck := x.heardAck || ack
      seen1 := false, seen2 := false }
    let cmd : Instr := .advertisementReceived p theirs ack identity
    let shared (g : Grade) : Prop := GradeSet.has x.advertising g = true ∧ GradeSet.has theirs g = true
    (x.state = .disabled ∨ x.state = .breaking ∨ x.state = .test → exec cmd s = .next s) ∧
    (x.state = .advertise → y.heardAck = false → exec cmd s = .next (s.setSpan p y)) ∧
    (∀ g, x.state = .advertise → y.heardAck = true → shared g → (∀ h, shared h → Grade.number h ≤ Grade.number g) →
      ∃ t, exec cmd s = .next t ∧ SameBut fedParts s t ∧
        hopEvent p { y with
            state := .up g .negotiated, timer := none, failed := 0, latch := none
            buffer := ⟨[], false, true, x.buffer.slips, [], false⟩ }
          ⟨.portUp, .notice, .span p, [.ident (Grade.number g), .named 0]⟩ s t) ∧
    (x.state = .advertise → y.heardAck = true → (∀ g, ¬shared g) →
      let z := { y with
        state := .breaking, timer := some s.now, test := none, failed := min 65535 (x.failed + 1)
        latch := some .negotiation }
      exec cmd s = .next (if x.latch = some .negotiation then s.setSpan p z
        else (s.setSpan p z).post ⟨.negotiationFault, .warning, .span p, gradesField theirs⟩)) ∧
    (∀ g m, x.state = .up g m →
      ∃ t, exec cmd s = .next t ∧ SameBut fedParts s t ∧
        hopEvent p { x with
            state := .breaking, timer := some s.now, test := none
            buffer := ⟨[], false, false, x.buffer.slips, [], false⟩ }
          ⟨.portDown, .warning, .span p, [.named 1]⟩ s t)

/-- R24, R26, R27: a fixed idle pattern is noted in ADVERTISE until an advertisement is recorded, is nothing to a port
in UP in mode PARALLEL at its grade, and sends a port otherwise in UP to BREAK with PORT_DOWN. At the end of the
advertise timer the port goes UP in mode PARALLEL when one pattern alone was seen and its grade is advertised, else to
BREAK with one more failed attempt, and with the fault of R26 unless that is in the latch. After PORT_UP and PORT_DOWN
stands FEED_CHANGE with cause HOP of what the ring's recomputation changes (R52). That PORT_UP and PORT_DOWN stand
before FEED_CHANGE, and these by ascending position, is the model's reading (assumption 17); the field for a grade
(assumption 13) and the numbers of the states in FEED_CHANGE (assumption 33) are its choice. -/
def Obligations.PatternsAndAdvertiseEnd : Prop :=
  ∀ (s : State) (p : SpanPort) (pattern : IdlePattern), s.causes = [] →
    let x := s.spans.get p
    let recorded := ∃ g i, x.partner = .advertised g i
    let failed := { x with
      state := .breaking, timer := some s.now, test := none, failed := min 65535 (x.failed + 1) }
    (x.state = .disabled ∨ x.state = .breaking ∨ x.state = .test ∨ (x.state = .advertise ∧ recorded)
        ∨ x.state = .up (patternGrade pattern) .parallel → exec (.idlePatternReceived p pattern) s = .next s) ∧
    (x.state = .advertise → ¬recorded →
      exec (.idlePatternReceived p pattern) s = .next (s.setSpan p (match pattern with
        | .grade1 => { x with seen1 := true }
        | .grade2 => { x with seen2 := true }))) ∧
    (∀ g m, x.state = .up g m → (m ≠ .parallel ∨ g ≠ patternGrade pattern) →
      ∃ t, exec (.idlePatternReceived p pattern) s = .next t ∧ SameBut fedParts s t ∧
        hopEvent p { x with
            state := .breaking, timer := some s.now, test := none
            buffer := ⟨[], false, false, x.buffer.slips, [], false⟩ }
          ⟨.portDown, .warning, .span p, [.named 1]⟩ s t) ∧
    (x.state ≠ .advertise → exec (.advertiseTimerExpiry p) s = .next s) ∧
    (x.state = .advertise → (recorded ∨ (x.seen1 = false ∧ x.seen2 = false)) →
      exec (.advertiseTimerExpiry p) s = .next (s.setSpan p failed)) ∧
    (x.state = .advertise → ¬recorded → x.seen1 = true → x.seen2 = true →
      exec (.advertiseTimerExpiry p) s = .next (if x.latch = some .parallel then s.setSpan p failed
        else (s.setSpan p { failed with latch := some .parallel }).post ⟨.parallelFault, .warning, .span p, []⟩)) ∧
    (x.state = .advertise → ¬recorded → x.seen1 = decide (pattern = .grade1) → x.seen2 = decide (pattern = .grade2) →
      let g := patternGrade pattern
      (GradeSet.has x.advertising g = true →
        ∃ t, exec (.advertiseTimerExpiry p) s = .next t ∧ SameBut fedParts s t ∧
          hopEvent p { x with
              state := .up g .parallel, timer := none, partner := .notNegotiating pattern, failed := 0, latch := none
              buffer := ⟨[], false, true, x.buffer.slips, [], false⟩ }
            ⟨.portUp, .notice, .span p, [.ident (Grade.number g), .named 1]⟩ s t) ∧
      (GradeSet.has x.advertising g = false →
        exec (.advertiseTimerExpiry p) s = .next (if x.latch = some .negotiation then s.setSpan p failed
          else (s.setSpan p { failed with latch := some .negotiation }).post
            ⟨.negotiationFault, .warning, .span p, [.ident (Grade.number g)]⟩)))

/-- R22, R27, R39: loss of signal sends a port in UP to BREAK with PORT_DOWN, and then FEED_CHANGE with cause HOP of
what the ring's recomputation changes (R52), ends a FAR test with FAIL and LINE_LOSS, and changes nothing else of a port
in any other state or in an INTERNAL test; a signal seen again ends it. Where its hop changes (`hopEvent`), another port
takes its mark exactly where the units on its path have changed (R36, R53). The command is taken at its word, whatever
the flag was (assumption 10); the seconds a test has run are read from the model's clock (assumption 2), PORT_DOWN
stands before FEED_CHANGE, and these by ascending position (assumption 17), and the numbers of the states in FEED_CHANGE
are the model's choice (assumption 33). -/
def Obligations.LossOfSignalLeavesUp : Prop :=
  ∀ (s : State) (p : SpanPort), s.causes = [] →
    let x := s.spans.get p
    let y := { x with lossOfSignal := true }
    exec (.signalRestored p) s = .next (s.setSpan p { x with lossOfSignal := false }) ∧
    (x.state = .disabled ∨ x.state = .breaking ∨ x.state = .advertise →
      exec (.lossOfSignal p) s = .next (s.setSpan p y)) ∧
    (∀ g m, x.state = .up g m →
      ∃ t, exec (.lossOfSignal p) s = .next t ∧ SameBut fedParts s t ∧
        hopEvent p { y with
            state := .breaking, timer := some s.now, test := none
            buffer := ⟨[], false, false, x.buffer.slips, [], false⟩ }
          ⟨.portDown, .warning, .span p, [.named 0]⟩ s t) ∧
    (∀ test, x.state = .test → x.test = some test →
      (test.loop = .internal → exec (.lossOfSignal p) s = .next (s.setSpan p y)) ∧
      (test.loop = .far →
        exec (.lossOfSignal p) s = .next ((s.setSpan p { y with
          state := .breaking, timer := some s.now, test := none
          lastTest := some ⟨false, test.errors, test.pattern, test.loop, (s.now - test.since) / 1000, .lineLoss⟩ }).post
          ⟨.testDone, .warning, .span p, [.named 1, .count test.errors, .named 4]⟩)))

/-- R38: SPAN TEST START is refused with BAD_ID for a port out of range, with BAD_VALUE for a byte that names no pattern
or no loop, with STATE unless the port is in UP, or in BREAK or ADVERTISE for the INTERNAL loop, and with NO_PROTECTION
when the ring's other end cannot feed what the port feeds; otherwise the port is in TEST with the error count and the
last result cleared and the duration brought into 1 to 600 s, and a port that was in UP posts PORT_DOWN, and then
FEED_CHANGE with cause HOP of what the ring's recomputation changes (R52). There it sends its pattern in the FAR loop,
and nothing in the INTERNAL loop (R39). That PORT_DOWN stands before FEED_CHANGE, and these by ascending position, is
the model's reading (assumption 17), and the numbers of the states in FEED_CHANGE are its choice (assumption 33). -/
def Obligations.SpanTestStarts : Prop :=
  (∀ (s : State) (port : MgmtPort) (tag : Byte) (a : SpanTestArgs), Serves s port (.spanTestStart a) →
    let w := watchFrame port s
    ((∀ p, spanNumber p ≠ a.port) →
      exec (.spanTestStart port tag a) s = .next (w.withReply port ⟨0x27, tag, .badId, []⟩)) ∧
    ∀ p, a.port = spanNumber p → 1 < a.pattern ∨ 1 < a.loop →
      exec (.spanTestStart port tag a) s = .next (w.withReply port ⟨0x27, tag, .badValue, []⟩)) ∧
  ∀ (s : State) (port : MgmtPort) (tag : Byte) (p : SpanPort) (a : SpanTestArgs) (pattern : Pattern) (loop : Loop),
    Serves s port (.spanTestStart a) → a.port = spanNumber p → patternOf a.pattern = some pattern →
    loopOf a.loop = some loop →
    let w := watchFrame port s
    let x := s.spans.get p
    let d : Nat := (max 1 (min 600 a.duration)).toNat
    let reply : Reply := ⟨0x27, tag, if (d : Int) = a.duration then .accepted else .acceptedClamped, []⟩
    let y := { x with
      state := .test, timer := none, test := some ⟨pattern, loop, d, s.now, false, 0⟩, lastTest := none }
    let admits := x.isUp = true ∨ (loop = .internal ∧ (x.state = .breaking ∨ x.state = .advertise))
    let protects := match p.side with
      | .a => ∀ u : UnitNo, s.unitState ⟨p.ring, u⟩ = .fedA → (s.rings.get p.ring).reachB[u] = true
      | .b => ∀ u : UnitNo, s.unitState ⟨p.ring, u⟩ ≠ .fedB
    (¬admits → exec (.spanTestStart port tag a) s = .next (w.withReply port ⟨0x27, tag, .wrongState, []⟩)) ∧
    (admits → ¬protects →
      exec (.spanTestStart port tag a) s = .next (w.withReply port ⟨0x27, tag, .noProtection, []⟩)) ∧
    let sends (l : Loop) (q : Pattern) : LineSignal := match l with
      | .far => .pattern q
      | .internal => .silent
    (admits → protects → x.isUp = false →
      let t := (w.setSpan p y).withReply port reply
      exec (.spanTestStart port tag a) s = .next t ∧ lineSignal t p = sends loop pattern) ∧
    (protects → x.isUp = true →
      ∃ t, exec (.spanTestStart port tag a) s = .next t ∧ SameBut fedParts (w.withReply port reply) t ∧
        lineSignal t p = sends loop pattern ∧
        hopEvent p { y with buffer := ⟨[], false, false, x.buffer.slips, [], false⟩ }
          ⟨.portDown, .notice, .span p, [.named 4]⟩ w t)

/-- R39, R40: in TEST a port sends its pattern in the FAR loop and nothing in the INTERNAL loop; the checker's lock is
recorded and bit errors are counted once it has locked, up to 65535; a test ends by SPAN TEST STOP, by its timer or,
unlocked, by the lock timeout, with the result stored, TEST_DONE posted and the port in BREAK. Out of TEST, STOP is
refused with STATE and the events change nothing; of a port out of range it is refused with BAD_ID. The seconds run are
read from the model's clock, but for a test that ends by its duration (assumption 2). -/
def Obligations.SpanTestRunsAndEnds : Prop :=
  (∀ (s : State) (port : MgmtPort) (tag : Byte) (n : Nat), Serves s port (.spanTestStop n) → (∀ p, spanNumber p ≠ n) →
    exec (.spanTestStop port tag n) s = .next ((watchFrame port s).withReply port ⟨0x28, tag, .badId, []⟩)) ∧
  ∀ (s : State) (port : MgmtPort) (tag : Byte) (p : SpanPort), s.causes = [] →
    let w := watchFrame port s
    let x := s.spans.get p
    let stop : Instr := .spanTestStop port tag (spanNumber p)
    let ended (u : State) (t : SpanTest) (pass : Bool) (errors seconds : Nat) (e : TestEnding) (code : Nat) : State :=
      (u.setSpan p { x with
        state := .breaking, timer := some s.now, test := none
        lastTest := some ⟨pass, errors, t.pattern, t.loop, seconds, e⟩ }).post
        ⟨.testDone, if pass then .notice else .warning, .span p,
          [.named (if pass then 0 else 1), .count errors, .named code]⟩
    (x.state ≠ .test →
      (Serves s port (.spanTestStop (spanNumber p)) →
        exec stop s = .next (w.withReply port ⟨0x28, tag, .wrongState, []⟩)) ∧
      exec (.testLock p) s = .next s ∧ exec (.testBitError p) s = .next s ∧ exec (.testLockTimeout p) s = .next s ∧
      exec (.spanTestTimerExpiry p) s = .next s) ∧
    (∀ t, x.state = .test → x.test = some t →
      (t.loop = .far → lineSignal s p = .pattern t.pattern) ∧ (t.loop = .internal → lineSignal s p = .silent) ∧
      (Serves s port (.spanTestStop (spanNumber p)) →
        exec stop s = .next ((ended w t (t.errors == 0) t.errors ((s.now - t.since) / 1000) .stopped 1).withReply port
          ⟨0x28, tag, .accepted, []⟩)) ∧
      exec (.testLock p) s = .next (s.setSpan p { x with test := some { t with locked := true } }) ∧
      exec (.testBitError p) s = .next (if t.locked then
        s.setSpan p { x with test := some { t with errors := min 65535 (t.errors + 1) } } else s) ∧
      exec (.testLockTimeout p) s = .next (if t.locked then s
        else ended s t false 65535 ((s.now - t.since) / 1000) .noLock 3) ∧
      exec (.spanTestTimerExpiry p) s = .next (ended s t (t.errors == 0) t.errors t.duration .duration 0))

/-! ### Beacons, the elasticity buffer, protection (chapters 2 and 3) -/

/-- R30 to R33: a beacon is nothing to a port out of UP; one that names no commissioned position of the port's ring is
counted as stray up to 65535. One handed on replaces what is kept of its position; RU_FOUND, RU_MISMATCH and RU_PA_FAULT
are posted by the changes, then, of the recomputation that a changed status, verdict or report makes, FEED_CHANGE with
cause UNIT or HOP for each run of consecutive positions that enter the same state: FED_A and ABSENT a NOTICE, FED_B a
WARNING, UNREACHABLE and MISMATCH an ALARM (R52); one that repeats the last changes nothing further. At the end of the
silence timer a PRESENT position is LOST, with RU_LOST. With either, a span port takes its mark exactly where the units
on its path have changed, and is else as it was (R36, R53). That the beacon's own records stand before FEED_CHANGE, and
these by ascending position, is the model's reading (assumption 17), and so is the field that says CLEARED (assumption
13) and that a timer restarted at the same moment does not end (assumption 24); the numbers of the states in FEED_CHANGE
are its choice (assumption 33). -/
def Obligations.BeaconsAreHandedOn : Prop :=
  ∀ (s : State) (p : SpanPort) (b : Beacon), s.causes = [] →
    let x := s.spans.get p
    let names (q : Position) : Prop :=
      q.ring = p.ring ∧ b.ring = p.ring ∧ b.number = q.unit.val + 1 ∧ (s.unit q).commissioned = true
    (x.isUp = false → exec (.beaconReceived p b) s = .next s) ∧
    (x.isUp = true → (∀ q, ¬names q) →
      exec (.beaconReceived p b) s = .next (s.setSpan p { x with stray := min 65535 (x.stray + 1) })) ∧
    (∀ q, x.isUp = true → names q →
      let old := posGet s.beacons q
      let new : BeaconRec :=
        ⟨some .present, some s.now, some b.identity, some (b.upstream, b.downstream), b.amplifier, b.loopback⟩
      let u := s.setBeacon q new
      let judged := s.mismatched q != u.mismatched q
      let found := decide (old.status ≠ some .present)
      let hears := found || judged || decide (old.reports ≠ new.reports)
      let ring := if hears then recomputeRing u q.ring (if judged then [q.unit] else []) else s.rings.get q.ring
      (hears = false → old.amplifier = b.amplifier → exec (.beaconReceived p b) s = .next u) ∧
      ∃ t, exec (.beaconReceived p b) s = .next t ∧ SameBut (.beacons :: fedParts) s t ∧ t.beacons = u.beacons ∧
        t.rings = s.rings.set q.ring ring ∧ (∀ port, t.spans.get port = pathMarked s t port) ∧
        (∃ feeds, FeedReported q.ring (if found || judged then 1 else 0) (s.rings.get q.ring).units
            (t.rings.get q.ring).units feeds ∧ Posts ((if old.status = some .lost then [⟨.ruFound, .notice, .position q, []⟩] else [])
            ++ (if judged then [if u.mismatched q then ⟨.ruMismatch, .alarm, .position q, [.serial b.identity]⟩
              else ⟨.ruMismatch, .notice, .position q, [.named 0]⟩] else [])
            ++ (if old.amplifier = b.amplifier then [] else [match b.amplifier with
              | .fault => ⟨.ruPaFault, .alarm, .position q, [.named 0]⟩
              | .ok => ⟨.ruPaFault, .notice, .position q, [.named 1]⟩])
            ++ feeds) s t) ∧
        (old.amplifier ≠ b.amplifier → (posGet t.alloc q).status = allocStatus (t.unitState q) b.amplifier)) ∧
    ∀ q : Position,
      let old := posGet s.beacons q
      let u := s.setBeacon q { old with status := some .lost, silence := none }
      (old.status ≠ some .present ∨ old.silence = some s.now → exec (.silenceTimerExpiry q) s = .next s) ∧
      (old.status = some .present → old.silence ≠ some s.now →
        ∃ t, exec (.silenceTimerExpiry q) s = .next t ∧ SameBut (.beacons :: fedParts) s t ∧ t.beacons = u.beacons ∧
          t.rings = s.rings.set q.ring (recomputeRing u q.ring []) ∧
          (∀ port, t.spans.get port = pathMarked s t port) ∧
          ∃ feeds, FeedReported q.ring 1 (s.rings.get q.ring).units (t.rings.get q.ring).units feeds ∧
            Posts (⟨.ruLost, .alarm, .position q, []⟩ :: feeds) s t)

/-- R34, R35, R37: an arriving block is nothing to a port out of UP; it joins a filling buffer, which runs once it holds
the threshold, and a running one; with 8 held the oldest is discarded, the next output marked and a slip entered, which
posts SLIP_BURST as the eighth of 10 s. SLIP_BURST_CLEAR clears the slip record and the burst flag. That a slip counts
for less than 10000 ms, and that the clearing is taken at its word in any state, is the model's reading (assumption
10). -/
def Obligations.BlocksJoinTheBuffer : Prop :=
  ∀ (s : State) (p : SpanPort) (block : UplinkBlock), s.causes = [] →
    let x := s.spans.get p
    let b := x.buffer
    let threshold := match p.side with
      | .a => (s.work.rings.get p.ring).thresholdA
      | .b => (s.work.rings.get p.ring).thresholdB
    (x.isUp = false → exec (.uplinkBlockArrival p block) s = .next s) ∧
    (x.isUp = true → b.running = false →
      exec (.uplinkBlockArrival p block) s = .next (s.setSpan p { x with buffer := { b with
        blocks := b.blocks ++ [block], running := decide (threshold ≤ b.blocks.length + 1) } })) ∧
    (x.isUp = true → b.running = true → b.blocks.length < 8 →
      exec (.uplinkBlockArrival p block) s =
        .next (s.setSpan p { x with buffer := { b with blocks := b.blocks ++ [block] } })) ∧
    (x.isUp = true → b.running = true → 8 ≤ b.blocks.length →
      exec (.uplinkBlockArrival p block) s = .next ((s.setSpan p { x with
        buffer := { b with blocks := b.blocks.drop 1 ++ [block], mark := true }.slipped s.now }).postAll
        (b.burstNotes p s.now))) ∧
    exec (.slipBurstClear p) s = .next (s.setSpan p { x with buffer := { b with record := [], burst := false } })

/-- R34, R35, R110 to R112, R119, R120: a tick takes the oldest block of every running buffer in UP, or enters a slip
where there is none, and changes no other port. Each voter's candidates have the qualities of the valid blocks; then an
IDLE voter that hears one goes to REPEAT by fresh choice, with RESCUE_ACTIVE, and its activity reaches every allocation
record; one in HANG goes to REPEAT by fresh choice; one in REPEAT, CONSOLE or BASE votes again; a voter in REPEAT that
hears none goes to HANG; the rest stands. Its voted uplink is its source's audio of the block, or silence, and it
carries in the downlink and out to the console and the base what R115's table gives its state, also on a channel that
covers no ring (assumption 31). An underrun leaves a pending mark (assumption 18); the ports' records stand in the order
NA, NB, SA, SB before RESCUE_ACTIVE (assumption 17), and a slip counts for less than 10000 ms (assumption 10). Every
step from a sound state keeps each voter covering the rings whose list names its carrier, with their fed units as its
candidates and its source among them; and a command but a reset that changes a voter's coverage or candidates leaves it
as R109 and R114 say: a candidate that stays keeps its quality, one that joins is NEW, and a source that has left is
lost by the voter's state (R108, R109, R114). -/
def Obligations.TicksAreVotedOn : Prop :=
  (∀ s t : State, step s = .next t → PlansSound s → QueueSound s → VotersSound s → VotersSound t) ∧
  (∀ (c : Instr) (s t : State), exec c s = .next t → ¬Resets c → PlansSound s → QueueSound s → VotersSound s →
    ∀ ch : ChannelNo, (t.voters[ch].covers ≠ s.voters[ch].covers ∨
        t.voters[ch].cands.map VoterCand.position ≠ s.voters[ch].cands.map VoterCand.position) →
      Rejudged s.now s.work.voters[ch].hang s.voters[ch] t.voters[ch]) ∧
  ∀ s : State, s.causes = [] → ∃ t, exec .blockTick s = .next t ∧
    SameBut [.spans, .voters, .alloc, .events, .choices] s t ∧
    (∀ p, t.spans.get p = (s.spans.get p).ticked s.now) ∧
    Posts (allSpans.flatMap fun p =>
      if (s.spans.get p).underruns then (s.spans.get p).buffer.burstNotes p s.now else []) s t ∧
    ∀ ch : ChannelNo,
      let v := s.voters[ch]
      let v' := t.voters[ch]
      let quality (p : Position) : Nat := ((uplinkOf s ch p).map (·.quality.val)).getD 0
      let hears := ∃ c ∈ v'.cands, 0 < c.value
      v'.cands = v.cands.map (fun c => ⟨c.position, some (quality c.position)⟩) ∧
      v'.consoleKey = v.consoleKey ∧ v'.baseKey = v.baseKey ∧ v'.covers = v.covers ∧
      (let uplink := v'.source.bind fun p => (uplinkOf s ch p).bind fun u => if u.quality = 0 then none else some u.audio
      v'.forwarded = uplink ∧ Forwards v' (votedAudio uplink)) ∧
      (¬hears → v'.source = v.source ∧
        (v.state = .repeating → v'.state = .hang ∧ v'.hang = some (s.now, s.work.voters[ch].hang)) ∧
        (v.state ≠ .repeating → v'.state = v.state ∧ v'.hang = v.hang)) ∧
      (hears →
        (v.state = .idle → v'.state = .repeating ∧ (∀ p, (posGet t.alloc p).rescue[ch] = true) ∧
          ∃ q, v'.source = some q ∧ FreshChoice v'.cands none q ∧
            Reports ⟨.rescueActive, .notice, voterSubject s ch, [.channel ch, .named 0, .position q]⟩ s t) ∧
        (v.state = .hang → v'.state = .repeating ∧ v'.hang = none ∧
          ∃ q, v'.source = some q ∧ FreshChoice v'.cands v.source q) ∧
        (v.state ≠ .idle → v.state ≠ .hang → v'.state = v.state ∧ v'.hang = v.hang ∧
          Revote s.work.voters[ch].hysteresis v'.cands v.source v'.source))

/-- R56, R57, R59: the end of a running wait-to-restore timer, and an accepted RING REVERT, stop it and move every unit
of the ring that is FED_B and reachable from A to FED_A together, with FEED_CHANGE cause RESTORE or REVERT, a NOTICE,
for each run of them (R52); both ports' next output blocks are marked, and the units' allocation records follow their
new path. With the timer stopped the expiry changes nothing and the request is refused with STATE. That FEED_CHANGE
stands before what its hand-overs post is the model's reading (assumption 17), and FED_A as 1 in that record its choice
(assumption 33). -/
def Obligations.WaitingUnitsReturnTogether : Prop :=
  ∀ (s : State) (r : Ring), s.causes = [] →
    let x := s.rings.get r
    (x.timer = none → exec (.waitToRestoreExpiry r) s = .next s) ∧
    (x.timer ≠ none →
      ∃ t, exec (.waitToRestoreExpiry r) s = .next t ∧ SameBut fedParts s t ∧ Restored r 3 s t) ∧
    ∀ (port : MgmtPort) (tag : Byte) (n : Nat), Serves s port (.ringRevert n) →
      let w := watchFrame port s
      (n ≠ 1 ∧ n ≠ 2 → exec (.ringRevert port tag n) s = .next (w.withReply port ⟨0x29, tag, .badId, []⟩)) ∧
      (n = ringNumber r → x.timer = none →
        exec (.ringRevert port tag n) s = .next (w.withReply port ⟨0x29, tag, .wrongState, []⟩)) ∧
      (n = ringNumber r → x.timer ≠ none →
        ∃ t, exec (.ringRevert port tag n) s = .next t ∧
          SameBut fedParts (w.withReply port ⟨0x29, tag, .accepted, []⟩) t ∧ Restored r 4 w t)

/-! ### The reference unit (chapter 4) -/

/-- R63, R66 to R68, R70, R71, R75: a source's signal, its becoming PRESENT or ABSENT, the end of warm-up and the switch
timer at 60 s, by the unit's state: each transition, its record and its gate change as the rules say; in the other
states the presence alone changes, and in LOCKED the switch timer is judged afresh. A source that is PRESENT and is said
to become so, or ABSENT, changes no state (assumption 10); the events act during a reset too (assumption 8); REF_STATE
stands before the allocators' records (assumption 17); a count that R65 gives no value is 0 (assumption 29), and the
states in REF_STATE are numbered as in R65 (assumption 33). -/
def Obligations.SourcesMoveTheReference : Prop :=
  ∀ (s : State) (src : Source) (valid : Bool),
    let r := s.reference
    let m := r.monitor src
    let since := if m.valid = valid then m.since else s.now
    let pref := s.work.reference.preferred
    let alt := Source.other pref
    let select (x : RefRec) : Option Source :=
      if (x.monitor pref).present then some pref else if (x.monitor alt).present then some alt else none
    let judged (x : RefRec) : RefRec := { x with switchSince := (
      if x.selected = some alt ∧ (x.monitor pref).present then some (x.switchSince.getD s.now) else none) }
    let seen := r.setMonitor src ⟨true, true, if m.valid then m.since else s.now⟩
    let gone := r.setMonitor src ⟨false, false, if m.valid then s.now else m.since⟩
    let appears := exec (.sourcePresent src) s
    let vanishes := exec (.sourceAbsent src) s
    exec (.sourceSignalChange src valid) s =
      .next { s with reference := r.setMonitor src ⟨m.present, valid, since⟩ } ∧
    (m.present = true ∨ r.state = .warmup ∨ (r.state = .holdover ∧ r.forced = true) ∨
        ((r.state = .acquire ∨ r.state = .track) ∧ ¬(src = pref ∧ r.selected = some alt)) →
      appears = .next { s with reference := seen }) ∧
    (m.present = false →
      (r.state = .free → ∀ x, select seen = some x →
        appears = .next ({ s with reference := seen.entered .acquire x s.now }.post
          (refEvent .notice .free .acquire (some x) 1 2))) ∧
      (r.state = .acquire ∨ r.state = .track → src = pref → r.selected = some alt →
        appears = .next ({ s with reference := seen.entered .acquire src s.now }.post
          (refEvent .notice r.state .acquire (some src) 4 2))) ∧
      (r.state = .locked → appears = .next { s with reference := judged seen }) ∧
      (r.state = .holdover → r.forced = false → ∀ x, select seen = some x →
        ∃ t, appears = .next t ∧ gateHanded false s t ∧ t.reference = seen.entered .track x s.now ∧
          Posts [refEvent .warning .holdover .track (some x) 1 1] s t)) ∧
    (m.present = false →
      vanishes = .next { s with reference := r.setMonitor src ⟨false, false, if m.valid then s.now else m.since⟩ }) ∧
    (m.present = true →
      (r.state = .warmup ∨ r.state = .free ∨ r.state = .holdover ∨
          ((r.state = .acquire ∨ r.state = .track) ∧ r.selected ≠ some src) →
        vanishes = .next { s with reference := gone }) ∧
      (r.state = .acquire ∨ r.state = .track → r.selected = some src →
        let freed := { s with reference := gone.freed }.post (refEvent .alarm r.state .free none 2 2)
        vanishes = .next (match select gone with
          | none => freed
          | some x => { freed with reference := gone.entered .acquire x s.now }.post
            (refEvent .notice .free .acquire (some x) 1 2))) ∧
      (r.state = .locked → r.selected ≠ some src → vanishes = .next { s with reference := judged gone }) ∧
      (r.state = .locked → r.selected = some src →
        let held := { s with reference := gone.holding (some src) false s.now }.post
          (refEvent .warning .locked .holdover (some src) 2 2)
        (select gone = none → vanishes = .next held) ∧
        ∀ x, select gone = some x →
          ∃ t, vanishes = .next t ∧ gateHanded false held t ∧ t.reference = gone.entered .track x s.now ∧
            Posts [refEvent .warning .holdover .track (some x) 1 1] held t)) ∧
    (r.state ≠ .warmup → exec .warmupEnd s = .next s) ∧
    (r.state = .warmup → exec .warmupEnd s = .next (match select r with
      | none => { s with reference := r.freed }.post (refEvent .alarm .warmup .free none 0 2)
      | some x => { s with reference := r.entered .acquire x s.now }.post
        (refEvent .notice .warmup .acquire (some x) 0 2))) ∧
    (¬(r.state = .locked ∧ r.switchSince.isSome = true) → exec .switchTimerExpiry s = .next s) ∧
    (r.state = .locked → r.switchSince.isSome = true →
      ∃ t, exec .switchTimerExpiry s = .next t ∧ gateHanded false s t ∧ t.reference = r.entered .track pref s.now ∧
        Posts [refEvent .warning .locked .track (some pref) 4 1] s t)

/-- R65, R68 to R70, R75: a measurement is kept, saturating at 999999 ppb, and moves the counts of ACQUIRE, TRACK and
LOCKED by the bounds of 200, 20 and 50 ppb; the fourth good one of ACQUIRE gives TRACK, the sixteenth of TRACK gives
LOCKED and opens the gate, the second bad one of TRACK gives ACQUIRE, of LOCKED gives TRACK and closes the gate. In any
other state nothing changes, nor at the moment at which the interval has begun (assumption 24). A measurement is made
during a reset too (assumption 8); REF_STATE stands before the allocators' records (assumption 17); a count that R65
gives no value is 0 (assumption 29), and the states in REF_STATE are numbered as in R65 (assumption 33). -/
def Obligations.MeasurementsMoveTheReference : Prop :=
  ∀ (s : State) (e : Int),
    let r := { s.reference with lastOffset := some (max (-999999) (min 999999 e)), intervalSince := some s.now }
    let within (bound : Int) : Prop := -bound ≤ e ∧ e ≤ bound
    let pref := s.work.reference.preferred
    let keeps (x : RefRec) : Prop := exec (.measurement e) s = .next { s with reference := x }
    (r.state = .warmup ∨ r.state = .free ∨ r.state = .holdover ∨ r.selected = none ∨
        s.reference.intervalSince = some s.now →
      exec (.measurement e) s = .next s) ∧
    ∀ src, r.selected = some src → s.reference.intervalSince ≠ some s.now →
      (r.state = .acquire →
        (¬within 200 → keeps { r with good := 0 }) ∧
        (within 200 → r.good < 3 → keeps { r with good := r.good + 1 }) ∧
        (within 200 → 3 ≤ r.good →
          exec (.measurement e) s = .next ({ s with reference := r.entered .track src s.now }.post
            (refEvent .notice .acquire .track (some src) 3 2)))) ∧
      (r.state = .track →
        (within 20 → r.good < 15 → keeps { r with good := r.good + 1, bad := 0 }) ∧
        (within 20 → 15 ≤ r.good →
          ∃ t, exec (.measurement e) s = .next t ∧ gateHanded true s t ∧
            t.reference = { r.entered .locked src s.now with switchSince := (
              if src = Source.other pref ∧ (r.monitor pref).present then some s.now else none) } ∧
            Posts [refEvent .notice .track .locked (some src) 3 0] s t) ∧
        (¬within 20 → within 200 → keeps { r with good := 0, bad := 0 }) ∧
        (¬within 200 → r.bad = 0 → keeps { r with good := 0, bad := 1 }) ∧
        (¬within 200 → 1 ≤ r.bad →
          exec (.measurement e) s = .next ({ s with reference := r.entered .acquire src s.now }.post
            (refEvent .notice .track .acquire (some src) 3 2)))) ∧
      (r.state = .locked →
        (within 50 → keeps { r with bad := 0 }) ∧
        (¬within 50 → r.bad = 0 → keeps { r with bad := 1 }) ∧
        (¬within 50 → 1 ≤ r.bad →
          ∃ t, exec (.measurement e) s = .next t ∧ gateHanded false s t ∧ t.reference = r.entered .track src s.now ∧
            Posts [refEvent .warning .locked .track (some src) 3 1] s t))

/-- R71, R72, R75: a holdover that expires goes to FREE, closing the gate, and on to ACQUIRE when a source is PRESENT;
out of HOLDOVER the expiry changes nothing. REF FORCE HOLDOVER takes a LOCKED unit to a forced HOLDOVER of its source
and leaves the gate open; REF RESUME ends the forcing, and goes to TRACK when a source is PRESENT. Elsewhere both are
refused with STATE. The expiry acts during a reset too (assumption 8); REF_STATE stands before the allocators' records
(assumption 17); a count that R65 gives no value is 0 (assumption 29), and the states in REF_STATE are numbered as in
R65 (assumption 33). -/
def Obligations.HoldoverIsForcedResumedEnded : Prop :=
  ∀ s : State,
    let r := s.reference
    let pref := s.work.reference.preferred
    let select : Option Source := if (r.monitor pref).present then some pref
      else if (r.monitor (Source.other pref)).present then some (Source.other pref) else none
    (r.state ≠ .holdover → exec .holdoverExpiry s = .next s) ∧
    (r.state = .holdover →
      ∃ t, exec .holdoverExpiry s = .next t ∧ gateHanded false s t ∧
        t.reference = (match select with
          | none => r.freed
          | some x => r.entered .acquire x s.now) ∧
        Posts (refEvent .alarm .holdover .free none 8 1 :: (match select with
          | none => []
          | some x => [refEvent .notice .free .acquire (some x) 1 2])) s t) ∧
    ∀ (port : MgmtPort) (tag : Byte),
      let w := watchFrame port s
      (Serves s port .refForceHoldover →
        (r.state ≠ .locked → exec (.refForceHoldover port tag) s = .next (w.withReply port ⟨0x33, tag, .wrongState, []⟩)) ∧
        (r.state = .locked →
          exec (.refForceHoldover port tag) s =
            .next (({ w with reference := r.holding r.selected true s.now }.post
              (refEvent .notice .locked .holdover r.selected 6 2)).withReply port ⟨0x33, tag, .accepted, []⟩))) ∧
      (Serves s port .refResume →
        (¬(r.state = .holdover ∧ r.forced = true) →
          exec (.refResume port tag) s = .next (w.withReply port ⟨0x34, tag, .wrongState, []⟩)) ∧
        (r.state = .holdover → r.forced = true → select = none →
          exec (.refResume port tag) s =
            .next ({ w with reference := { r with forced := false } }.withReply port ⟨0x34, tag, .accepted, []⟩)) ∧
        (r.state = .holdover → r.forced = true → ∀ x, select = some x →
          ∃ t, exec (.refResume port tag) s = .next t ∧
            gateHanded false (w.withReply port ⟨0x34, tag, .accepted, []⟩) t ∧
            t.reference = r.entered .track x s.now ∧ Posts [refEvent .warning .holdover .track (some x) 7 1] w t))

/-- R64, R73, R121: an accepted REF CONFIG or VOTER CONFIG replaces its record in working form with the values brought
into range, its reply HELD; VOTER CONFIG touches nothing else. A preferred source changed by REF CONFIG acts at once: in
ACQUIRE and TRACK on a unit whose source it is not, if it is PRESENT, in LOCKED on the switch timer; a changed limit
expires a holdover whose age has reached it. A source that is neither, and a channel out of range, are refused. Which
values a reply carries, in which order, is the model's choice (assumption 13); REF_STATE stands before the allocators'
records (assumption 17); a count that R65 gives no value is 0 (assumption 29), and the states in REF_STATE are numbered
as in R65 (assumption 33). -/
def Obligations.ReferenceAndVoterConfigs : Prop :=
  ∀ (s : State) (port : MgmtPort) (tag : Byte),
    let w := watchFrame port s
    let clamped (b : Bool) : Answer := if b then .acceptedClamped else .accepted
    (∀ (src : Source) (n : Nat) (v : Int), Serves s port (.refConfig ⟨n, v⟩) →
      (1 < n → exec (.refConfig port tag ⟨n, v⟩) s = .next (w.withReply port ⟨0x32, tag, .badValue, []⟩)) ∧
      (n = (match src with | .refIn => 0 | .pilot => 1) → .reference ∉ s.inFlight →
        let limit : Nat := (max 1 (min 48 v)).toNat
        let old := s.work.reference
        let r := s.reference
        let reply : Reply :=
          ⟨0x32, tag, clamped (decide ((limit : Int) ≠ v)), [.named n, .quantity limit]⟩
        let set := { w with work := { w.work with reference := ⟨src, limit⟩ } }
        let plain := exec (.refConfig port tag ⟨n, v⟩) s = .next (set.withHeld port .reference reply)
        (src = old.preferred → (limit = old.limit ∨ r.state ≠ .holdover) → plain) ∧
        (r.state = .warmup ∨ r.state = .free → plain) ∧
        (r.state = .acquire ∨ r.state = .track →
          (¬(r.selected = some (Source.other src) ∧ (r.monitor src).present = true) → plain) ∧
          (src ≠ old.preferred → r.selected = some (Source.other src) → (r.monitor src).present = true →
            exec (.refConfig port tag ⟨n, v⟩) s =
              .next (({ set with reference := r.entered .acquire src s.now }.post
                (refEvent .notice r.state .acquire (some src) 5 2)).withHeld port .reference reply))) ∧
        (r.state = .locked → src ≠ old.preferred →
          exec (.refConfig port tag ⟨n, v⟩) s =
            .next ({ set with reference := { r with switchSince := (
              if r.selected = some (Source.other src) ∧ (r.monitor src).present then some (r.switchSince.getD s.now)
              else none) } }.withHeld port .reference reply)) ∧
        (∀ since, r.state = .holdover → r.heldSince = some since →
          (limit = old.limit ∨ s.now - since < limit * 3600000 → plain) ∧
          (limit ≠ old.limit → limit * 3600000 ≤ s.now - since →
            ∃ t, exec (.refConfig port tag ⟨n, v⟩) s = .next t ∧
              gateHanded false (set.withHeld port .reference reply) t ∧
              t.reference = (if (r.monitor src).present then r.entered .acquire src s.now
                else if (r.monitor (Source.other src)).present then r.entered .acquire (Source.other src) s.now
                else r.freed) ∧
              Posts [refEvent .alarm .holdover .free none 8 1] w t)))) ∧
    ∀ (n : Nat) (a b : Int), Serves s port (.voterConfig ⟨n, a, b⟩) →
      (n < 1 ∨ 4 < n → exec (.voterConfig port tag ⟨n, a, b⟩) s = .next (w.withReply port ⟨0x44, tag, .badId, []⟩)) ∧
      ∀ ch : ChannelNo, n = ch.val + 1 → .voter ch ∉ s.inFlight →
        let h : Nat := (max 1 (min 15 a)).toNat
        let hang : Nat := (max 5 (min 100 b)).toNat
        exec (.voterConfig port tag ⟨n, a, b⟩) s =
          .next ({ w with work := { w.work with voters := w.work.voters.set ch ⟨h, hang⟩ } }.withHeld port (.voter ch)
            ⟨0x44, tag, clamped (decide ((h : Int) ≠ a ∨ (hang : Int) ≠ b)), [.quantity h, .quantity hang]⟩)

/-! ### Portal talk and the hang (chapter 7) -/

/-- R113, R116 to R120: a hang that expires leaves the voter IDLE with RESCUE_IDLE. The console's key, from port 1
alone, takes a voter to CONSOLE, and the base's key to BASE unless the console talks; from IDLE with RESCUE_ACTIVE. Talk
ends by CONSOLE UNKEY, by the key limit with CONSOLE_KEY_LIMIT, or by the base's release: into BASE while the base key
is ASSERTED after console talk, else by the candidates as they stand. A key that is CLEAR, and a base key that repeats
its recorded state, change no voter. In every state the voter carries in the downlink and out to the console and the
base what R115's table gives, with the voted uplink of the last block, also on a channel that covers no ring (assumption
31). RESCUE_ACTIVE and RESCUE_IDLE stand before the allocators' records (assumption 17); the cause of RESCUE_IDLE as 0
and the channel in CONSOLE_KEY_LIMIT are the model's choice (assumption 13). -/
def Obligations.KeysAndHangMoveTheVoter : Prop :=
  ∀ (s : State) (ch : ChannelNo) (tag : Byte), s.causes = [] →
    let v := s.voters[ch]
    let hang := s.work.voters[ch].hang
    let subject := voterSubject s ch
    let active (code : Nat) : Note := ⟨.rescueActive, .notice, subject, [.channel ch, .named code]⟩
    let lane (b : Bool) : State := { s with baseLane := s.baseLane.set ch b }
    let reply (kind : Byte) (a : Answer) : Reply := ⟨kind, tag, a, []⟩
    let key : Instr := .consoleKey .console tag (ch.val + 1)
    let unkey : Instr := .consoleUnkey .console tag (ch.val + 1)
    Forwards v (votedAudio v.forwarded) ∧
    (v.state ≠ .hang → exec (.hangExpiry ch) s = .next s) ∧
    (v.state = .hang →
      ∃ t, exec (.hangExpiry ch) s = .next t ∧ activityHanded ch false s t ∧
        t.voters[ch] = { v with state := .idle, source := none, hang := none, forwarded := none } ∧
        Posts [⟨.rescueIdle, .notice, subject, [.channel ch, .named 0]⟩] s t) ∧
    (v.consoleKey = none → exec (.keyLimitExpiry ch) s = .next s) ∧
    (v.consoleKey ≠ none → v.state = .console →
      let u := s.post ⟨.consoleKeyLimit, .warning, subject, [.channel ch]⟩
      (v.baseKey = true →
        exec (.keyLimitExpiry ch) s = .next (u.setVoter ch { v with state := .base, consoleKey := none })) ∧
      (v.baseKey = false →
        ∃ v', TalkEnds s.now hang v v' ∧ exec (.keyLimitExpiry ch) s = .next (u.setVoter ch v'))) ∧
    exec (.baseKeyChange ch v.baseKey) s = .next (lane v.baseKey) ∧
    (v.baseKey = false →
      (v.state = .idle →
        ∃ t, exec (.baseKeyChange ch true) s = .next t ∧ activityHanded ch true (lane true) t ∧
          t.voters[ch] = { v with state := .base, hang := none, baseKey := true } ∧ Posts [active 2] s t) ∧
      (v.state = .repeating ∨ v.state = .hang →
        exec (.baseKeyChange ch true) s =
          .next ((lane true).setVoter ch { v with state := .base, hang := none, baseKey := true })) ∧
      (v.state = .console ∨ v.state = .base →
        exec (.baseKeyChange ch true) s = .next ((lane true).setVoter ch { v with baseKey := true }))) ∧
    (v.baseKey = true →
      (v.state = .base →
        ∃ v', TalkEnds s.now hang { v with baseKey := false } v' ∧
          exec (.baseKeyChange ch false) s = .next ((lane false).setVoter ch v')) ∧
      (v.state ≠ .base →
        exec (.baseKeyChange ch false) s = .next ((lane false).setVoter ch { v with baseKey := false }))) ∧
    (∀ n, Serves s .control (.consoleKey n) →
      exec (.consoleKey .control tag n) s =
          .next ((watchFrame .control s).withReply .control (reply 0x42 .wrongPort)) ∧
      exec (.consoleUnkey .control tag n) s =
          .next ((watchFrame .control s).withReply .control (reply 0x43 .wrongPort))) ∧
    (∀ n, Serves s .console (.consoleKey n) → n < 1 ∨ 4 < n →
      exec (.consoleKey .console tag n) s = .next (s.withReply .console (reply 0x42 .badId)) ∧
      exec (.consoleUnkey .console tag n) s = .next (s.withReply .console (reply 0x43 .badId))) ∧
    (Serves s .console (.consoleKey (ch.val + 1)) →
      (v.state = .console → exec key s = .next (s.withReply .console (reply 0x42 .alreadyActive))) ∧
      (v.state = .idle →
        ∃ t, exec key s = .next t ∧ activityHanded ch true (s.withReply .console (reply 0x42 .accepted)) t ∧
          t.voters[ch] = { v with state := .console, consoleKey := some s.now, hang := none } ∧
          Posts [active 1] s t) ∧
      (v.state ≠ .console → v.state ≠ .idle →
        exec key s = .next ((s.setVoter ch { v with state := .console, consoleKey := some s.now, hang := none }).withReply
          .console (reply 0x42 .accepted))) ∧
      (v.state ≠ .console → exec unkey s = .next (s.withReply .console (reply 0x43 .wrongState))) ∧
      (v.state = .console → v.baseKey = true →
        exec unkey s = .next ((s.setVoter ch { v with state := .base, consoleKey := none }).withReply .console
          (reply 0x43 .accepted))) ∧
      (v.state = .console → v.baseKey = false →
        ∃ v', TalkEnds s.now hang v v' ∧
          exec unkey s = .next ((s.setVoter ch v').withReply .console (reply 0x43 .accepted))))

/-! ### Announcements (chapter 8) -/

/-- R130, R131, R133 to R135, R137, R141: a break-in post or withdrawal that fails a check is refused and changes
nothing. An accepted post evicts the last request of a full queue when its priority is higher, takes the lowest free id
and stands after the requests of at least its priority; an accepted withdrawal takes its request out. Either way the
queue is settled afresh; the records of the removal are posted, and then those of the requests put on air, with what the
changes of class post among or after them, and where no zone's carrying changes nothing more. BREAKIN_EVICTED tells the
source, the priority, the state before and the id that displaced it; BREAKIN_ON_AIR the source, the player, the zones
owned and the position; BREAKIN_DONE the cause, the source and the repetitions done; how numbers and sets are sent there
is the model's choice (assumption 13). A request that gains a player has the lowest free one. A priority or repeat out
of range is refused, not clamped (assumption 19); that `Resettled` has a position hear a zone's new owner within its
page is assumption 22. -/
def Obligations.BreakInsAreQueuedAndWithdrawn : Prop :=
  ∀ (s : State) (port : MgmtPort) (tag : Byte), QueueSound s →
    let w := watchFrame port s
    let q := s.breakin.queue
    (∀ (a : BreakInArgs), Serves s port (.breakinPost a) →
      let post := exec (.breakinPost port tag a) s
      let refused (e : Answer) : Prop := post = .next (w.withReply port ⟨0x52, tag, e, []⟩)
      let ids := (∀ z ∈ a.zones, 1 ≤ z ∧ z ≤ 8) ∧ ∀ c ∈ a.clips, 1 ≤ c ∧ c ≤ 64
      let shape := a.zones ≠ [] ∧ a.clips ≠ [] ∧ a.clips.length ≤ 8 ∧ 1 ≤ a.priority ∧ a.priority ≤ 7 ∧ a.repeats ≤ 15
      (¬ids → refused .badId) ∧ (ids → ¬shape → refused .badValue) ∧
      ∀ (clips : List ClipNo) (priority : Nat), ids → shape → a.clips = clips.map (·.val + 1) → a.priority = priority →
        let evicted := if q.length < 8 then none else q.getLast?
        let kept := if q.length < 8 then q else q.dropLast
        ((∃ c ∈ clips, s.work.clips[c].state ≠ .ready) → refused .notReady) ∧
        ((∀ c ∈ clips, s.work.clips[c].state = .ready) →
          (8 ≤ q.length → (∀ r ∈ q, priority ≤ r.priority) → refused .queueFull) ∧
          (q.length < 8 ∨ (∃ r ∈ q, r.priority < priority) →
            ∃ t id before new after, post = .next t ∧ kept = before ++ after ∧
              (∀ r ∈ before, priority ≤ r.priority) ∧ (∀ r ∈ after, r.priority < priority) ∧
              1 ≤ id ∧ id ∉ kept.map BreakIn.id ∧ (∀ n, 1 ≤ n → n < id → n ∈ kept.map BreakIn.id) ∧
              new ∈ t.breakin.queue ∧
              new.body = (id, match port with | .control => .controlPort | .console => .consolePort, none,
                (List.finRange 8).filter (fun z => z.val + 1 ∈ a.zones), clips, priority, a.repeats,
                s.breakin.accepted + 1, 0) ∧
              new.clipIndex = 1 ∧ new.page = 0 ∧
              t.breakin.queue.map BreakIn.body = before.map BreakIn.body ++ new.body :: after.map BreakIn.body ∧
              t.breakin.accepted = s.breakin.accepted + 1 ∧ Resettled s t ∧
              SameBut breakinParts (w.withReply port ⟨0x52, tag, .accepted,
                [.ident id, .named new.state.ctorIdx] ++ optField (fun r => .ident r.id) evicted⟩) t ∧
              let records := (evicted.map (evictedReport · id)).toList ++ putOnAir s t
              Tells records w t ∧ (t.breakin.carrying = s.breakin.carrying → PostsOnly records w t)))) ∧
    ∀ n, Serves s port (.breakinWithdraw n) →
      let withdraw := exec (.breakinWithdraw port tag n) s
      let refused (e : Answer) : Prop := withdraw = .next (w.withReply port ⟨0x53, tag, e, []⟩)
      (n < 1 ∨ 255 < n → refused .badId) ∧
      (1 ≤ n → n ≤ 255 → (∀ r ∈ q, r.id ≠ n) → refused .wrongState) ∧
      ∀ r ∈ q, r.id = n →
        (r.source = .plan → (s.mgmt.get port).authority.rank < 2 → refused .authority) ∧
        (r.source ≠ .plan ∨ 2 ≤ (s.mgmt.get port).authority.rank →
          ∃ t, withdraw = .next t ∧
            t.breakin.queue.map BreakIn.body = (q.filter (·.id ≠ n)).map BreakIn.body ∧
            t.breakin.accepted = s.breakin.accepted ∧ Resettled s t ∧
            SameBut breakinParts (w.withReply port ⟨0x53, tag, .accepted, []⟩) t ∧
            let records :=
              ⟨.breakinDone, .notice, .breakin n, [.named 1, .named 0, .named r.source.number, .count r.done]⟩ ::
                putOnAir s t
            Tells records w t ∧ (t.breakin.carrying = s.breakin.carrying → PostsOnly records w t))

/-- R135 to R137, R139 to R141: a page end at a free player changes nothing; at a player that holds a request it moves
the position to the next page, to the next clip, or back to the beginning with one more repetition done, and the next
page begins, which every member of the request's zones hears; a request whose repetitions are done leaves the queue with
BREAKIN_DONE, and the queue is settled afresh; the records of the requests put on air follow it, with what the changes
of class post among or after them, if any; BREAKIN_ON_AIR tells the source, the player, the zones owned, the position
and the repetitions done, sent as the model chooses (assumption 13). A player plays the bytes of its request's page, and
a free one nothing. A position that hears a request has its player's page in place of its programmes, and where it
radiates a broadcast carrier that page, by its clip and number, is the announcement heard there; any other position
keeps its programmes. A page that begins at this moment does not end at it (assumption 24), and where two page ends each
complete, the first one's settlement may take the other's player (assumption 32); that `Resettled` has a position hear a
zone's new owner within its page is assumption 22. -/
def Obligations.PageEndsAdvanceOrComplete : Prop :=
  ∀ (s : State) (p : PlayerNo), s.causes = [] → QueueSound s →
    ((∀ r ∈ s.breakin.queue, r.player = some p → r.pageSince = s.now) → exec (.pageEnd p) s = .next s) ∧
    (let playsAt (q : Position) (x : BreakIn) : Prop := posGet s.breakin.heard q = some x.acceptance
      let onAir (q : Position) : Prop :=
        ∃ c, radiates s q c ≠ none ∧ ∃ x, s.work.catalogue[c] = some x ∧ x.kind = .broadcast
      ((∀ x ∈ s.breakin.queue, x.player ≠ some p) → playing s p = none) ∧
      (∀ q, (∀ x ∈ s.breakin.queue, playsAt q x → x.player = none) → inserted s q = .programme) ∧
      (∀ q, ¬onAir q ∨ inserted s q = .programme → announcement s q = none) ∧
      ∀ x ∈ s.breakin.queue, ∀ n, x.player = some n →
        (∀ q, playsAt q x → inserted s q = .page n) ∧
        ∀ i c, x.clipIndex = i + 1 → x.clips[i]? = some c →
          playing s n = some ((List.range 1536).map fun j =>
            memRead s.work.pages ((s.work.clips[c].first + x.page) * 1536 + j)) ∧
          ∀ q, playsAt q x → onAir q → announcement s q = some (c, x.page)) ∧
    ∀ r ∈ s.breakin.queue, r.player = some p → r.pageSince ≠ s.now →
      ∀ i c, r.clipIndex = i + 1 → r.clips[i]? = some c →
      let pages := s.work.clips[c].pages
      let n := min 65535 (r.done + 1)
      let moves (x : BreakIn) : Prop :=
        ∃ heard, let t := { s with breakin := { s.breakin with
            queue := s.breakin.queue.map fun y => if y.id = r.id then x else y, heard := heard } }
          exec (.pageEnd p) s = .next t ∧
          (∀ q z, s.zoneOfPosition q = some z → z ∈ r.owned →
            posGet heard q = some r.acceptance ∧ inserted t q = .page p) ∧
          ∀ q, (∀ z ∈ r.owned, s.zoneOfPosition q ≠ some z) → posGet heard q = posGet s.breakin.heard q
      (r.page + 1 < pages → moves { r with page := r.page + 1, pageSince := s.now }) ∧
      (pages ≤ r.page + 1 → i + 1 < r.clips.length →
        moves { r with clipIndex := i + 2, page := 0, pageSince := s.now }) ∧
      (pages ≤ r.page + 1 → r.clips.length = i + 1 →
        (r.repeats = 0 ∨ n < r.repeats → moves { r with clipIndex := 1, page := 0, done := n, pageSince := s.now }) ∧
        (r.repeats ≠ 0 → r.repeats ≤ n →
          ∃ t, exec (.pageEnd p) s = .next t ∧ SameBut breakinParts s t ∧
            t.breakin.queue.map BreakIn.body = (s.breakin.queue.filter (·.id ≠ r.id)).map BreakIn.body ∧
            t.breakin.accepted = s.breakin.accepted ∧ Resettled s t ∧
            let records :=
              ⟨.breakinDone, .notice, .breakin r.id, [.named 0, .named r.source.number, .count n]⟩ :: putOnAir s t
            Tells records s t ∧ (t.breakin.carrying = s.breakin.carrying → PostsOnly records s t)))

/-- R124 to R128: CLIP OPEN gives an EMPTY clip the first run of free pages that is long enough, or answers NO_ROOM with the
longest; CLIP PAGE writes the next page of a LOADING clip and answers a repeat of the last one as a duplicate; CLIP DELETE
empties a clip that no queued request names. A command that writes has its reply HELD, and every other outcome changes
nothing; a clip out of range is refused with BAD_ID. That page numbers are sent as counts is the model's choice (assumption
13). -/
def Obligations.ClipsAreLoadedAndDeleted : Prop :=
  (∀ (s : State) (port : MgmtPort) (tag : Byte) (n : Nat), ¬(1 ≤ n ∧ n ≤ 64) →
    let w := watchFrame port s
    (∀ pages, Serves s port (.clipOpen n pages) →
      exec (.clipOpen port tag n pages) s = .next (w.withReply port ⟨0x62, tag, .badId, []⟩)) ∧
    (∀ (index : Nat) (payload : List Byte), Serves s port (.clipPage n index payload) → payload.length = 1536 →
      exec (.clipPage port tag n index payload) s = .next (w.withReply port ⟨0x63, tag, .badId, []⟩)) ∧
    (Serves s port (.clipDelete n) →
      exec (.clipDelete port tag n) s = .next (w.withReply port ⟨0x64, tag, .badId, []⟩))) ∧
  ∀ (s : State) (port : MgmtPort) (tag : Byte) (c : ClipNo), .clip c ∉ s.inFlight →
    let w := watchFrame port s
    let x := s.work.clips[c]
    let free (k : Nat) : Prop := ∀ d : ClipNo, s.work.clips[d].state ≠ .empty →
      k < s.work.clips[d].first ∨ s.work.clips[d].first + s.work.clips[d].pages ≤ k
    let fits (first n : Nat) : Prop := first + n ≤ 2048 ∧ ∀ k, first ≤ k → k < first + n → free k
    let with_ (y : Clip) : State := { w with work := { w.work with clips := w.work.clips.set c y } }
    (∀ n, Serves s port (.clipOpen (c.val + 1) n) →
      let opens := exec (.clipOpen port tag (c.val + 1) n) s
      (n < 1 ∨ 600 < n → opens = .next (w.withReply port ⟨0x62, tag, .badValue, []⟩)) ∧
      (1 ≤ n → n ≤ 600 → x.state ≠ .empty → opens = .next (w.withReply port ⟨0x62, tag, .wrongState, []⟩)) ∧
      (1 ≤ n → n ≤ 600 → x.state = .empty → (∀ d : ClipNo, s.work.clips[d].sound) →
        ((∀ first, ¬fits first n) →
          ∃ longest, (∃ first, fits first longest) ∧ (∀ first m, fits first m → m ≤ longest) ∧
            opens = .next (w.withReply port ⟨0x62, tag, .noRoom, [.count longest]⟩)) ∧
        ∀ first, fits first n → (∀ k, k < first → ¬fits k n) →
          opens = .next ((with_ ⟨.loading, first, n, 0⟩).withHeld port (.clip c) ⟨0x62, tag, .accepted, [.count first]⟩))) ∧
    (∀ (index : Nat) (payload : List Byte), Serves s port (.clipPage (c.val + 1) index payload) →
      let pages := exec (.clipPage port tag (c.val + 1) index payload) s
      (payload.length ≠ 1536 → pages = .next (w.withReply port ⟨0x63, tag, .badLength, []⟩)) ∧
      (payload.length = 1536 →
        (x.state = .loading → index = x.written → x.written < x.pages → memoryCanonical s →
          ∃ m, memWf m = true ∧
            (∀ a, memRead m a = if a / 1536 = x.first + x.written then payload.getD (a % 1536) 0
              else memRead s.work.pages a) ∧
            pages = .next ({ w with work := { w.work with
              clips := w.work.clips.set c { x with written := x.written + 1 }, pages := m } }.withHeld port (.clip c)
                ⟨0x63, tag, .accepted, []⟩)) ∧
        ((x.state = .loading ∧ index + 1 = x.written) ∨ (x.state = .ready ∧ index + 1 = x.pages) →
          pages = .next (w.withReply port ⟨0x63, tag, .acceptedDuplicate, []⟩)) ∧
        (x.state = .empty ∨ (x.state = .ready ∧ index + 1 ≠ x.pages) ∨
            (x.state = .loading ∧ index + 1 ≠ x.written ∧ ¬(index = x.written ∧ x.written < x.pages)) →
          pages = .next (w.withReply port ⟨0x63, tag, .wrongState, []⟩)))) ∧
    (Serves s port (.clipDelete (c.val + 1)) →
      let deletes := exec (.clipDelete port tag (c.val + 1)) s
      let named := ∃ r ∈ s.breakin.queue, c ∈ r.clips
      (named → deletes = .next (w.withReply port ⟨0x64, tag, .clipInUse, []⟩)) ∧
      (¬named → x.state = .empty → deletes = .next (w.withReply port ⟨0x64, tag, .accepted, []⟩)) ∧
      (¬named → x.state ≠ .empty →
        deletes = .next ((with_ ⟨.empty, 0, 0, 0⟩).withHeld port (.clip c) ⟨0x64, tag, .accepted, []⟩)))

/-! ### Plans, triggers and contacts (chapter 9) -/

/-- R5, R145 to R147: PLAN LOAD is refused for a plan out of range with BAD_ID, for an active or stacked plan with
IN_USE, for the absence of plan 0 with BAD_VALUE, and for an offence of checks 5 to 7 with the part and the index of the
first: of check 7 is a carrier without a Catalogue record, and one whose kind a CARRIER SET taken before has changed, by
R5; any other makes the record absent, or stores it with levels and override brought into range. TRIGGER SET replaces an
entry 0 to 31 that names a plan from 1 to 15, a mode and an authority; any other is refused with BAD_ID or BAD_VALUE.
Their replies are HELD, and they act on nothing else. The index of a label, of an authority and of a list's excess, and
the absent mark, a presence byte, also in the reply of PLAN LOAD, are the model's choice (assumption 13); that R5's
refusal lasts as long as the store write of the CARRIER SET is its reading (assumption 27). -/
def Obligations.PlansAndTriggersAreSet : Prop :=
  ∀ (s : State) (port : MgmtPort) (tag : Byte),
    let w := watchFrame port s
    (∀ (n : Nat) (record : Option PlanArgs), Serves s port (.planLoad n record) → 15 < n →
      exec (.planLoad port tag n record) s = .next (w.withReply port ⟨0x76, tag, .badId, []⟩)) ∧
    (∀ a : TriggerSetArgs, Serves s port (.triggerSet a) → 31 < a.trigger →
      exec (.triggerSet port tag a) s = .next (w.withReply port ⟨0x77, tag, .badId, []⟩)) ∧
    (∀ (p : PlanNo) (record : Option PlanArgs), Serves s port (.planLoad p.val record) → .plan p ∉ s.inFlight →
      let load := exec (.planLoad port tag p.val record) s
      let stored (a : Answer) (x : Option PlanRecord) : Prop := load =
        .next ({ w with work := { w.work with plans := w.work.plans.set p x } }.withHeld port (.plan p)
          ⟨0x76, tag, a, showPlan p x⟩)
      let stands := s.plans.active = p ∨ p ∈ s.plans.stack
      (stands → load = .next (w.withReply port ⟨0x76, tag, .inUse, []⟩)) ∧
      (¬stands → record = none → p = 0 → load = .next (w.withReply port ⟨0x76, tag, .badValue, []⟩)) ∧
      (¬stands → record = none → p ≠ 0 → stored .accepted none) ∧
      ∀ a, ¬stands → record = some a →
        let list (part : Nat) : List (Nat × Int) := if part = 0 then a.listN else if part = 1 then a.listS else []
        let bad5 (part i : Nat) : Prop := (∃ e, (list part)[i]? = some e ∧ ¬(1 ≤ e.1 ∧ e.1 ≤ 24)) ∨
          (part = 2 ∧ ∃ t, a.templates[i]? = some t ∧
            ((∃ z ∈ t.zones, ¬(1 ≤ z ∧ z ≤ 8)) ∨ ∃ c ∈ t.clips, ¬(1 ≤ c ∧ c ≤ 64)))
        let bad6 (part i : Nat) : Prop :=
          (∃ e, (list part)[i]? = some e ∧ (24 ≤ i ∨ ∃ e' ∈ (list part).take i, e'.1 = e.1)) ∨
          (part = 2 ∧ ∃ t, a.templates[i]? = some t ∧ (4 ≤ i ∨ ¬(t.zones ≠ [] ∧ t.clips ≠ [] ∧ t.clips.length ≤ 8 ∧
            1 ≤ t.priority ∧ t.priority ≤ 7 ∧ t.repeats ≤ 15))) ∨
          (part = 3 ∧ ((i = 0 ∧ ∃ l, a.label = some l ∧ 16 < l.length) ∨ (i = 1 ∧ 3 < a.authority)))
        let kindChanges (c : CarrierNo) : Prop := .carrier c ∈ s.inFlight ∧
          ∃ x y, s.stored.catalogue[c] = some x ∧ s.work.catalogue[c] = some y ∧ x.kind ≠ y.kind
        let bad7 (part i : Nat) : Prop := ∃ e, (list part)[i]? = some e ∧
          ∀ c : CarrierNo, e.1 = c.val + 1 → s.work.catalogue[c] = none ∨ kindChanges c
        let first (bad : Nat → Nat → Prop) (part i : Nat) : Prop :=
          bad part i ∧ (∀ j < i, ¬bad part j) ∧ ∀ q < part, ∀ j, ¬bad q j
        let refused (e : Answer) (part i : Nat) : Prop :=
          load = .next (w.withReply port ⟨0x76, tag, e, [.named part, .ident i]⟩)
        (∀ part i, first bad5 part i → refused .badId part i) ∧
        (∀ part i, (∀ q j, ¬bad5 q j) → first bad6 part i → refused .badValue part i) ∧
        (∀ part i, (∀ q j, ¬bad5 q j ∧ ¬bad6 q j) → first bad7 part i → refused .badValue part i) ∧
        ((∀ q j, ¬bad5 q j ∧ ¬bad6 q j ∧ ¬bad7 q j) →
          let level (v : Int) : Int := max (-300) (min 370 v)
          let same := (∀ e ∈ a.listN ++ a.listS, level e.2 = e.2) ∧ ∀ m, a.override = some m → 0 ≤ m ∧ m ≤ 30
          ∃ x : PlanRecord, x.label = a.label ∧ x.authority.rank = a.authority ∧
            x.listN.map (fun e => (e.1.val + 1, e.2)) = a.listN.map (fun e => (e.1, level e.2)) ∧
            x.listS.map (fun e => (e.1.val + 1, e.2)) = a.listS.map (fun e => (e.1, level e.2)) ∧
            x.templates.map (fun t => (t.zones, t.clips.map (·.val + 1), (t.priority : Int), t.repeats)) =
              a.templates.map (fun t => ((List.finRange 8).filter (fun z => z.val + 1 ∈ t.zones), t.clips, t.priority,
                t.repeats)) ∧
            x.override = a.override.map (fun m => (max 0 (min 30 m)).toNat) ∧
            (same → stored .accepted (some x)) ∧ (¬same → stored .acceptedClamped (some x)))) ∧
    ∀ (n : TriggerNo) (present : Bool) (minimum plan mode : Nat),
      Serves s port (.triggerSet ⟨n.val, present, minimum, plan, mode⟩) → .trigger n ∉ s.inFlight →
      let set := exec (.triggerSet port tag ⟨n.val, present, minimum, plan, mode⟩) s
      (15 < plan → set = .next (w.withReply port ⟨0x77, tag, .badId, []⟩)) ∧
      (plan ≤ 15 → plan = 0 ∨ 1 < mode ∨ 3 < minimum → set = .next (w.withReply port ⟨0x77, tag, .badValue, []⟩)) ∧
      ∀ (p : PlanNo) (level : Authority) (m : TriggerMode), p ≠ 0 → plan = p.val → minimum = level.rank →
        mode = (match m with | .nest => 0 | .replace => 1) →
        set = .next ({ w with work := { w.work with
          triggers := w.work.triggers.set n ⟨present, level, p, m⟩ } }.withHeld port (.trigger n)
            ⟨0x77, tag, .accepted, []⟩)

/-- R149, R150, R152 to R154: INVOKE answers the first check that fails; an accepted one activates the trigger's plan, over
the active plan or in its place. STAND DOWN, with the active plan's required authority, activates the top of the stack,
or plan 0 over an empty one; STAND DOWN ALL activates plan 0 and drops the stack. An activation posts PLAN_CHANGED and
is handed on: to planners, voters and allocators, and to the break-in queue, which loses its PLAN requests and takes the
plan's templates (R132); with plan 0 standing alone, or refused, nothing changes. The replies of INVOKE and STAND DOWN name
the active plan and the stack; that of STAND DOWN ALL is empty. That a position hears a zone's new owner within its page is
assumption 22; the state shown of an evicted request that had none yet is assumption 26; that the template index counts
from 0 and the presence byte before PLAN_CHANGED's source are assumption 13. -/
def Obligations.PlansAreInvokedAndStoodDown : Prop :=
  ∀ (s : State) (port : MgmtPort) (tag : Byte),
    let w := watchFrame port s
    let rank := (s.mgmt.get port).authority.rank
    let now := s.now - s.resetAt
    let answers (c : Instr) (kind : Byte) (a : Answer) (payload : List Field) : Prop :=
      exec c s = .next (w.withReply port ⟨kind, tag, a, payload⟩)
    let shown (active : PlanNo) (stack : List PlanNo) : List Field :=
      .ident active.val :: .entries stack.length :: stack.map fun p => .ident p.val
    let activates (c : Instr) (kind : Byte) (payload : List Field) (x : PlanState) : Prop :=
      ∃ t, exec c s = .next t ∧ Posts [planChanged s.plans.active x] w t ∧ t.plans = x ∧ (Bounded s → Activated w t) ∧
        SameBut planParts (w.withReply port ⟨kind, tag, .accepted, payload⟩) t
    (∀ n, Serves s port (.invoke n) →
      (31 < n → answers (.invoke port tag n) 0x73 .badId []) ∧
      ∀ t : TriggerNo, n = t.val →
        let a := invocation s t rank
        (a = .alreadyActive → answers (.invoke port tag n) 0x73 a (shown s.plans.active s.plans.stack)) ∧
        (a ≠ .accepted → a ≠ .alreadyActive → answers (.invoke port tag n) 0x73 a []) ∧
        (a = .accepted →
          let x := invoked s t (.port port)
          activates (.invoke port tag n) 0x73 (shown x.active x.stack) x)) ∧
    (Serves s port .standDown → ∀ x, s.work.plans[s.plans.active] = some x →
      (rank < x.authority.rank → answers (.standDown port tag) 0x74 .authority []) ∧
      (x.authority.rank ≤ rank →
        let by_ : Activation := ⟨.standDown, some (.port port), none, now⟩
        (∀ top rest, s.plans.stack = top :: rest → activates (.standDown port tag) 0x74 (shown top rest) ⟨top, by_, rest⟩) ∧
        (s.plans.stack = [] → s.plans.active ≠ 0 → activates (.standDown port tag) 0x74 (shown 0 []) ⟨0, by_, []⟩) ∧
        (s.plans.stack = [] → s.plans.active = 0 → answers (.standDown port tag) 0x74 .nothingToStandDown []))) ∧
    (Serves s port .standDownAll →
      (s.plans.active = 0 → answers (.standDownAll port tag) 0x75 .nothingToStandDown []) ∧
      (s.plans.active ≠ 0 →
        activates (.standDownAll port tag) 0x75 [] ⟨0, ⟨.standDownAll, some (.port port), none, now⟩, []⟩))

/-- R156 to R159: a changed raw level starts the debounce timer again, or stops it when it is the debounced level; at
the timer's end the debounced level is the raw one, and the contact's state follows it and the polarity, with the
activation or the release that the change is. CONTACT SET replaces the entry, its reply HELD, and a changed polarity is
judged in the same way; a contact out of range is refused with BAD_ID. During a reset the raw level alone is kept, which
is the model's reading (assumption 8); a contact's number without a presence byte behind its source, which is 0 in
TRIGGER_REFUSED (R151, R174) and 2 in PLAN_CHANGED (R148), the presence byte before the source of PLAN_CHANGED, the one
presence byte before a trigger and its outcome, and a template's index counted from 0 (assumption 13) are its choice,
and so is the WAITING of a request evicted by a later template (assumption 26). After an activation, what a position
hears is by assumption 22. -/
def Obligations.ContactsSettleAndAct : Prop :=
  (∀ (s : State) (port : MgmtPort) (tag : Byte) (a : ContactSetArgs), Serves s port (.contactSet a) → 15 < a.contact →
    exec (.contactSet port tag a) s = .next ((watchFrame port s).withReply port ⟨0x78, tag, .badId, []⟩)) ∧
  ∀ (s : State) (c : ContactNo) (level : Level),
    let x := s.contacts[c]
    let judged (l : Option Level) (polarity : Polarity) : ContactState := match l with
      | none => .unsettled
      | some l => if (l = .closed ↔ polarity = .activeClosed) then .active else .inactive
    let with_ (y : ContactRec) : State := s.setContact c y
    (x.raw = level → exec (.contactLevelChange c level) s = .next s) ∧
    (s.causes ≠ [] → exec (.contactLevelChange c level) s = .next (with_ { x with raw := level })) ∧
    (s.causes = [] → x.raw ≠ level →
      exec (.contactLevelChange c level) s = .next (with_ { x with
        raw := level, timer := if x.level = some level then none else some s.now })) ∧
    (s.causes = [] → x.timer = none → exec (.debounceTimerExpiry c) s = .next s) ∧
    (s.causes = [] → x.timer ≠ none →
      ∃ t, exec (.debounceTimerExpiry c) s = .next t ∧
        ContactMoved c x.state (with_ ⟨x.raw, some x.raw, none, judged (some x.raw) s.work.contacts[c].polarity⟩) t) ∧
    ∀ (port : MgmtPort) (tag : Byte) (trigger : Option Nat) (release polarity : Nat),
      Serves s port (.contactSet ⟨c.val, trigger, release, polarity⟩) → .contact c ∉ s.inFlight →
      let w := watchFrame port s
      let set := exec (.contactSet port tag ⟨c.val, trigger, release, polarity⟩) s
      ((∃ n, trigger = some n ∧ 31 < n) → set = .next (w.withReply port ⟨0x78, tag, .badId, []⟩)) ∧
      ((∀ n, trigger = some n → n ≤ 31) → 1 < release ∨ 1 < polarity →
        set = .next (w.withReply port ⟨0x78, tag, .badValue, []⟩)) ∧
      ∀ (tr : Option TriggerNo) (re : ReleaseAction) (po : Polarity), trigger = tr.map Fin.val →
        release = (match re with | .none => 0 | .withdraw => 1) →
        polarity = (match po with | .activeClosed => 0 | .activeOpen => 1) →
        let held := ({ w with work := { w.work with contacts := w.work.contacts.set c ⟨tr, re, po⟩ } }).withHeld port
          (.contact c) ⟨0x78, tag, .accepted, []⟩
        (s.work.contacts[c].polarity = po → set = .next held) ∧
        (s.work.contacts[c].polarity ≠ po →
          ∃ t, set = .next t ∧ ContactMoved c x.state (held.setContact c { x with state := judged x.level po }) t)

/-! ### The read requests of the other groups -/

/-- R41, R61, R75, R122, R129, R142, R161: the other requests of VIEW authority answer ACCEPTED with their records as
they stand, one or all of them, and BAD_ID out of range; nothing else changes. A port shows the fields of R41, a ring
those of R61, a voter those of R122, a request of the queue those of R130 and a plan those of R144. The hop that sets a
path's capacity is the one of the fewest slots, of equals the nearest to the port. The encoding of fields that R164 does
not class, the marks of presence that no rule gives, and the absent mark of a plan are the model's choice (assumption
13); so are the amplifier state of a position that is not commissioned (assumption 25), the counts of REF STATUS where
R65 gives none (assumption 29) and the free run that is shown when no page is free (assumption 30). Times that have run
or remain are read from the model's clock, and what remains is rounded up to whole seconds, of a hang to whole tenths
(assumption 2). -/
def Obligations.ReadRequestsAnswer : Prop :=
  ∀ (s : State) (port : MgmtPort) (tag : Byte) (n : Nat),
    let w := watchFrame port s
    let answers (c : Instr) (kind : Byte) (fields : List Field) : Prop :=
      exec c s = .next (w.withReply port ⟨kind, tag, .accepted, fields⟩)
    let badId (c : Instr) (kind : Byte) : Prop := exec c s = .next (w.withReply port ⟨kind, tag, .badId, []⟩)
    let source (x : Source) : Field := .named (match x with | .refIn => 0 | .pilot => 1)
    (Serves s port (.portStatus n) →
      (n = 0 → answers (.portStatus port tag n) 0x21
        (showSpan s ⟨.n, .a⟩ ++ showSpan s ⟨.n, .b⟩ ++ showSpan s ⟨.s, .a⟩ ++ showSpan s ⟨.s, .b⟩)) ∧
      (∀ p, spanNumber p = n → answers (.portStatus port tag n) 0x21 (showSpan s p)) ∧
      (4 < n → badId (.portStatus port tag n) 0x21)) ∧
    (Serves s port (.ringStatus n) →
      ∃ a b : Ring → List Field, (∀ r, ShowsPath s r .a (a r) ∧ ShowsPath s r .b (b r)) ∧
      (n = 0 → answers (.ringStatus port tag n) 0x22 (showRing s .n (a .n) (b .n) ++ showRing s .s (a .s) (b .s))) ∧
      (∀ r, ringNumber r = n → answers (.ringStatus port tag n) 0x22 (showRing s r (a r) (b r))) ∧
      (2 < n → badId (.ringStatus port tag n) 0x22)) ∧
    (Serves s port .refStatus →
      let r := s.reference
      let held (t : Nat) : Int := ((s.now - t) / 1000 : Nat)
      answers (.refStatus port tag) 0x31 (List.flatten [
        [.named r.state.ctorIdx],
        optField (fun t => .quantity (30 - ((s.now - t) / 1000 : Nat))) r.warmupSince, optField source r.selected,
        optField source r.held, optField .wide r.lastOffset, [.count r.good, .count r.bad],
        optField (fun t => .wide (held t)) r.heldSince, [.flag r.forced],
        match r.switchSince with
          | none => [.named 0]
          | some t => [.named 1, .quantity ((s.now - t) / 1000 : Nat)],
        [.named (if r.refIn.present then 0 else 1), .named (if r.pilot.present then 0 else 1),
          .named (if s.gateOpen then 0 else 1), source s.work.reference.preferred,
          .quantity s.work.reference.limit, .flag (decide (.reference ∈ s.inFlight))],
        optField (fun t => .wide (s.work.reference.limit * 3600 - held t)) r.heldSince])) ∧
    (Serves s port (.rescueStatus n) →
      (n = 0 → answers (.rescueStatus port tag n) 0x41 ((List.finRange 4).flatMap (showVoter s))) ∧
      (∀ ch : ChannelNo, n = ch.val + 1 → answers (.rescueStatus port tag n) 0x41 (showVoter s ch)) ∧
      (4 < n → badId (.rescueStatus port tag n) 0x41)) ∧
    (Serves s port .breakinList →
      answers (.breakinList port tag) 0x51 (.entries s.breakin.queue.length :: s.breakin.queue.flatMap showBreakIn ++
        (List.finRange 8).flatMap (fun z => optField (fun r => .ident r.id) (s.breakin.queue.find? (z ∈ ·.zones)) ++
          [.flag s.breakin.carrying[z]]) ++
        (List.finRange 4).flatMap fun p => match s.breakin.queue.find? (·.player = some p) with
          | some r => [.present true, .ident r.id, .quantity ((s.now - r.pageSince) / 1000 : Nat)]
          | none => [.present false])) ∧
    (Serves s port (.clipList n) → (∀ d : ClipNo, s.work.clips[d].sound) →
      let free (k : Nat) : Bool := decide (∀ d : ClipNo, s.work.clips[d].state ≠ .empty →
        k < s.work.clips[d].first ∨ s.work.clips[d].first + s.work.clips[d].pages ≤ k)
      let fits (first m : Nat) : Prop := first + m ≤ 2048 ∧ ∀ k, first ≤ k → k < first + m → free k = true
      let record (c : ClipNo) : List Field :=
        [.ident (c.val + 1), .named s.work.clips[c].state.ctorIdx] ++
        (if s.work.clips[c].state = .empty then []
          else [.count s.work.clips[c].first, .count s.work.clips[c].pages, .count s.work.clips[c].written]) ++
        [.flag (decide (∃ r ∈ s.breakin.queue, c ∈ r.clips)), .flag (decide (.clip c ∈ s.inFlight))]
      ∃ first longest, fits first longest ∧ (∀ k m, fits k m → m ≤ longest) ∧ (∀ k, fits k longest → first ≤ k) ∧
        let room : List Field := [.count (((List.range 2048).filter free).length), .count first, .count longest]
        (n = 0 →
          let listed := (List.finRange 64).filter fun c : ClipNo => s.work.clips[c].state ≠ .empty
          answers (.clipList port tag n) 0x61 (.entries listed.length :: listed.flatMap record ++ room)) ∧
        (∀ c : ClipNo, n = c.val + 1 → answers (.clipList port tag n) 0x61 (record c ++ room)) ∧
        (64 < n → badId (.clipList port tag n) 0x61)) ∧
    (Serves s port (.planRead n) →
      (∀ p : PlanNo, n = p.val →
        answers (.planRead port tag n) 0x71 (List.flatten [showPlan p s.work.plans[p],
          [.flag (decide (.plan p ∈ s.inFlight))],
          if s.plans.active = p then [.named 0]
            else if p ∈ s.plans.stack then [.named 1, .count (s.plans.stack.findIdx (· = p))] else [.named 2]])) ∧
      (n = 16 → answers (.planRead port tag n) 0x71 ((List.finRange 32).flatMap fun i : TriggerNo =>
        let e := s.work.triggers[i]
        [.flag e.present, .named e.minimum.rank, .ident e.plan.val, .named e.mode.ctorIdx,
          .flag (decide (.trigger i ∈ s.inFlight))])) ∧
      (n = 17 → answers (.planRead port tag n) 0x71 ((List.finRange 16).flatMap fun c : ContactNo =>
        let e := s.work.contacts[c]
        List.flatten [optField (fun t => .ident t.val) e.trigger, [.named e.release.ctorIdx, .named e.polarity.ctorIdx,
          .flag (decide (.contact c ∈ s.inFlight)), .named s.contacts[c].state.ctorIdx],
          optField (fun l : Level => .named l.ctorIdx) s.contacts[c].level])) ∧
      (17 < n → badId (.planRead port tag n) 0x71)) ∧
    (Serves s port .stackRead →
      let x := s.plans
      answers (.stackRead port tag) 0x72 (List.flatten [
        [.ident x.active.val, .named x.activation.cause.ctorIdx],
        match x.activation.source with
          | none => [.present false]
          | some src => .present true :: sourceFields src,
        optField (fun t => .ident t.val) x.activation.trigger, [.wide (x.activation.time / 1000), .entries x.stack.length],
        x.stack.map (fun p => .ident p.val), [.flag (decide (w.watch = .expired))],
        (List.finRange 16).map fun c : ContactNo => .named s.contacts[c].state.ctorIdx]))

/-! ### Resets (R177) -/

/-- R177: POWER_ON, RESET_LINE and SUPPLY_DIP begin a reset, or join the one that runs, and change nothing else. -/
def Obligations.CausesBeginAReset : Prop :=
  ∀ s : State,
    let joins (kind : ResetKind) : List ResetKind := if kind ∈ s.causes then s.causes else s.causes ++ [kind]
    exec .powerOn s = .next { s with causes := joins .powerOn } ∧
    exec .resetLine s = .next { s with causes := joins .resetLine } ∧
    exec .supplyDip s = .next { s with causes := joins .supplyDip }

/-- R15 to R19, R43, R62, R76, R89, R106, R123, R127, R143, R162, R177, R179: a reset that ends, of the first kind among
its causes, leaves every block at its reset state over the tables of the store, corrected, with a write in flight done
or not done; with no reset running its end changes nothing. Of the clips, one that was LOADING is EMPTY, and so is a
READY one that shares a page with a READY one of lower id; every other is as stored. Every allocation record is NONE and
empty, under the gate in force, the margin that plan 0 gives, and the activity of its voters, which are IDLE but for
those whose base key is asserted. RESET_DONE is first in both queues; after it stand, and nothing else, the REF_STATE
records of a kept unit whose stored preference or limit differs from the working one, RESCUE_ACTIVE for each base key
asserted, and what plan 0's templates post, among one another in any order (assumption 1). RESTART is refused with BUSY
while a store write is in flight, and else is such a reset at once, with its reply never sent; its strap value is open.
Plan 0's requests stand at clip index 1, page 0, with the lowest free players, and each on the air begins its page at
once. The pins kept and which writes are done (assumptions 4, 8, 9), that clips are judged as loaded (assumption 12),
the fields of a port that R43 does not name (assumption 10) and the strap value as one byte of RESET_DONE (assumption
13) are the model's reading, and so are the loopback flag false (assumption 28) and the states in REF_STATE numbered as
in R65 (assumption 33); what the templates of plan 0 post is told by assumptions 13 and 26, and who hears it by
assumption 22. -/
def Obligations.ResetsRestoreEveryBlock : Prop :=
  let loads (x : Store) (t : State) : Prop :=
    t.stored = { x with
      catalogue := t.stored.catalogue, units := t.stored.units, zones := t.stored.zones, clips := t.stored.clips } ∧
    ∀ c : ClipNo,
      let shares (d : ClipNo) : Prop := x.clips[d].state = .ready ∧
        x.clips[d].first < x.clips[c].first + x.clips[c].pages ∧ x.clips[c].first < x.clips[d].first + x.clips[d].pages
      (x.clips[c].state = .empty → t.stored.clips[c] = x.clips[c]) ∧
      (x.clips[c].state = .loading → t.stored.clips[c] = ⟨.empty, 0, 0, 0⟩) ∧
      (x.clips[c].state = .ready → (∃ d < c, shares d) → t.stored.clips[c] = ⟨.empty, 0, 0, 0⟩) ∧
      (x.clips[c].state = .ready → (∀ d < c, ¬shares d) → t.stored.clips[c] = x.clips[c])
  ∀ (s : State) (straps : Nat) (written : List StoreKey),
    (s.causes = [] → exec (.resetEnd straps written) s = .next s) ∧
    (s.causes ≠ [] →
      ∃ t, exec (.resetEnd straps written) s = .next t ∧ AfterReset (firstCause s.causes) straps s t ∧
        t.restarts = s.restarts ∧ loads (s.finished written).stored t ∧
        (written.filter (· ∈ s.inFlight) = [] → t.stored = s.stored.repaired) ∧
        ∀ key, key ∈ s.inFlight → written = [key] →
          t.stored = (s.stored.commit (finishClip key s.work) key).repaired) ∧
    ∀ (port : MgmtPort) (tag : Byte), Serves s port .restart →
      (s.inFlight ≠ [] → exec (.restart port tag) s =
        .next ((watchFrame port s).withReply port ⟨0x07, tag, .busy, []⟩)) ∧
      (s.inFlight = [] → ∃ t, exec (.restart port tag) s = .next t ∧
        AfterReset .restart (Config.strapPins s.restarts).val s t ∧ t.restarts = s.restarts + 1 ∧
        t.stored = s.stored.repaired ∧ loads s.stored t)

/-! ### Allocation and carriage, on their inputs (chapters 5 and 6) -/

/-- R93, R95, R98 to R102: of candidates whose requests lie in range and whose floors are their requests less the limit
of their class, an allocation grants levels from −300 to the request, of a sum that is at most the budget, when the
budget bears them at −300. It mutes none when the requests fit, and otherwise the shortest beginning of the muting order
without which the rest fit at their floors, or all of it; a rescue carrier is granted. The muting order holds exactly
the candidates of classes 3, 2 and 1, in this order, and within a class by carrier id descending. A backoff is that of
the highest class at which the survivors fit, and the smallest at which they do; a rescue backoff is the smallest at
which the rescue carriers fit. An event at a record brings its own input, at that unit alone; the record is then what
R92 to R101 make of its inputs, but for a rescue event where no carrier of that channel is carried, which is only noted;
and it posts the muting, unmuting and limiting with its cause, in their order. Every step from every state keeps the
records the allocations of their own candidates to their own budgets, and every step from a sound state leaves each with
the inputs in force. A unit radiates no more than it is granted: a carrier of its path, when its amplifier is OK and the
gate is open or the carrier is of class 0, and a rescue carrier only while its voter is not IDLE. That a carried
carrier's kind and channel are read from the Catalogue at the recomputation is the model's reading (assumption 11), and
that a unit goes on radiating while a reset runs is its choice (assumption 8). -/
def Obligations.AllocationsFitTheBudget : Prop :=
  (∀ (budget : Nat) (cands : List Cand), 1000 * cands.length ≤ budget →
    (∀ c ∈ cands, -300 ≤ c.request ∧ c.request ≤ 370 ∧
      c.floor = max (-300) (c.request - (if c.cls = 0 then 0 else if c.cls = 1 then 30 else if c.cls = 2 then 60 else 150))) →
    let a := allocate budget cands
    let without (muted : List CarrierNo) : Nat :=
      ((cands.filter fun c => c.carrier ∉ muted).map fun c => lin c.floor).sum
    (a.grants.map fun g => lin g.2).sum ≤ budget ∧
    (∀ g ∈ a.grants, ∃ c ∈ cands, c.carrier = g.1 ∧ -300 ≤ g.2 ∧ g.2 ≤ c.request) ∧
    ((cands.map fun c => lin c.request).sum ≤ budget →
      a.mute = [] ∧ a.grants = cands.map fun c => (c.carrier, c.request)) ∧
    (budget < (cands.map fun c => lin c.request).sum →
      a.mute <+: mutingOrder cands ∧ (∀ j < a.mute.length, budget < without ((mutingOrder cands).take j)) ∧
      (without a.mute ≤ budget ∨ a.mute = mutingOrder cands)) ∧
    ((cands.map Cand.carrier).Nodup → ∀ c ∈ cands, c.cls = 0 → ∃ g, (c.carrier, g) ∈ a.grants) ∧
    let alive := cands.filter fun c => c.carrier ∉ a.mute
    let total (level : Cand → Int) : Nat := (alive.map fun c => lin (level c)).sum
    let level (k d : Nat) (c : Cand) : Int :=
      if k < c.cls then c.floor else if c.cls = k then max (-300) (c.request - d) else c.request
    let limit (k : Nat) : Nat := if k = 3 then 150 else if k = 2 then 60 else 30
    ((cands.map fun c => lin c.request).sum ≤ budget ↔ a.ending = .fit) ∧
    (budget < (cands.map fun c => lin c.request).sum → without a.mute ≤ budget →
      ∃ k d, a.ending = .backoff k d ∧ 1 ≤ k ∧ k ≤ 3 ∧ d ≤ limit k ∧
        a.grants = alive.map (fun c => (c.carrier, level k d c)) ∧ (∀ d' < d, budget < total (level k d')) ∧
        ∀ k', k < k' → k' ≤ 3 → ∀ d' ≤ limit k', budget < total (level k' d')) ∧
    (budget < without a.mute →
      let lowered (d : Nat) (c : Cand) : Int := max (-300) (c.request - d)
      ∃ d ≤ 670, a.ending = .rescueLimit d ∧ a.grants = alive.map (fun c => (c.carrier, lowered d c)) ∧
        ∀ d' < d, budget < total (lowered d'))) ∧
  (∀ cands : List Cand, (cands.map Cand.carrier).Nodup →
    ∃ order : List Cand, mutingOrder cands = order.map Cand.carrier ∧ order.Perm (cands.filter fun c => 1 ≤ c.cls ∧ c.cls ≤ 3) ∧
      order.Pairwise fun x y => y.cls < x.cls ∨ (x.cls = y.cls ∧ y.carrier < x.carrier)) ∧
  (∀ x y : Int, -300 ≤ x → x < y → y ≤ 370 → lin x < lin y) ∧
  ∀ (s : State) (p : Position),
    let r := posGet s.alloc p
    let onAir (w : Wanted) : Prop := (posGet s.beacons p).amplifier = .ok ∧
      (w.kind = .rescue ∨ s.gateOpen = true) ∧
      (w.kind = .rescue → ∃ ch, w.channel = some ch ∧ s.voters[ch].state ≠ .idle)
    radiated s p ≤ (r.grants.map fun g => lin g.2).sum ∧
    (∀ c g, radiates s p c = some g → (c, g) ∈ r.grants ∧
      ∃ side, (s.unitState p).side = some side ∧ ∃ e ∈ (s.carriage.get ⟨p.ring, side⟩).carried, e.1.carrier = c ∧
        onAir e.1) ∧
    (∀ side, (s.unitState p).side = some side → ∀ e ∈ (s.carriage.get ⟨p.ring, side⟩).carried, onAir e.1 →
      ((s.carriage.get ⟨p.ring, side⟩).carried.map (·.1.carrier)).Nodup → (r.grants.map Prod.fst).Nodup →
      ∀ g, (e.1.carrier, g) ∈ r.grants → radiates s p e.1.carrier = some g) ∧
    (∀ e : AllocEvent,
      let t := allocEvent p e s
      let x := posGet t.alloc p
      let rescues := ∃ ch, e = .rescue ch
      let noticed := ∃ side ch, r.status = .active side ∧ e = .rescue ch ∧
        ∃ w ∈ s.catalogued r.carried, w.kind = .rescue ∧ w.channel = some ch
      let code := match e with
        | .carriage => 0
        | .feed => 1
        | .cls => 2
        | .model => 3
        | .plan => 4
        | .gate => 5
        | .rescue _ => 6
        | .amplifier => 7
      SameBut [.alloc, .events] s t ∧ (∀ q, q ≠ p → posGet t.alloc q = posGet s.alloc q) ∧
      ((¬rescues ∨ noticed) → t = (s.setAlloc p x).postAll (allocReports p code r x)) ∧
      (rescues → ¬noticed → t = s.setAlloc p x) ∧
      x.status = (if e = .feed ∨ e = .amplifier then allocStatus (s.unitState p) (posGet s.beacons p).amplifier
        else r.status) ∧
      x.announced = (if e = .cls then s.announced p else r.announced) ∧
      x.gate = (if e = .gate then s.gateOpen else r.gate) ∧
      x.override = (if e = .plan then s.override else r.override) ∧
      (∀ ch : ChannelNo, x.rescue[ch] = if e = .rescue ch then decide (s.voters[ch].state ≠ .idle) else r.rescue[ch]) ∧
      (∀ side, x.status = .active side → x.carried = if e = .carriage ∨ e = .feed ∨ e = .amplifier
        then (s.carriage.get ⟨p.ring, side⟩).carried.map (fun c => (c.1.carrier, c.1.level)) else r.carried) ∧
      ((¬rescues ∨ noticed) → Allocated t p x) ∧
      (rescues → ¬noticed → x = { r with rescue := x.rescue })) ∧
    ∀ t, step s = .next t → (AllocSound s → AllocSound t) ∧
      (PlansSound s → QueueSound s → RingsSound s → CarriageSound s → AllocFed s → AllocFed t)

/-- R78 to R84: an event at a planner brings its own input and no other, and the record is formed from the inputs then
held: on a non-empty path the entries that the Catalogue holds, in carriage order, of which the first up to the capacity
are carried and the rest shed; on an empty path nothing. Carriage order is rescue by channel, then broadcast and then
mobile by id, whichever the announcement flag. When the carried entries are at most the slots, of different carriers and
rescue channels, and the old map gave different slots, each gets a slot of its own: a rescue carrier that of its
channel, a carrier that had one the same, if it is no higher than the capacity and not held, and each other, in carriage
order, the lowest slot that no carrier holds or keeps and no earlier one was given. The planner's event leaves the
record so formed and posts CARRIER_SHED and CARRIER_RESTORED, and changes nothing else. Every step from a sound state
leaves each record formed from the list, the units, the capacity, the announcements and the Catalogue as they then
stand, so that every change of a feed, a capacity, the plan or the Catalogue has reached its planner; and each carrier
that a step has shed, or but for a reset taken back, is reported (R53, R83, R87). A port in UP fills a slot of its
path's map from the stream its carrier draws on: a rescue carrier from its channel's voter, a broadcast carrier from its
programme, a mobile carrier from its donor lane; an empty slot, and a port that is not UP, carry nothing. At a unit that
hears a player's page, the page takes the place of each programme (R2, R85). The place counted from 1 in CARRIER_SHED is
the model's choice (assumption 13). -/
def Obligations.SlotsAreKeptOrGiven : Prop :=
  (∀ (s : State) (path : SpanPort) (cause : CarriageCause) (joined : List UnitNo),
    let old := s.carriage.get path
    let new := plan s path cause old
    let code := match cause with
      | .plan => 0
      | .feed => 1
      | .capacity => 2
      | .cls => 3
      | .catalogue => 4
    (plannerEvent path cause joined s).1 = (s.setCarriage path new).postAll (shedReports path code old new)) ∧
  (∀ s t : State, step s = .next t → PlansSound s → QueueSound s → RingsSound s → CarriageSound s → CarriageSound t) ∧
  (∀ (c : Instr) (s t : State), exec c s = .next t → PlansSound s → QueueSound s → RingsSound s → CarriageSound s →
    ∀ path,
      let old := s.carriage.get path
      let new := t.carriage.get path
      let report (kind : EventKind) (severity : Severity) (w : Wanted) (fields : List Field) : Prop :=
        ∃ cause, Reports ⟨kind, severity, .carrier w.carrier,
          [.ring path.ring, .named path.side.ctorIdx, .named cause] ++ fields⟩ s t
      (∀ w ∈ new.shed, (∀ v ∈ old.shed, v.carrier ≠ w.carrier) →
        report .carrierShed .warning w
          [.count (new.wanted.findIdx (·.carrier = w.carrier) + 1), .count (new.capacity.getD 0)]) ∧
      (¬Resets c → ∀ w ∈ old.shed, (∀ v ∈ new.shed, v.carrier ≠ w.carrier) →
        (∀ e, new.carried.find? (·.1.carrier = w.carrier) = some e →
          report .carrierRestored .notice w [.named 0, .ident e.2]) ∧
        (new.carried.find? (·.1.carrier = w.carrier) = none → report .carrierRestored .notice w [.named 1]))) ∧
  (∀ (s : State) (path : SpanPort) (cause : CarriageCause) (old : CarriageRec),
    let ring := s.rings.get path.ring
    let x := plan s path cause old
    x.list = (if cause = .plan then s.carriageList path.ring else old.list) ∧
    x.capacity = (if cause = .feed ∨ cause = .capacity then (ring.pathCapacity path.side).map (·.1) else old.capacity) ∧
    (∀ capacity, x.capacity = some capacity →
      x.units = (if cause = .feed then ring.members path.side else old.units) ∧
      x.announcing = (if cause = .feed ∨ cause = .cls then decide (∃ u ∈ x.units, s.announced ⟨path.ring, u⟩ = true)
        else old.announcing) ∧
      x.wanted = carriageOrder (s.catalogued x.list) ∧
      x.carried.map (·.1) = x.wanted.take capacity ∧ x.shed = x.wanted.drop capacity) ∧
    (x.capacity = none →
      x.units = [] ∧ x.announcing = false ∧ x.wanted = [] ∧ x.carried = [] ∧ x.shed = [])) ∧
  (∀ (entries : List Wanted) (flag : Bool), (∀ e ∈ entries, e.kind = .rescue → e.channel ≠ none) →
    let tier (e : Wanted) : Nat := match e.kind with
      | .rescue => 1
      | .broadcast => if flag then 2 else 3
      | .mobile => 4
    let place (e : Wanted) : Nat := if e.kind = .rescue then (e.channel.map Fin.val).getD 0 else e.carrier.val
    (carriageOrder entries).Perm entries ∧
      (carriageOrder entries).Pairwise fun e f => tier e < tier f ∨ (tier e = tier f ∧ place e ≤ place f)) ∧
  (∀ (s : State) (path : SpanPort) (k : Nat), s.causes = [] →
    let carried := (s.carriage.get path).carried
    let fills (x : Option SlotStream) : Prop := slotStream s path k = x
    ((s.spans.get path).isUp = false ∨ (∀ e ∈ carried, e.2 ≠ k) → fills none) ∧
    ∀ e ∈ carried, e.2 = k → (carried.map (·.2)).Nodup → (s.spans.get path).isUp = true →
      ∀ x, s.work.catalogue[e.1.carrier] = some x →
        (∀ ch, x.kind = .rescue → x.channel = some ch → fills (some (.voter ch))) ∧
        (∀ n, x.kind = .broadcast → x.programme = some n → fills (some (.programme n))) ∧
        (x.kind = .mobile → fills (some (.donor x.lane)))) ∧
  (∀ (s : State) (p : Position) (k : Nat), s.causes = [] →
    (s.unitState p ≠ .fedA → s.unitState p ≠ .fedB → slotFill s p k = none) ∧
    ∀ side, s.unitState p = (match side with | .a => .fedA | .b => .fedB) →
      let stream := slotStream s ⟨p.ring, side⟩ k
      (stream = none → slotFill s p k = none) ∧
      (∀ n player, stream = some (.programme n) → inserted s p = .page player → slotFill s p k = some (.page player)) ∧
      ∀ x, stream = some x → (inserted s p = .programme ∨ ∀ n, x ≠ .programme n) → slotFill s p k = some (.stream x)) ∧
  ∀ (old : List (Wanted × Nat)) (capacity : Nat) (carried : List Wanted),
    4 ≤ capacity → carried.length ≤ capacity → (carried.map Wanted.carrier).Nodup →
    (∀ x ∈ carried, ∀ y ∈ carried, x.kind = .rescue → y.kind = .rescue → x.channel = y.channel → x.channel ≠ none →
      x = y) →
    (old.map (·.2)).Nodup → (∀ e ∈ old, 1 ≤ e.2) →
    let new := assignSlots old capacity carried
    let held (k : Nat) : Prop := ∃ w ∈ carried, w.kind = .rescue ∧ ∃ ch, w.channel = some ch ∧ k = ch.val + 1
    let keeps (w : Wanted) (k : Nat) : Prop := ∃ e ∈ old, e.1.carrier = w.carrier ∧ e.2 = k ∧ k ≤ capacity ∧ ¬held k
    let owns (w : Wanted) (k : Nat) : Prop :=
      (w.kind = .rescue ∧ ∃ ch, w.channel = some ch ∧ k = ch.val + 1) ∨
      (¬(w.kind = .rescue ∧ w.channel ≠ none) ∧ keeps w k)
    new.map (·.1) = carried ∧ (new.map (·.2)).Nodup ∧ (∀ e ∈ new, 1 ≤ e.2 ∧ e.2 ≤ capacity) ∧
    (∀ e ∈ new, ∀ ch, e.1.kind = .rescue → e.1.channel = some ch → e.2 = ch.val + 1) ∧
    ((old.map (·.1.carrier)).Nodup →
      (∀ e ∈ new, ∀ k, owns e.1 k → e.2 = k) ∧
      ∀ (i : Nat) (e : Wanted × Nat), new[i]? = some e → (∀ k, ¬owns e.1 k) → ∀ k, 1 ≤ k → k < e.2 →
        ∃ (j : Nat) (f : Wanted × Nat), new[j]? = some f ∧ f.2 = k ∧ (j < i ∨ owns f.1 k)) ∧
    ∀ e ∈ new, ¬(e.1.kind = .rescue ∧ e.1.channel ≠ none) → ∀ w k, (w, k) ∈ old → w.carrier = e.1.carrier →
      (∀ o ∈ old, o.1.carrier = w.carrier → o = (w, k)) → k ≤ capacity → ¬held k → e.2 = k

/-! ### Invariants -/

/-- R1, R9, R13, R124, R144, R147, R148, R163: every step from every state keeps the bounds of the ports, the canonical form
of the clip store, the rules of the tables and the rules of the plan state. -/
def Obligations.StepsKeepTablesAndPlans : Prop :=
  ∀ s t : State, step s = .next t →
    (portsBounded s → portsBounded t) ∧ (memoryCanonical s → memoryCanonical t) ∧
    (TablesSound s → TablesSound t) ∧ (PlansSound s → PlansSound t)

/-- R44 to R51, R54, R56, R130, R134, R137, R139: every step from every state keeps the rings true to the ports, the
tables and the beacons, hop by hop and unit by unit, their fed units in unbroken runs, and their timers running exactly
while a unit waits; and keeps the break-in queue in order and settled, and what is heard within the zones that carry. A
command but a reset, from such a state, decides the units by R51: reachable from neither end UNREACHABLE; from B alone
FED_B; one that was FED_A stays so while it is reachable from A; one that was FED_B is FED_A when it is reachable from A
alone, and from both ends stays FED_B, but where the wait-to-restore timer runs and ends by its expiry, by RING REVERT,
or by a PORT CONFIG whose time it has reached; one that was not fed and is reachable from A is FED_B when a lower unit
is, else FED_A. A timer that starts has the moment of the command, and one that goes on the moment it had. -/
def Obligations.StepsKeepRingsAndQueue : Prop :=
  (∀ s t : State, step s = .next t → (RingsSound s → RingsSound t) ∧ (QueueSound s → QueueSound t)) ∧
  ∀ (c : Instr) (s t : State), exec c s = .next t → ¬Resets c → RingsSound s → ∀ r, Redecided c s t r

/-- The state after reset meets every invariant, and is what the end of a POWER_ON reset leaves of itself. Its pins
are the model's choice (assumption 4). -/
def Obligations.ResetStateIsSound : Prop :=
  portsBounded .reset ∧ memoryCanonical .reset ∧ TablesSound .reset ∧ PlansSound .reset ∧ RingsSound .reset ∧
  QueueSound .reset ∧ AllocSound .reset ∧ AllocFed .reset ∧ CarriageSound .reset ∧ VotersSound .reset ∧
  exec (.resetEnd 0 []) { State.reset with causes := [.powerOn] } = .next .reset

end
end

