-- ==== Sys2Proof/Laws/State.lean ====
section
/-! SUPPORT. What each named update of the state leaves and sets, field by field. -/

namespace Sys2Proof.Machine

open Sys2Proof

/-! ### State.setSpan -/

@[simp] theorem State.setSpan_now (s : State) (p : SpanPort) (x : Span) : (s.setSpan p x).now = s.now := rfl
@[simp] theorem State.setSpan_resetAt (s : State) (p : SpanPort) (x : Span) : (s.setSpan p x).resetAt = s.resetAt := rfl
@[simp] theorem State.setSpan_lastReset (s : State) (p : SpanPort) (x : Span) : (s.setSpan p x).lastReset = s.lastReset := rfl
@[simp] theorem State.setSpan_causes (s : State) (p : SpanPort) (x : Span) : (s.setSpan p x).causes = s.causes := rfl
@[simp] theorem State.setSpan_straps (s : State) (p : SpanPort) (x : Span) : (s.setSpan p x).straps = s.straps := rfl
@[simp] theorem State.setSpan_restarts (s : State) (p : SpanPort) (x : Span) : (s.setSpan p x).restarts = s.restarts := rfl
@[simp] theorem State.setSpan_baseLane (s : State) (p : SpanPort) (x : Span) : (s.setSpan p x).baseLane = s.baseLane := rfl
@[simp] theorem State.setSpan_work (s : State) (p : SpanPort) (x : Span) : (s.setSpan p x).work = s.work := rfl
@[simp] theorem State.setSpan_stored (s : State) (p : SpanPort) (x : Span) : (s.setSpan p x).stored = s.stored := rfl
@[simp] theorem State.setSpan_inFlight (s : State) (p : SpanPort) (x : Span) : (s.setSpan p x).inFlight = s.inFlight := rfl
@[simp] theorem State.setSpan_spans (s : State) (p : SpanPort) (x : Span) : (s.setSpan p x).spans = s.spans.set p x := rfl
@[simp] theorem State.setSpan_beacons (s : State) (p : SpanPort) (x : Span) : (s.setSpan p x).beacons = s.beacons := rfl
@[simp] theorem State.setSpan_rings (s : State) (p : SpanPort) (x : Span) : (s.setSpan p x).rings = s.rings := rfl
@[simp] theorem State.setSpan_reference (s : State) (p : SpanPort) (x : Span) : (s.setSpan p x).reference = s.reference := rfl
@[simp] theorem State.setSpan_carriage (s : State) (p : SpanPort) (x : Span) : (s.setSpan p x).carriage = s.carriage := rfl
@[simp] theorem State.setSpan_alloc (s : State) (p : SpanPort) (x : Span) : (s.setSpan p x).alloc = s.alloc := rfl
@[simp] theorem State.setSpan_voters (s : State) (p : SpanPort) (x : Span) : (s.setSpan p x).voters = s.voters := rfl
@[simp] theorem State.setSpan_breakin (s : State) (p : SpanPort) (x : Span) : (s.setSpan p x).breakin = s.breakin := rfl
@[simp] theorem State.setSpan_plans (s : State) (p : SpanPort) (x : Span) : (s.setSpan p x).plans = s.plans := rfl
@[simp] theorem State.setSpan_contacts (s : State) (p : SpanPort) (x : Span) : (s.setSpan p x).contacts = s.contacts := rfl
@[simp] theorem State.setSpan_mgmt (s : State) (p : SpanPort) (x : Span) : (s.setSpan p x).mgmt = s.mgmt := rfl
@[simp] theorem State.setSpan_watch (s : State) (p : SpanPort) (x : Span) : (s.setSpan p x).watch = s.watch := rfl
@[simp] theorem State.setSpan_choices (s : State) (p : SpanPort) (x : Span) : (s.setSpan p x).choices = s.choices := rfl
@[simp] theorem State.setSpan_pending (s : State) (p : SpanPort) (x : Span) : (s.setSpan p x).pending = s.pending := rfl

/-! ### State.setRing -/

@[simp] theorem State.setRing_now (s : State) (r : Ring) (x : RingRec) : (s.setRing r x).now = s.now := rfl
@[simp] theorem State.setRing_resetAt (s : State) (r : Ring) (x : RingRec) : (s.setRing r x).resetAt = s.resetAt := rfl
@[simp] theorem State.setRing_lastReset (s : State) (r : Ring) (x : RingRec) : (s.setRing r x).lastReset = s.lastReset := rfl
@[simp] theorem State.setRing_causes (s : State) (r : Ring) (x : RingRec) : (s.setRing r x).causes = s.causes := rfl
@[simp] theorem State.setRing_straps (s : State) (r : Ring) (x : RingRec) : (s.setRing r x).straps = s.straps := rfl
@[simp] theorem State.setRing_restarts (s : State) (r : Ring) (x : RingRec) : (s.setRing r x).restarts = s.restarts := rfl
@[simp] theorem State.setRing_baseLane (s : State) (r : Ring) (x : RingRec) : (s.setRing r x).baseLane = s.baseLane := rfl
@[simp] theorem State.setRing_work (s : State) (r : Ring) (x : RingRec) : (s.setRing r x).work = s.work := rfl
@[simp] theorem State.setRing_stored (s : State) (r : Ring) (x : RingRec) : (s.setRing r x).stored = s.stored := rfl
@[simp] theorem State.setRing_inFlight (s : State) (r : Ring) (x : RingRec) : (s.setRing r x).inFlight = s.inFlight := rfl
@[simp] theorem State.setRing_spans (s : State) (r : Ring) (x : RingRec) : (s.setRing r x).spans = s.spans := rfl
@[simp] theorem State.setRing_beacons (s : State) (r : Ring) (x : RingRec) : (s.setRing r x).beacons = s.beacons := rfl
@[simp] theorem State.setRing_rings (s : State) (r : Ring) (x : RingRec) : (s.setRing r x).rings = s.rings.set r x := rfl
@[simp] theorem State.setRing_reference (s : State) (r : Ring) (x : RingRec) : (s.setRing r x).reference = s.reference := rfl
@[simp] theorem State.setRing_carriage (s : State) (r : Ring) (x : RingRec) : (s.setRing r x).carriage = s.carriage := rfl
@[simp] theorem State.setRing_alloc (s : State) (r : Ring) (x : RingRec) : (s.setRing r x).alloc = s.alloc := rfl
@[simp] theorem State.setRing_voters (s : State) (r : Ring) (x : RingRec) : (s.setRing r x).voters = s.voters := rfl
@[simp] theorem State.setRing_breakin (s : State) (r : Ring) (x : RingRec) : (s.setRing r x).breakin = s.breakin := rfl
@[simp] theorem State.setRing_plans (s : State) (r : Ring) (x : RingRec) : (s.setRing r x).plans = s.plans := rfl
@[simp] theorem State.setRing_contacts (s : State) (r : Ring) (x : RingRec) : (s.setRing r x).contacts = s.contacts := rfl
@[simp] theorem State.setRing_mgmt (s : State) (r : Ring) (x : RingRec) : (s.setRing r x).mgmt = s.mgmt := rfl
@[simp] theorem State.setRing_watch (s : State) (r : Ring) (x : RingRec) : (s.setRing r x).watch = s.watch := rfl
@[simp] theorem State.setRing_choices (s : State) (r : Ring) (x : RingRec) : (s.setRing r x).choices = s.choices := rfl
@[simp] theorem State.setRing_pending (s : State) (r : Ring) (x : RingRec) : (s.setRing r x).pending = s.pending := rfl

/-! ### State.setBeacon -/

@[simp] theorem State.setBeacon_now (s : State) (p : Position) (x : BeaconRec) : (s.setBeacon p x).now = s.now := rfl
@[simp] theorem State.setBeacon_resetAt (s : State) (p : Position) (x : BeaconRec) : (s.setBeacon p x).resetAt = s.resetAt := rfl
@[simp] theorem State.setBeacon_lastReset (s : State) (p : Position) (x : BeaconRec) : (s.setBeacon p x).lastReset = s.lastReset := rfl
@[simp] theorem State.setBeacon_causes (s : State) (p : Position) (x : BeaconRec) : (s.setBeacon p x).causes = s.causes := rfl
@[simp] theorem State.setBeacon_straps (s : State) (p : Position) (x : BeaconRec) : (s.setBeacon p x).straps = s.straps := rfl
@[simp] theorem State.setBeacon_restarts (s : State) (p : Position) (x : BeaconRec) : (s.setBeacon p x).restarts = s.restarts := rfl
@[simp] theorem State.setBeacon_baseLane (s : State) (p : Position) (x : BeaconRec) : (s.setBeacon p x).baseLane = s.baseLane := rfl
@[simp] theorem State.setBeacon_work (s : State) (p : Position) (x : BeaconRec) : (s.setBeacon p x).work = s.work := rfl
@[simp] theorem State.setBeacon_stored (s : State) (p : Position) (x : BeaconRec) : (s.setBeacon p x).stored = s.stored := rfl
@[simp] theorem State.setBeacon_inFlight (s : State) (p : Position) (x : BeaconRec) : (s.setBeacon p x).inFlight = s.inFlight := rfl
@[simp] theorem State.setBeacon_spans (s : State) (p : Position) (x : BeaconRec) : (s.setBeacon p x).spans = s.spans := rfl
@[simp] theorem State.setBeacon_beacons (s : State) (p : Position) (x : BeaconRec) : (s.setBeacon p x).beacons = posSet s.beacons p x := rfl
@[simp] theorem State.setBeacon_rings (s : State) (p : Position) (x : BeaconRec) : (s.setBeacon p x).rings = s.rings := rfl
@[simp] theorem State.setBeacon_reference (s : State) (p : Position) (x : BeaconRec) : (s.setBeacon p x).reference = s.reference := rfl
@[simp] theorem State.setBeacon_carriage (s : State) (p : Position) (x : BeaconRec) : (s.setBeacon p x).carriage = s.carriage := rfl
@[simp] theorem State.setBeacon_alloc (s : State) (p : Position) (x : BeaconRec) : (s.setBeacon p x).alloc = s.alloc := rfl
@[simp] theorem State.setBeacon_voters (s : State) (p : Position) (x : BeaconRec) : (s.setBeacon p x).voters = s.voters := rfl
@[simp] theorem State.setBeacon_breakin (s : State) (p : Position) (x : BeaconRec) : (s.setBeacon p x).breakin = s.breakin := rfl
@[simp] theorem State.setBeacon_plans (s : State) (p : Position) (x : BeaconRec) : (s.setBeacon p x).plans = s.plans := rfl
@[simp] theorem State.setBeacon_contacts (s : State) (p : Position) (x : BeaconRec) : (s.setBeacon p x).contacts = s.contacts := rfl
@[simp] theorem State.setBeacon_mgmt (s : State) (p : Position) (x : BeaconRec) : (s.setBeacon p x).mgmt = s.mgmt := rfl
@[simp] theorem State.setBeacon_watch (s : State) (p : Position) (x : BeaconRec) : (s.setBeacon p x).watch = s.watch := rfl
@[simp] theorem State.setBeacon_choices (s : State) (p : Position) (x : BeaconRec) : (s.setBeacon p x).choices = s.choices := rfl
@[simp] theorem State.setBeacon_pending (s : State) (p : Position) (x : BeaconRec) : (s.setBeacon p x).pending = s.pending := rfl

/-! ### State.setCarriage -/

@[simp] theorem State.setCarriage_now (s : State) (p : SpanPort) (x : CarriageRec) : (s.setCarriage p x).now = s.now := rfl
@[simp] theorem State.setCarriage_resetAt (s : State) (p : SpanPort) (x : CarriageRec) : (s.setCarriage p x).resetAt = s.resetAt := rfl
@[simp] theorem State.setCarriage_lastReset (s : State) (p : SpanPort) (x : CarriageRec) : (s.setCarriage p x).lastReset = s.lastReset := rfl
@[simp] theorem State.setCarriage_causes (s : State) (p : SpanPort) (x : CarriageRec) : (s.setCarriage p x).causes = s.causes := rfl
@[simp] theorem State.setCarriage_straps (s : State) (p : SpanPort) (x : CarriageRec) : (s.setCarriage p x).straps = s.straps := rfl
@[simp] theorem State.setCarriage_restarts (s : State) (p : SpanPort) (x : CarriageRec) : (s.setCarriage p x).restarts = s.restarts := rfl
@[simp] theorem State.setCarriage_baseLane (s : State) (p : SpanPort) (x : CarriageRec) : (s.setCarriage p x).baseLane = s.baseLane := rfl
@[simp] theorem State.setCarriage_work (s : State) (p : SpanPort) (x : CarriageRec) : (s.setCarriage p x).work = s.work := rfl
@[simp] theorem State.setCarriage_stored (s : State) (p : SpanPort) (x : CarriageRec) : (s.setCarriage p x).stored = s.stored := rfl
@[simp] theorem State.setCarriage_inFlight (s : State) (p : SpanPort) (x : CarriageRec) : (s.setCarriage p x).inFlight = s.inFlight := rfl
@[simp] theorem State.setCarriage_spans (s : State) (p : SpanPort) (x : CarriageRec) : (s.setCarriage p x).spans = s.spans := rfl
@[simp] theorem State.setCarriage_beacons (s : State) (p : SpanPort) (x : CarriageRec) : (s.setCarriage p x).beacons = s.beacons := rfl
@[simp] theorem State.setCarriage_rings (s : State) (p : SpanPort) (x : CarriageRec) : (s.setCarriage p x).rings = s.rings := rfl
@[simp] theorem State.setCarriage_reference (s : State) (p : SpanPort) (x : CarriageRec) : (s.setCarriage p x).reference = s.reference := rfl
@[simp] theorem State.setCarriage_carriage (s : State) (p : SpanPort) (x : CarriageRec) : (s.setCarriage p x).carriage = s.carriage.set p x := rfl
@[simp] theorem State.setCarriage_alloc (s : State) (p : SpanPort) (x : CarriageRec) : (s.setCarriage p x).alloc = s.alloc := rfl
@[simp] theorem State.setCarriage_voters (s : State) (p : SpanPort) (x : CarriageRec) : (s.setCarriage p x).voters = s.voters := rfl
@[simp] theorem State.setCarriage_breakin (s : State) (p : SpanPort) (x : CarriageRec) : (s.setCarriage p x).breakin = s.breakin := rfl
@[simp] theorem State.setCarriage_plans (s : State) (p : SpanPort) (x : CarriageRec) : (s.setCarriage p x).plans = s.plans := rfl
@[simp] theorem State.setCarriage_contacts (s : State) (p : SpanPort) (x : CarriageRec) : (s.setCarriage p x).contacts = s.contacts := rfl
@[simp] theorem State.setCarriage_mgmt (s : State) (p : SpanPort) (x : CarriageRec) : (s.setCarriage p x).mgmt = s.mgmt := rfl
@[simp] theorem State.setCarriage_watch (s : State) (p : SpanPort) (x : CarriageRec) : (s.setCarriage p x).watch = s.watch := rfl
@[simp] theorem State.setCarriage_choices (s : State) (p : SpanPort) (x : CarriageRec) : (s.setCarriage p x).choices = s.choices := rfl
@[simp] theorem State.setCarriage_pending (s : State) (p : SpanPort) (x : CarriageRec) : (s.setCarriage p x).pending = s.pending := rfl

/-! ### State.setAlloc -/

@[simp] theorem State.setAlloc_now (s : State) (p : Position) (x : AllocRec) : (s.setAlloc p x).now = s.now := rfl
@[simp] theorem State.setAlloc_resetAt (s : State) (p : Position) (x : AllocRec) : (s.setAlloc p x).resetAt = s.resetAt := rfl
@[simp] theorem State.setAlloc_lastReset (s : State) (p : Position) (x : AllocRec) : (s.setAlloc p x).lastReset = s.lastReset := rfl
@[simp] theorem State.setAlloc_causes (s : State) (p : Position) (x : AllocRec) : (s.setAlloc p x).causes = s.causes := rfl
@[simp] theorem State.setAlloc_straps (s : State) (p : Position) (x : AllocRec) : (s.setAlloc p x).straps = s.straps := rfl
@[simp] theorem State.setAlloc_restarts (s : State) (p : Position) (x : AllocRec) : (s.setAlloc p x).restarts = s.restarts := rfl
@[simp] theorem State.setAlloc_baseLane (s : State) (p : Position) (x : AllocRec) : (s.setAlloc p x).baseLane = s.baseLane := rfl
@[simp] theorem State.setAlloc_work (s : State) (p : Position) (x : AllocRec) : (s.setAlloc p x).work = s.work := rfl
@[simp] theorem State.setAlloc_stored (s : State) (p : Position) (x : AllocRec) : (s.setAlloc p x).stored = s.stored := rfl
@[simp] theorem State.setAlloc_inFlight (s : State) (p : Position) (x : AllocRec) : (s.setAlloc p x).inFlight = s.inFlight := rfl
@[simp] theorem State.setAlloc_spans (s : State) (p : Position) (x : AllocRec) : (s.setAlloc p x).spans = s.spans := rfl
@[simp] theorem State.setAlloc_beacons (s : State) (p : Position) (x : AllocRec) : (s.setAlloc p x).beacons = s.beacons := rfl
@[simp] theorem State.setAlloc_rings (s : State) (p : Position) (x : AllocRec) : (s.setAlloc p x).rings = s.rings := rfl
@[simp] theorem State.setAlloc_reference (s : State) (p : Position) (x : AllocRec) : (s.setAlloc p x).reference = s.reference := rfl
@[simp] theorem State.setAlloc_carriage (s : State) (p : Position) (x : AllocRec) : (s.setAlloc p x).carriage = s.carriage := rfl
@[simp] theorem State.setAlloc_alloc (s : State) (p : Position) (x : AllocRec) : (s.setAlloc p x).alloc = posSet s.alloc p x := rfl
@[simp] theorem State.setAlloc_voters (s : State) (p : Position) (x : AllocRec) : (s.setAlloc p x).voters = s.voters := rfl
@[simp] theorem State.setAlloc_breakin (s : State) (p : Position) (x : AllocRec) : (s.setAlloc p x).breakin = s.breakin := rfl
@[simp] theorem State.setAlloc_plans (s : State) (p : Position) (x : AllocRec) : (s.setAlloc p x).plans = s.plans := rfl
@[simp] theorem State.setAlloc_contacts (s : State) (p : Position) (x : AllocRec) : (s.setAlloc p x).contacts = s.contacts := rfl
@[simp] theorem State.setAlloc_mgmt (s : State) (p : Position) (x : AllocRec) : (s.setAlloc p x).mgmt = s.mgmt := rfl
@[simp] theorem State.setAlloc_watch (s : State) (p : Position) (x : AllocRec) : (s.setAlloc p x).watch = s.watch := rfl
@[simp] theorem State.setAlloc_choices (s : State) (p : Position) (x : AllocRec) : (s.setAlloc p x).choices = s.choices := rfl
@[simp] theorem State.setAlloc_pending (s : State) (p : Position) (x : AllocRec) : (s.setAlloc p x).pending = s.pending := rfl

/-! ### State.setVoter -/

@[simp] theorem State.setVoter_now (s : State) (c : ChannelNo) (x : VoterRec) : (s.setVoter c x).now = s.now := rfl
@[simp] theorem State.setVoter_resetAt (s : State) (c : ChannelNo) (x : VoterRec) : (s.setVoter c x).resetAt = s.resetAt := rfl
@[simp] theorem State.setVoter_lastReset (s : State) (c : ChannelNo) (x : VoterRec) : (s.setVoter c x).lastReset = s.lastReset := rfl
@[simp] theorem State.setVoter_causes (s : State) (c : ChannelNo) (x : VoterRec) : (s.setVoter c x).causes = s.causes := rfl
@[simp] theorem State.setVoter_straps (s : State) (c : ChannelNo) (x : VoterRec) : (s.setVoter c x).straps = s.straps := rfl
@[simp] theorem State.setVoter_restarts (s : State) (c : ChannelNo) (x : VoterRec) : (s.setVoter c x).restarts = s.restarts := rfl
@[simp] theorem State.setVoter_baseLane (s : State) (c : ChannelNo) (x : VoterRec) : (s.setVoter c x).baseLane = s.baseLane := rfl
@[simp] theorem State.setVoter_work (s : State) (c : ChannelNo) (x : VoterRec) : (s.setVoter c x).work = s.work := rfl
@[simp] theorem State.setVoter_stored (s : State) (c : ChannelNo) (x : VoterRec) : (s.setVoter c x).stored = s.stored := rfl
@[simp] theorem State.setVoter_inFlight (s : State) (c : ChannelNo) (x : VoterRec) : (s.setVoter c x).inFlight = s.inFlight := rfl
@[simp] theorem State.setVoter_spans (s : State) (c : ChannelNo) (x : VoterRec) : (s.setVoter c x).spans = s.spans := rfl
@[simp] theorem State.setVoter_beacons (s : State) (c : ChannelNo) (x : VoterRec) : (s.setVoter c x).beacons = s.beacons := rfl
@[simp] theorem State.setVoter_rings (s : State) (c : ChannelNo) (x : VoterRec) : (s.setVoter c x).rings = s.rings := rfl
@[simp] theorem State.setVoter_reference (s : State) (c : ChannelNo) (x : VoterRec) : (s.setVoter c x).reference = s.reference := rfl
@[simp] theorem State.setVoter_carriage (s : State) (c : ChannelNo) (x : VoterRec) : (s.setVoter c x).carriage = s.carriage := rfl
@[simp] theorem State.setVoter_alloc (s : State) (c : ChannelNo) (x : VoterRec) : (s.setVoter c x).alloc = s.alloc := rfl
@[simp] theorem State.setVoter_voters (s : State) (c : ChannelNo) (x : VoterRec) : (s.setVoter c x).voters = s.voters.set c x := rfl
@[simp] theorem State.setVoter_breakin (s : State) (c : ChannelNo) (x : VoterRec) : (s.setVoter c x).breakin = s.breakin := rfl
@[simp] theorem State.setVoter_plans (s : State) (c : ChannelNo) (x : VoterRec) : (s.setVoter c x).plans = s.plans := rfl
@[simp] theorem State.setVoter_contacts (s : State) (c : ChannelNo) (x : VoterRec) : (s.setVoter c x).contacts = s.contacts := rfl
@[simp] theorem State.setVoter_mgmt (s : State) (c : ChannelNo) (x : VoterRec) : (s.setVoter c x).mgmt = s.mgmt := rfl
@[simp] theorem State.setVoter_watch (s : State) (c : ChannelNo) (x : VoterRec) : (s.setVoter c x).watch = s.watch := rfl
@[simp] theorem State.setVoter_choices (s : State) (c : ChannelNo) (x : VoterRec) : (s.setVoter c x).choices = s.choices := rfl
@[simp] theorem State.setVoter_pending (s : State) (c : ChannelNo) (x : VoterRec) : (s.setVoter c x).pending = s.pending := rfl

/-! ### State.setContact -/

@[simp] theorem State.setContact_now (s : State) (c : ContactNo) (x : ContactRec) : (s.setContact c x).now = s.now := rfl
@[simp] theorem State.setContact_resetAt (s : State) (c : ContactNo) (x : ContactRec) : (s.setContact c x).resetAt = s.resetAt := rfl
@[simp] theorem State.setContact_lastReset (s : State) (c : ContactNo) (x : ContactRec) : (s.setContact c x).lastReset = s.lastReset := rfl
@[simp] theorem State.setContact_causes (s : State) (c : ContactNo) (x : ContactRec) : (s.setContact c x).causes = s.causes := rfl
@[simp] theorem State.setContact_straps (s : State) (c : ContactNo) (x : ContactRec) : (s.setContact c x).straps = s.straps := rfl
@[simp] theorem State.setContact_restarts (s : State) (c : ContactNo) (x : ContactRec) : (s.setContact c x).restarts = s.restarts := rfl
@[simp] theorem State.setContact_baseLane (s : State) (c : ContactNo) (x : ContactRec) : (s.setContact c x).baseLane = s.baseLane := rfl
@[simp] theorem State.setContact_work (s : State) (c : ContactNo) (x : ContactRec) : (s.setContact c x).work = s.work := rfl
@[simp] theorem State.setContact_stored (s : State) (c : ContactNo) (x : ContactRec) : (s.setContact c x).stored = s.stored := rfl
@[simp] theorem State.setContact_inFlight (s : State) (c : ContactNo) (x : ContactRec) : (s.setContact c x).inFlight = s.inFlight := rfl
@[simp] theorem State.setContact_spans (s : State) (c : ContactNo) (x : ContactRec) : (s.setContact c x).spans = s.spans := rfl
@[simp] theorem State.setContact_beacons (s : State) (c : ContactNo) (x : ContactRec) : (s.setContact c x).beacons = s.beacons := rfl
@[simp] theorem State.setContact_rings (s : State) (c : ContactNo) (x : ContactRec) : (s.setContact c x).rings = s.rings := rfl
@[simp] theorem State.setContact_reference (s : State) (c : ContactNo) (x : ContactRec) : (s.setContact c x).reference = s.reference := rfl
@[simp] theorem State.setContact_carriage (s : State) (c : ContactNo) (x : ContactRec) : (s.setContact c x).carriage = s.carriage := rfl
@[simp] theorem State.setContact_alloc (s : State) (c : ContactNo) (x : ContactRec) : (s.setContact c x).alloc = s.alloc := rfl
@[simp] theorem State.setContact_voters (s : State) (c : ContactNo) (x : ContactRec) : (s.setContact c x).voters = s.voters := rfl
@[simp] theorem State.setContact_breakin (s : State) (c : ContactNo) (x : ContactRec) : (s.setContact c x).breakin = s.breakin := rfl
@[simp] theorem State.setContact_plans (s : State) (c : ContactNo) (x : ContactRec) : (s.setContact c x).plans = s.plans := rfl
@[simp] theorem State.setContact_contacts (s : State) (c : ContactNo) (x : ContactRec) : (s.setContact c x).contacts = s.contacts.set c x := rfl
@[simp] theorem State.setContact_mgmt (s : State) (c : ContactNo) (x : ContactRec) : (s.setContact c x).mgmt = s.mgmt := rfl
@[simp] theorem State.setContact_watch (s : State) (c : ContactNo) (x : ContactRec) : (s.setContact c x).watch = s.watch := rfl
@[simp] theorem State.setContact_choices (s : State) (c : ContactNo) (x : ContactRec) : (s.setContact c x).choices = s.choices := rfl
@[simp] theorem State.setContact_pending (s : State) (c : ContactNo) (x : ContactRec) : (s.setContact c x).pending = s.pending := rfl

/-! ### State.setMgmt -/

@[simp] theorem State.setMgmt_now (s : State) (p : MgmtPort) (x : MgmtRec) : (s.setMgmt p x).now = s.now := rfl
@[simp] theorem State.setMgmt_resetAt (s : State) (p : MgmtPort) (x : MgmtRec) : (s.setMgmt p x).resetAt = s.resetAt := rfl
@[simp] theorem State.setMgmt_lastReset (s : State) (p : MgmtPort) (x : MgmtRec) : (s.setMgmt p x).lastReset = s.lastReset := rfl
@[simp] theorem State.setMgmt_causes (s : State) (p : MgmtPort) (x : MgmtRec) : (s.setMgmt p x).causes = s.causes := rfl
@[simp] theorem State.setMgmt_straps (s : State) (p : MgmtPort) (x : MgmtRec) : (s.setMgmt p x).straps = s.straps := rfl
@[simp] theorem State.setMgmt_restarts (s : State) (p : MgmtPort) (x : MgmtRec) : (s.setMgmt p x).restarts = s.restarts := rfl
@[simp] theorem State.setMgmt_baseLane (s : State) (p : MgmtPort) (x : MgmtRec) : (s.setMgmt p x).baseLane = s.baseLane := rfl
@[simp] theorem State.setMgmt_work (s : State) (p : MgmtPort) (x : MgmtRec) : (s.setMgmt p x).work = s.work := rfl
@[simp] theorem State.setMgmt_stored (s : State) (p : MgmtPort) (x : MgmtRec) : (s.setMgmt p x).stored = s.stored := rfl
@[simp] theorem State.setMgmt_inFlight (s : State) (p : MgmtPort) (x : MgmtRec) : (s.setMgmt p x).inFlight = s.inFlight := rfl
@[simp] theorem State.setMgmt_spans (s : State) (p : MgmtPort) (x : MgmtRec) : (s.setMgmt p x).spans = s.spans := rfl
@[simp] theorem State.setMgmt_beacons (s : State) (p : MgmtPort) (x : MgmtRec) : (s.setMgmt p x).beacons = s.beacons := rfl
@[simp] theorem State.setMgmt_rings (s : State) (p : MgmtPort) (x : MgmtRec) : (s.setMgmt p x).rings = s.rings := rfl
@[simp] theorem State.setMgmt_reference (s : State) (p : MgmtPort) (x : MgmtRec) : (s.setMgmt p x).reference = s.reference := rfl
@[simp] theorem State.setMgmt_carriage (s : State) (p : MgmtPort) (x : MgmtRec) : (s.setMgmt p x).carriage = s.carriage := rfl
@[simp] theorem State.setMgmt_alloc (s : State) (p : MgmtPort) (x : MgmtRec) : (s.setMgmt p x).alloc = s.alloc := rfl
@[simp] theorem State.setMgmt_voters (s : State) (p : MgmtPort) (x : MgmtRec) : (s.setMgmt p x).voters = s.voters := rfl
@[simp] theorem State.setMgmt_breakin (s : State) (p : MgmtPort) (x : MgmtRec) : (s.setMgmt p x).breakin = s.breakin := rfl
@[simp] theorem State.setMgmt_plans (s : State) (p : MgmtPort) (x : MgmtRec) : (s.setMgmt p x).plans = s.plans := rfl
@[simp] theorem State.setMgmt_contacts (s : State) (p : MgmtPort) (x : MgmtRec) : (s.setMgmt p x).contacts = s.contacts := rfl
@[simp] theorem State.setMgmt_mgmt (s : State) (p : MgmtPort) (x : MgmtRec) : (s.setMgmt p x).mgmt = s.mgmt.set p x := rfl
@[simp] theorem State.setMgmt_watch (s : State) (p : MgmtPort) (x : MgmtRec) : (s.setMgmt p x).watch = s.watch := rfl
@[simp] theorem State.setMgmt_choices (s : State) (p : MgmtPort) (x : MgmtRec) : (s.setMgmt p x).choices = s.choices := rfl
@[simp] theorem State.setMgmt_pending (s : State) (p : MgmtPort) (x : MgmtRec) : (s.setMgmt p x).pending = s.pending := rfl

/-! ### State.post -/

@[simp] theorem State.post_now (s : State) (e : Note) : (s.post e).now = s.now := rfl
@[simp] theorem State.post_resetAt (s : State) (e : Note) : (s.post e).resetAt = s.resetAt := rfl
@[simp] theorem State.post_lastReset (s : State) (e : Note) : (s.post e).lastReset = s.lastReset := rfl
@[simp] theorem State.post_causes (s : State) (e : Note) : (s.post e).causes = s.causes := rfl
@[simp] theorem State.post_straps (s : State) (e : Note) : (s.post e).straps = s.straps := rfl
@[simp] theorem State.post_restarts (s : State) (e : Note) : (s.post e).restarts = s.restarts := rfl
@[simp] theorem State.post_baseLane (s : State) (e : Note) : (s.post e).baseLane = s.baseLane := rfl
@[simp] theorem State.post_work (s : State) (e : Note) : (s.post e).work = s.work := rfl
@[simp] theorem State.post_stored (s : State) (e : Note) : (s.post e).stored = s.stored := rfl
@[simp] theorem State.post_inFlight (s : State) (e : Note) : (s.post e).inFlight = s.inFlight := rfl
@[simp] theorem State.post_spans (s : State) (e : Note) : (s.post e).spans = s.spans := rfl
@[simp] theorem State.post_beacons (s : State) (e : Note) : (s.post e).beacons = s.beacons := rfl
@[simp] theorem State.post_rings (s : State) (e : Note) : (s.post e).rings = s.rings := rfl
@[simp] theorem State.post_reference (s : State) (e : Note) : (s.post e).reference = s.reference := rfl
@[simp] theorem State.post_carriage (s : State) (e : Note) : (s.post e).carriage = s.carriage := rfl
@[simp] theorem State.post_alloc (s : State) (e : Note) : (s.post e).alloc = s.alloc := rfl
@[simp] theorem State.post_voters (s : State) (e : Note) : (s.post e).voters = s.voters := rfl
@[simp] theorem State.post_breakin (s : State) (e : Note) : (s.post e).breakin = s.breakin := rfl
@[simp] theorem State.post_plans (s : State) (e : Note) : (s.post e).plans = s.plans := rfl
@[simp] theorem State.post_contacts (s : State) (e : Note) : (s.post e).contacts = s.contacts := rfl
@[simp] theorem State.post_watch (s : State) (e : Note) : (s.post e).watch = s.watch := rfl
@[simp] theorem State.post_choices (s : State) (e : Note) : (s.post e).choices = s.choices := rfl
@[simp] theorem State.post_pending (s : State) (e : Note) : (s.post e).pending = s.pending := rfl

/-! ### State.setCatalogue -/

@[simp] theorem State.setCatalogue_now (s : State) (t : Vector (Option Carrier) 24) : (s.setCatalogue t).now = s.now := rfl
@[simp] theorem State.setCatalogue_resetAt (s : State) (t : Vector (Option Carrier) 24) : (s.setCatalogue t).resetAt = s.resetAt := rfl
@[simp] theorem State.setCatalogue_lastReset (s : State) (t : Vector (Option Carrier) 24) : (s.setCatalogue t).lastReset = s.lastReset := rfl
@[simp] theorem State.setCatalogue_causes (s : State) (t : Vector (Option Carrier) 24) : (s.setCatalogue t).causes = s.causes := rfl
@[simp] theorem State.setCatalogue_straps (s : State) (t : Vector (Option Carrier) 24) : (s.setCatalogue t).straps = s.straps := rfl
@[simp] theorem State.setCatalogue_restarts (s : State) (t : Vector (Option Carrier) 24) : (s.setCatalogue t).restarts = s.restarts := rfl
@[simp] theorem State.setCatalogue_baseLane (s : State) (t : Vector (Option Carrier) 24) : (s.setCatalogue t).baseLane = s.baseLane := rfl
@[simp] theorem State.setCatalogue_stored (s : State) (t : Vector (Option Carrier) 24) : (s.setCatalogue t).stored = s.stored := rfl
@[simp] theorem State.setCatalogue_inFlight (s : State) (t : Vector (Option Carrier) 24) : (s.setCatalogue t).inFlight = s.inFlight := rfl
@[simp] theorem State.setCatalogue_spans (s : State) (t : Vector (Option Carrier) 24) : (s.setCatalogue t).spans = s.spans := rfl
@[simp] theorem State.setCatalogue_beacons (s : State) (t : Vector (Option Carrier) 24) : (s.setCatalogue t).beacons = s.beacons := rfl
@[simp] theorem State.setCatalogue_rings (s : State) (t : Vector (Option Carrier) 24) : (s.setCatalogue t).rings = s.rings := rfl
@[simp] theorem State.setCatalogue_reference (s : State) (t : Vector (Option Carrier) 24) : (s.setCatalogue t).reference = s.reference := rfl
@[simp] theorem State.setCatalogue_carriage (s : State) (t : Vector (Option Carrier) 24) : (s.setCatalogue t).carriage = s.carriage := rfl
@[simp] theorem State.setCatalogue_alloc (s : State) (t : Vector (Option Carrier) 24) : (s.setCatalogue t).alloc = s.alloc := rfl
@[simp] theorem State.setCatalogue_voters (s : State) (t : Vector (Option Carrier) 24) : (s.setCatalogue t).voters = s.voters := rfl
@[simp] theorem State.setCatalogue_breakin (s : State) (t : Vector (Option Carrier) 24) : (s.setCatalogue t).breakin = s.breakin := rfl
@[simp] theorem State.setCatalogue_plans (s : State) (t : Vector (Option Carrier) 24) : (s.setCatalogue t).plans = s.plans := rfl
@[simp] theorem State.setCatalogue_contacts (s : State) (t : Vector (Option Carrier) 24) : (s.setCatalogue t).contacts = s.contacts := rfl
@[simp] theorem State.setCatalogue_mgmt (s : State) (t : Vector (Option Carrier) 24) : (s.setCatalogue t).mgmt = s.mgmt := rfl
@[simp] theorem State.setCatalogue_watch (s : State) (t : Vector (Option Carrier) 24) : (s.setCatalogue t).watch = s.watch := rfl
@[simp] theorem State.setCatalogue_choices (s : State) (t : Vector (Option Carrier) 24) : (s.setCatalogue t).choices = s.choices := rfl
@[simp] theorem State.setCatalogue_pending (s : State) (t : Vector (Option Carrier) 24) : (s.setCatalogue t).pending = s.pending := rfl

/-! ### State.setUnit -/

@[simp] theorem State.setUnit_now (s : State) (p : Position) (x : RuRecord) : (s.setUnit p x).now = s.now := rfl
@[simp] theorem State.setUnit_resetAt (s : State) (p : Position) (x : RuRecord) : (s.setUnit p x).resetAt = s.resetAt := rfl
@[simp] theorem State.setUnit_lastReset (s : State) (p : Position) (x : RuRecord) : (s.setUnit p x).lastReset = s.lastReset := rfl
@[simp] theorem State.setUnit_causes (s : State) (p : Position) (x : RuRecord) : (s.setUnit p x).causes = s.causes := rfl
@[simp] theorem State.setUnit_straps (s : State) (p : Position) (x : RuRecord) : (s.setUnit p x).straps = s.straps := rfl
@[simp] theorem State.setUnit_restarts (s : State) (p : Position) (x : RuRecord) : (s.setUnit p x).restarts = s.restarts := rfl
@[simp] theorem State.setUnit_baseLane (s : State) (p : Position) (x : RuRecord) : (s.setUnit p x).baseLane = s.baseLane := rfl
@[simp] theorem State.setUnit_stored (s : State) (p : Position) (x : RuRecord) : (s.setUnit p x).stored = s.stored := rfl
@[simp] theorem State.setUnit_inFlight (s : State) (p : Position) (x : RuRecord) : (s.setUnit p x).inFlight = s.inFlight := rfl
@[simp] theorem State.setUnit_spans (s : State) (p : Position) (x : RuRecord) : (s.setUnit p x).spans = s.spans := rfl
@[simp] theorem State.setUnit_beacons (s : State) (p : Position) (x : RuRecord) : (s.setUnit p x).beacons = s.beacons := rfl
@[simp] theorem State.setUnit_rings (s : State) (p : Position) (x : RuRecord) : (s.setUnit p x).rings = s.rings := rfl
@[simp] theorem State.setUnit_reference (s : State) (p : Position) (x : RuRecord) : (s.setUnit p x).reference = s.reference := rfl
@[simp] theorem State.setUnit_carriage (s : State) (p : Position) (x : RuRecord) : (s.setUnit p x).carriage = s.carriage := rfl
@[simp] theorem State.setUnit_alloc (s : State) (p : Position) (x : RuRecord) : (s.setUnit p x).alloc = s.alloc := rfl
@[simp] theorem State.setUnit_voters (s : State) (p : Position) (x : RuRecord) : (s.setUnit p x).voters = s.voters := rfl
@[simp] theorem State.setUnit_breakin (s : State) (p : Position) (x : RuRecord) : (s.setUnit p x).breakin = s.breakin := rfl
@[simp] theorem State.setUnit_plans (s : State) (p : Position) (x : RuRecord) : (s.setUnit p x).plans = s.plans := rfl
@[simp] theorem State.setUnit_contacts (s : State) (p : Position) (x : RuRecord) : (s.setUnit p x).contacts = s.contacts := rfl
@[simp] theorem State.setUnit_mgmt (s : State) (p : Position) (x : RuRecord) : (s.setUnit p x).mgmt = s.mgmt := rfl
@[simp] theorem State.setUnit_watch (s : State) (p : Position) (x : RuRecord) : (s.setUnit p x).watch = s.watch := rfl
@[simp] theorem State.setUnit_choices (s : State) (p : Position) (x : RuRecord) : (s.setUnit p x).choices = s.choices := rfl
@[simp] theorem State.setUnit_pending (s : State) (p : Position) (x : RuRecord) : (s.setUnit p x).pending = s.pending := rfl

/-! ### State.setSettings -/

@[simp] theorem State.setSettings_now (s : State) (r : Ring) (x : RingSettings) : (s.setSettings r x).now = s.now := rfl
@[simp] theorem State.setSettings_resetAt (s : State) (r : Ring) (x : RingSettings) : (s.setSettings r x).resetAt = s.resetAt := rfl
@[simp] theorem State.setSettings_lastReset (s : State) (r : Ring) (x : RingSettings) : (s.setSettings r x).lastReset = s.lastReset := rfl
@[simp] theorem State.setSettings_causes (s : State) (r : Ring) (x : RingSettings) : (s.setSettings r x).causes = s.causes := rfl
@[simp] theorem State.setSettings_straps (s : State) (r : Ring) (x : RingSettings) : (s.setSettings r x).straps = s.straps := rfl
@[simp] theorem State.setSettings_restarts (s : State) (r : Ring) (x : RingSettings) : (s.setSettings r x).restarts = s.restarts := rfl
@[simp] theorem State.setSettings_baseLane (s : State) (r : Ring) (x : RingSettings) : (s.setSettings r x).baseLane = s.baseLane := rfl
@[simp] theorem State.setSettings_stored (s : State) (r : Ring) (x : RingSettings) : (s.setSettings r x).stored = s.stored := rfl
@[simp] theorem State.setSettings_inFlight (s : State) (r : Ring) (x : RingSettings) : (s.setSettings r x).inFlight = s.inFlight := rfl
@[simp] theorem State.setSettings_spans (s : State) (r : Ring) (x : RingSettings) : (s.setSettings r x).spans = s.spans := rfl
@[simp] theorem State.setSettings_beacons (s : State) (r : Ring) (x : RingSettings) : (s.setSettings r x).beacons = s.beacons := rfl
@[simp] theorem State.setSettings_rings (s : State) (r : Ring) (x : RingSettings) : (s.setSettings r x).rings = s.rings := rfl
@[simp] theorem State.setSettings_reference (s : State) (r : Ring) (x : RingSettings) : (s.setSettings r x).reference = s.reference := rfl
@[simp] theorem State.setSettings_carriage (s : State) (r : Ring) (x : RingSettings) : (s.setSettings r x).carriage = s.carriage := rfl
@[simp] theorem State.setSettings_alloc (s : State) (r : Ring) (x : RingSettings) : (s.setSettings r x).alloc = s.alloc := rfl
@[simp] theorem State.setSettings_voters (s : State) (r : Ring) (x : RingSettings) : (s.setSettings r x).voters = s.voters := rfl
@[simp] theorem State.setSettings_breakin (s : State) (r : Ring) (x : RingSettings) : (s.setSettings r x).breakin = s.breakin := rfl
@[simp] theorem State.setSettings_plans (s : State) (r : Ring) (x : RingSettings) : (s.setSettings r x).plans = s.plans := rfl
@[simp] theorem State.setSettings_contacts (s : State) (r : Ring) (x : RingSettings) : (s.setSettings r x).contacts = s.contacts := rfl
@[simp] theorem State.setSettings_mgmt (s : State) (r : Ring) (x : RingSettings) : (s.setSettings r x).mgmt = s.mgmt := rfl
@[simp] theorem State.setSettings_watch (s : State) (r : Ring) (x : RingSettings) : (s.setSettings r x).watch = s.watch := rfl
@[simp] theorem State.setSettings_choices (s : State) (r : Ring) (x : RingSettings) : (s.setSettings r x).choices = s.choices := rfl
@[simp] theorem State.setSettings_pending (s : State) (r : Ring) (x : RingSettings) : (s.setSettings r x).pending = s.pending := rfl

/-! ### State.setClip -/

@[simp] theorem State.setClip_now (s : State) (c : ClipNo) (x : Clip) : (s.setClip c x).now = s.now := rfl
@[simp] theorem State.setClip_resetAt (s : State) (c : ClipNo) (x : Clip) : (s.setClip c x).resetAt = s.resetAt := rfl
@[simp] theorem State.setClip_lastReset (s : State) (c : ClipNo) (x : Clip) : (s.setClip c x).lastReset = s.lastReset := rfl
@[simp] theorem State.setClip_causes (s : State) (c : ClipNo) (x : Clip) : (s.setClip c x).causes = s.causes := rfl
@[simp] theorem State.setClip_straps (s : State) (c : ClipNo) (x : Clip) : (s.setClip c x).straps = s.straps := rfl
@[simp] theorem State.setClip_restarts (s : State) (c : ClipNo) (x : Clip) : (s.setClip c x).restarts = s.restarts := rfl
@[simp] theorem State.setClip_baseLane (s : State) (c : ClipNo) (x : Clip) : (s.setClip c x).baseLane = s.baseLane := rfl
@[simp] theorem State.setClip_stored (s : State) (c : ClipNo) (x : Clip) : (s.setClip c x).stored = s.stored := rfl
@[simp] theorem State.setClip_inFlight (s : State) (c : ClipNo) (x : Clip) : (s.setClip c x).inFlight = s.inFlight := rfl
@[simp] theorem State.setClip_spans (s : State) (c : ClipNo) (x : Clip) : (s.setClip c x).spans = s.spans := rfl
@[simp] theorem State.setClip_beacons (s : State) (c : ClipNo) (x : Clip) : (s.setClip c x).beacons = s.beacons := rfl
@[simp] theorem State.setClip_rings (s : State) (c : ClipNo) (x : Clip) : (s.setClip c x).rings = s.rings := rfl
@[simp] theorem State.setClip_reference (s : State) (c : ClipNo) (x : Clip) : (s.setClip c x).reference = s.reference := rfl
@[simp] theorem State.setClip_carriage (s : State) (c : ClipNo) (x : Clip) : (s.setClip c x).carriage = s.carriage := rfl
@[simp] theorem State.setClip_alloc (s : State) (c : ClipNo) (x : Clip) : (s.setClip c x).alloc = s.alloc := rfl
@[simp] theorem State.setClip_voters (s : State) (c : ClipNo) (x : Clip) : (s.setClip c x).voters = s.voters := rfl
@[simp] theorem State.setClip_breakin (s : State) (c : ClipNo) (x : Clip) : (s.setClip c x).breakin = s.breakin := rfl
@[simp] theorem State.setClip_plans (s : State) (c : ClipNo) (x : Clip) : (s.setClip c x).plans = s.plans := rfl
@[simp] theorem State.setClip_contacts (s : State) (c : ClipNo) (x : Clip) : (s.setClip c x).contacts = s.contacts := rfl
@[simp] theorem State.setClip_mgmt (s : State) (c : ClipNo) (x : Clip) : (s.setClip c x).mgmt = s.mgmt := rfl
@[simp] theorem State.setClip_watch (s : State) (c : ClipNo) (x : Clip) : (s.setClip c x).watch = s.watch := rfl
@[simp] theorem State.setClip_choices (s : State) (c : ClipNo) (x : Clip) : (s.setClip c x).choices = s.choices := rfl
@[simp] theorem State.setClip_pending (s : State) (c : ClipNo) (x : Clip) : (s.setClip c x).pending = s.pending := rfl

/-! ### State.setPlan -/

@[simp] theorem State.setPlan_now (s : State) (p : PlanNo) (x : Option PlanRecord) : (s.setPlan p x).now = s.now := rfl
@[simp] theorem State.setPlan_resetAt (s : State) (p : PlanNo) (x : Option PlanRecord) : (s.setPlan p x).resetAt = s.resetAt := rfl
@[simp] theorem State.setPlan_lastReset (s : State) (p : PlanNo) (x : Option PlanRecord) : (s.setPlan p x).lastReset = s.lastReset := rfl
@[simp] theorem State.setPlan_causes (s : State) (p : PlanNo) (x : Option PlanRecord) : (s.setPlan p x).causes = s.causes := rfl
@[simp] theorem State.setPlan_straps (s : State) (p : PlanNo) (x : Option PlanRecord) : (s.setPlan p x).straps = s.straps := rfl
@[simp] theorem State.setPlan_restarts (s : State) (p : PlanNo) (x : Option PlanRecord) : (s.setPlan p x).restarts = s.restarts := rfl
@[simp] theorem State.setPlan_baseLane (s : State) (p : PlanNo) (x : Option PlanRecord) : (s.setPlan p x).baseLane = s.baseLane := rfl
@[simp] theorem State.setPlan_stored (s : State) (p : PlanNo) (x : Option PlanRecord) : (s.setPlan p x).stored = s.stored := rfl
@[simp] theorem State.setPlan_inFlight (s : State) (p : PlanNo) (x : Option PlanRecord) : (s.setPlan p x).inFlight = s.inFlight := rfl
@[simp] theorem State.setPlan_spans (s : State) (p : PlanNo) (x : Option PlanRecord) : (s.setPlan p x).spans = s.spans := rfl
@[simp] theorem State.setPlan_beacons (s : State) (p : PlanNo) (x : Option PlanRecord) : (s.setPlan p x).beacons = s.beacons := rfl
@[simp] theorem State.setPlan_rings (s : State) (p : PlanNo) (x : Option PlanRecord) : (s.setPlan p x).rings = s.rings := rfl
@[simp] theorem State.setPlan_reference (s : State) (p : PlanNo) (x : Option PlanRecord) : (s.setPlan p x).reference = s.reference := rfl
@[simp] theorem State.setPlan_carriage (s : State) (p : PlanNo) (x : Option PlanRecord) : (s.setPlan p x).carriage = s.carriage := rfl
@[simp] theorem State.setPlan_alloc (s : State) (p : PlanNo) (x : Option PlanRecord) : (s.setPlan p x).alloc = s.alloc := rfl
@[simp] theorem State.setPlan_voters (s : State) (p : PlanNo) (x : Option PlanRecord) : (s.setPlan p x).voters = s.voters := rfl
@[simp] theorem State.setPlan_breakin (s : State) (p : PlanNo) (x : Option PlanRecord) : (s.setPlan p x).breakin = s.breakin := rfl
@[simp] theorem State.setPlan_plans (s : State) (p : PlanNo) (x : Option PlanRecord) : (s.setPlan p x).plans = s.plans := rfl
@[simp] theorem State.setPlan_contacts (s : State) (p : PlanNo) (x : Option PlanRecord) : (s.setPlan p x).contacts = s.contacts := rfl
@[simp] theorem State.setPlan_mgmt (s : State) (p : PlanNo) (x : Option PlanRecord) : (s.setPlan p x).mgmt = s.mgmt := rfl
@[simp] theorem State.setPlan_watch (s : State) (p : PlanNo) (x : Option PlanRecord) : (s.setPlan p x).watch = s.watch := rfl
@[simp] theorem State.setPlan_choices (s : State) (p : PlanNo) (x : Option PlanRecord) : (s.setPlan p x).choices = s.choices := rfl
@[simp] theorem State.setPlan_pending (s : State) (p : PlanNo) (x : Option PlanRecord) : (s.setPlan p x).pending = s.pending := rfl

/-! ### State.setTrigger -/

@[simp] theorem State.setTrigger_now (s : State) (t : TriggerNo) (x : Trigger) : (s.setTrigger t x).now = s.now := rfl
@[simp] theorem State.setTrigger_resetAt (s : State) (t : TriggerNo) (x : Trigger) : (s.setTrigger t x).resetAt = s.resetAt := rfl
@[simp] theorem State.setTrigger_lastReset (s : State) (t : TriggerNo) (x : Trigger) : (s.setTrigger t x).lastReset = s.lastReset := rfl
@[simp] theorem State.setTrigger_causes (s : State) (t : TriggerNo) (x : Trigger) : (s.setTrigger t x).causes = s.causes := rfl
@[simp] theorem State.setTrigger_straps (s : State) (t : TriggerNo) (x : Trigger) : (s.setTrigger t x).straps = s.straps := rfl
@[simp] theorem State.setTrigger_restarts (s : State) (t : TriggerNo) (x : Trigger) : (s.setTrigger t x).restarts = s.restarts := rfl
@[simp] theorem State.setTrigger_baseLane (s : State) (t : TriggerNo) (x : Trigger) : (s.setTrigger t x).baseLane = s.baseLane := rfl
@[simp] theorem State.setTrigger_stored (s : State) (t : TriggerNo) (x : Trigger) : (s.setTrigger t x).stored = s.stored := rfl
@[simp] theorem State.setTrigger_inFlight (s : State) (t : TriggerNo) (x : Trigger) : (s.setTrigger t x).inFlight = s.inFlight := rfl
@[simp] theorem State.setTrigger_spans (s : State) (t : TriggerNo) (x : Trigger) : (s.setTrigger t x).spans = s.spans := rfl
@[simp] theorem State.setTrigger_beacons (s : State) (t : TriggerNo) (x : Trigger) : (s.setTrigger t x).beacons = s.beacons := rfl
@[simp] theorem State.setTrigger_rings (s : State) (t : TriggerNo) (x : Trigger) : (s.setTrigger t x).rings = s.rings := rfl
@[simp] theorem State.setTrigger_reference (s : State) (t : TriggerNo) (x : Trigger) : (s.setTrigger t x).reference = s.reference := rfl
@[simp] theorem State.setTrigger_carriage (s : State) (t : TriggerNo) (x : Trigger) : (s.setTrigger t x).carriage = s.carriage := rfl
@[simp] theorem State.setTrigger_alloc (s : State) (t : TriggerNo) (x : Trigger) : (s.setTrigger t x).alloc = s.alloc := rfl
@[simp] theorem State.setTrigger_voters (s : State) (t : TriggerNo) (x : Trigger) : (s.setTrigger t x).voters = s.voters := rfl
@[simp] theorem State.setTrigger_breakin (s : State) (t : TriggerNo) (x : Trigger) : (s.setTrigger t x).breakin = s.breakin := rfl
@[simp] theorem State.setTrigger_plans (s : State) (t : TriggerNo) (x : Trigger) : (s.setTrigger t x).plans = s.plans := rfl
@[simp] theorem State.setTrigger_contacts (s : State) (t : TriggerNo) (x : Trigger) : (s.setTrigger t x).contacts = s.contacts := rfl
@[simp] theorem State.setTrigger_mgmt (s : State) (t : TriggerNo) (x : Trigger) : (s.setTrigger t x).mgmt = s.mgmt := rfl
@[simp] theorem State.setTrigger_watch (s : State) (t : TriggerNo) (x : Trigger) : (s.setTrigger t x).watch = s.watch := rfl
@[simp] theorem State.setTrigger_choices (s : State) (t : TriggerNo) (x : Trigger) : (s.setTrigger t x).choices = s.choices := rfl
@[simp] theorem State.setTrigger_pending (s : State) (t : TriggerNo) (x : Trigger) : (s.setTrigger t x).pending = s.pending := rfl

/-! ### State.setContactEntry -/

@[simp] theorem State.setContactEntry_now (s : State) (c : ContactNo) (x : ContactEntry) : (s.setContactEntry c x).now = s.now := rfl
@[simp] theorem State.setContactEntry_resetAt (s : State) (c : ContactNo) (x : ContactEntry) : (s.setContactEntry c x).resetAt = s.resetAt := rfl
@[simp] theorem State.setContactEntry_lastReset (s : State) (c : ContactNo) (x : ContactEntry) : (s.setContactEntry c x).lastReset = s.lastReset := rfl
@[simp] theorem State.setContactEntry_causes (s : State) (c : ContactNo) (x : ContactEntry) : (s.setContactEntry c x).causes = s.causes := rfl
@[simp] theorem State.setContactEntry_straps (s : State) (c : ContactNo) (x : ContactEntry) : (s.setContactEntry c x).straps = s.straps := rfl
@[simp] theorem State.setContactEntry_restarts (s : State) (c : ContactNo) (x : ContactEntry) : (s.setContactEntry c x).restarts = s.restarts := rfl
@[simp] theorem State.setContactEntry_baseLane (s : State) (c : ContactNo) (x : ContactEntry) : (s.setContactEntry c x).baseLane = s.baseLane := rfl
@[simp] theorem State.setContactEntry_stored (s : State) (c : ContactNo) (x : ContactEntry) : (s.setContactEntry c x).stored = s.stored := rfl
@[simp] theorem State.setContactEntry_inFlight (s : State) (c : ContactNo) (x : ContactEntry) : (s.setContactEntry c x).inFlight = s.inFlight := rfl
@[simp] theorem State.setContactEntry_spans (s : State) (c : ContactNo) (x : ContactEntry) : (s.setContactEntry c x).spans = s.spans := rfl
@[simp] theorem State.setContactEntry_beacons (s : State) (c : ContactNo) (x : ContactEntry) : (s.setContactEntry c x).beacons = s.beacons := rfl
@[simp] theorem State.setContactEntry_rings (s : State) (c : ContactNo) (x : ContactEntry) : (s.setContactEntry c x).rings = s.rings := rfl
@[simp] theorem State.setContactEntry_reference (s : State) (c : ContactNo) (x : ContactEntry) : (s.setContactEntry c x).reference = s.reference := rfl
@[simp] theorem State.setContactEntry_carriage (s : State) (c : ContactNo) (x : ContactEntry) : (s.setContactEntry c x).carriage = s.carriage := rfl
@[simp] theorem State.setContactEntry_alloc (s : State) (c : ContactNo) (x : ContactEntry) : (s.setContactEntry c x).alloc = s.alloc := rfl
@[simp] theorem State.setContactEntry_voters (s : State) (c : ContactNo) (x : ContactEntry) : (s.setContactEntry c x).voters = s.voters := rfl
@[simp] theorem State.setContactEntry_breakin (s : State) (c : ContactNo) (x : ContactEntry) : (s.setContactEntry c x).breakin = s.breakin := rfl
@[simp] theorem State.setContactEntry_plans (s : State) (c : ContactNo) (x : ContactEntry) : (s.setContactEntry c x).plans = s.plans := rfl
@[simp] theorem State.setContactEntry_contacts (s : State) (c : ContactNo) (x : ContactEntry) : (s.setContactEntry c x).contacts = s.contacts := rfl
@[simp] theorem State.setContactEntry_mgmt (s : State) (c : ContactNo) (x : ContactEntry) : (s.setContactEntry c x).mgmt = s.mgmt := rfl
@[simp] theorem State.setContactEntry_watch (s : State) (c : ContactNo) (x : ContactEntry) : (s.setContactEntry c x).watch = s.watch := rfl
@[simp] theorem State.setContactEntry_choices (s : State) (c : ContactNo) (x : ContactEntry) : (s.setContactEntry c x).choices = s.choices := rfl
@[simp] theorem State.setContactEntry_pending (s : State) (c : ContactNo) (x : ContactEntry) : (s.setContactEntry c x).pending = s.pending := rfl

/-! ### State.setVoterSettings -/

@[simp] theorem State.setVoterSettings_now (s : State) (c : ChannelNo) (x : VoterSettings) : (s.setVoterSettings c x).now = s.now := rfl
@[simp] theorem State.setVoterSettings_resetAt (s : State) (c : ChannelNo) (x : VoterSettings) : (s.setVoterSettings c x).resetAt = s.resetAt := rfl
@[simp] theorem State.setVoterSettings_lastReset (s : State) (c : ChannelNo) (x : VoterSettings) : (s.setVoterSettings c x).lastReset = s.lastReset := rfl
@[simp] theorem State.setVoterSettings_causes (s : State) (c : ChannelNo) (x : VoterSettings) : (s.setVoterSettings c x).causes = s.causes := rfl
@[simp] theorem State.setVoterSettings_straps (s : State) (c : ChannelNo) (x : VoterSettings) : (s.setVoterSettings c x).straps = s.straps := rfl
@[simp] theorem State.setVoterSettings_restarts (s : State) (c : ChannelNo) (x : VoterSettings) : (s.setVoterSettings c x).restarts = s.restarts := rfl
@[simp] theorem State.setVoterSettings_baseLane (s : State) (c : ChannelNo) (x : VoterSettings) : (s.setVoterSettings c x).baseLane = s.baseLane := rfl
@[simp] theorem State.setVoterSettings_stored (s : State) (c : ChannelNo) (x : VoterSettings) : (s.setVoterSettings c x).stored = s.stored := rfl
@[simp] theorem State.setVoterSettings_inFlight (s : State) (c : ChannelNo) (x : VoterSettings) : (s.setVoterSettings c x).inFlight = s.inFlight := rfl
@[simp] theorem State.setVoterSettings_spans (s : State) (c : ChannelNo) (x : VoterSettings) : (s.setVoterSettings c x).spans = s.spans := rfl
@[simp] theorem State.setVoterSettings_beacons (s : State) (c : ChannelNo) (x : VoterSettings) : (s.setVoterSettings c x).beacons = s.beacons := rfl
@[simp] theorem State.setVoterSettings_rings (s : State) (c : ChannelNo) (x : VoterSettings) : (s.setVoterSettings c x).rings = s.rings := rfl
@[simp] theorem State.setVoterSettings_reference (s : State) (c : ChannelNo) (x : VoterSettings) : (s.setVoterSettings c x).reference = s.reference := rfl
@[simp] theorem State.setVoterSettings_carriage (s : State) (c : ChannelNo) (x : VoterSettings) : (s.setVoterSettings c x).carriage = s.carriage := rfl
@[simp] theorem State.setVoterSettings_alloc (s : State) (c : ChannelNo) (x : VoterSettings) : (s.setVoterSettings c x).alloc = s.alloc := rfl
@[simp] theorem State.setVoterSettings_voters (s : State) (c : ChannelNo) (x : VoterSettings) : (s.setVoterSettings c x).voters = s.voters := rfl
@[simp] theorem State.setVoterSettings_breakin (s : State) (c : ChannelNo) (x : VoterSettings) : (s.setVoterSettings c x).breakin = s.breakin := rfl
@[simp] theorem State.setVoterSettings_plans (s : State) (c : ChannelNo) (x : VoterSettings) : (s.setVoterSettings c x).plans = s.plans := rfl
@[simp] theorem State.setVoterSettings_contacts (s : State) (c : ChannelNo) (x : VoterSettings) : (s.setVoterSettings c x).contacts = s.contacts := rfl
@[simp] theorem State.setVoterSettings_mgmt (s : State) (c : ChannelNo) (x : VoterSettings) : (s.setVoterSettings c x).mgmt = s.mgmt := rfl
@[simp] theorem State.setVoterSettings_watch (s : State) (c : ChannelNo) (x : VoterSettings) : (s.setVoterSettings c x).watch = s.watch := rfl
@[simp] theorem State.setVoterSettings_choices (s : State) (c : ChannelNo) (x : VoterSettings) : (s.setVoterSettings c x).choices = s.choices := rfl
@[simp] theorem State.setVoterSettings_pending (s : State) (c : ChannelNo) (x : VoterSettings) : (s.setVoterSettings c x).pending = s.pending := rfl

/-! ### State.postAll -/

@[simp] theorem State.postAll_nil (s : State) : s.postAll [] = s := rfl

@[simp] theorem State.postAll_cons (s : State) (e : Note) (es : List Note) :
    s.postAll (e :: es) = (s.post e).postAll es := rfl

/-- Posting changes the event queues alone. -/
theorem State.postAll_eq (s : State) (es : List Note) : s.postAll es = { s with mgmt := (s.postAll es).mgmt } := by
  induction es generalizing s with
  | nil => rfl
  | cons e es ih => exact ih (s.post e)

@[simp] theorem State.postAll_now (s : State) (es : List Note) : (s.postAll es).now = s.now := by
  rw [State.postAll_eq]
@[simp] theorem State.postAll_resetAt (s : State) (es : List Note) : (s.postAll es).resetAt = s.resetAt := by
  rw [State.postAll_eq]
@[simp] theorem State.postAll_lastReset (s : State) (es : List Note) : (s.postAll es).lastReset = s.lastReset := by
  rw [State.postAll_eq]
@[simp] theorem State.postAll_causes (s : State) (es : List Note) : (s.postAll es).causes = s.causes := by
  rw [State.postAll_eq]
@[simp] theorem State.postAll_straps (s : State) (es : List Note) : (s.postAll es).straps = s.straps := by
  rw [State.postAll_eq]
@[simp] theorem State.postAll_restarts (s : State) (es : List Note) : (s.postAll es).restarts = s.restarts := by
  rw [State.postAll_eq]
@[simp] theorem State.postAll_baseLane (s : State) (es : List Note) : (s.postAll es).baseLane = s.baseLane := by
  rw [State.postAll_eq]
@[simp] theorem State.postAll_work (s : State) (es : List Note) : (s.postAll es).work = s.work := by
  rw [State.postAll_eq]
@[simp] theorem State.postAll_stored (s : State) (es : List Note) : (s.postAll es).stored = s.stored := by
  rw [State.postAll_eq]
@[simp] theorem State.postAll_inFlight (s : State) (es : List Note) : (s.postAll es).inFlight = s.inFlight := by
  rw [State.postAll_eq]
@[simp] theorem State.postAll_spans (s : State) (es : List Note) : (s.postAll es).spans = s.spans := by
  rw [State.postAll_eq]
@[simp] theorem State.postAll_beacons (s : State) (es : List Note) : (s.postAll es).beacons = s.beacons := by
  rw [State.postAll_eq]
@[simp] theorem State.postAll_rings (s : State) (es : List Note) : (s.postAll es).rings = s.rings := by
  rw [State.postAll_eq]
@[simp] theorem State.postAll_reference (s : State) (es : List Note) : (s.postAll es).reference = s.reference := by
  rw [State.postAll_eq]
@[simp] theorem State.postAll_carriage (s : State) (es : List Note) : (s.postAll es).carriage = s.carriage := by
  rw [State.postAll_eq]
@[simp] theorem State.postAll_alloc (s : State) (es : List Note) : (s.postAll es).alloc = s.alloc := by
  rw [State.postAll_eq]
@[simp] theorem State.postAll_voters (s : State) (es : List Note) : (s.postAll es).voters = s.voters := by
  rw [State.postAll_eq]
@[simp] theorem State.postAll_breakin (s : State) (es : List Note) : (s.postAll es).breakin = s.breakin := by
  rw [State.postAll_eq]
@[simp] theorem State.postAll_plans (s : State) (es : List Note) : (s.postAll es).plans = s.plans := by
  rw [State.postAll_eq]
@[simp] theorem State.postAll_contacts (s : State) (es : List Note) : (s.postAll es).contacts = s.contacts := by
  rw [State.postAll_eq]
@[simp] theorem State.postAll_watch (s : State) (es : List Note) : (s.postAll es).watch = s.watch := by
  rw [State.postAll_eq]
@[simp] theorem State.postAll_choices (s : State) (es : List Note) : (s.postAll es).choices = s.choices := by
  rw [State.postAll_eq]
@[simp] theorem State.postAll_pending (s : State) (es : List Note) : (s.postAll es).pending = s.pending := by
  rw [State.postAll_eq]

/-! ### Records of several -/

@[simp] theorem PerSpan.get_set {α : Type} (t : PerSpan α) (p q : SpanPort) (x : α) :
    (t.set p x).get q = if q = p then x else t.get q := by
  obtain ⟨pr, ps⟩ := p
  obtain ⟨qr, qs⟩ := q
  cases pr <;> cases ps <;> cases qr <;> cases qs <;> rfl

@[simp] theorem PerRing.get_set {α : Type} (t : PerRing α) (p q : Ring) (x : α) :
    (t.set p x).get q = if q = p then x else t.get q := by
  cases p <;> cases q <;> rfl

@[simp] theorem PerMgmt.get_set {α : Type} (t : PerMgmt α) (p q : MgmtPort) (x : α) :
    (t.set p x).get q = if q = p then x else t.get q := by
  cases p <;> cases q <;> rfl

@[simp] theorem posGet_posSet {α : Type} (t : PerPosition α) (p q : Position) (x : α) :
    posGet (posSet t p x) q = if q = p then x else posGet t q := by
  obtain ⟨pr, pu⟩ := p
  obtain ⟨qr, qu⟩ := q
  cases pr <;> cases qr <;>
    simp [posGet, posSet, PerRing.get, PerRing.set, Vector.getElem_set, Fin.ext_iff, eq_comm]

@[simp] theorem tabulate_getElem {α : Type} {m : Nat} (f : Fin m → α) (i : Fin m) : (tabulate f)[i] = f i := by
  simp [tabulate]

@[simp] theorem posGet_forPositions {α : Type} (f : Position → α) (p : Position) : posGet (forPositions f) p = f p := by
  obtain ⟨r, u⟩ := p
  cases r <;> exact tabulate_getElem _ _

/-! ### What a position hears -/

/-- After a settlement a position hears the owner that its zone has come to carry, what it heard where the zone carries
the owner it carried before, and else nothing (R135, R137). -/
theorem heardAfter_eq (s : State) (q : List BreakIn) (p : Position) :
    posGet (heardAfter s q) p = (s.zoneOfPosition p).bind fun z =>
      (carriedBy q z).bind fun r =>
        if (carriedBy s.breakin.queue z).any (·.acceptance = r.acceptance) then posGet s.breakin.heard p
        else some r.acceptance :=
  posGet_forPositions _ p

/-- As a request's next page begins, the members of its zones hear it, and the rest what they heard (R137, R139). -/
theorem heardFrom_eq (s : State) (r : BreakIn) (p : Position) :
    posGet (heardFrom s r) p =
      if (s.zoneOfPosition p).any (· ∈ r.owned) then some r.acceptance else posGet s.breakin.heard p :=
  posGet_forPositions _ p

end Sys2Proof.Machine
end

