-- ==== Sys2Proof/Laws/Memory.lean ====
section
/-! SUPPORT. The clip store's memory: what a write reads back, and that every operation keeps the canonical
form. -/

namespace Sys2Proof.Machine

open Sys2Proof

/-- Every address of a memory is at least a bound. -/
def memFrom (m : List Host.Cell) (a : Nat) : Prop := ∀ c ∈ m, a ≤ c.1

/-- The canonical form of a memory with a first cell: that cell is not at the default, the rest lies above it
and is canonical. -/
theorem memWf_cons (k : Nat) (v : Byte) (m : List Host.Cell) :
    memWf ((k, v) :: m) = true ↔ v ≠ cellDefault ∧ memFrom m (k + 1) ∧ memWf m = true := by
  induction m generalizing k v with
  | nil => simp [memWf, memFrom]
  | cons c rest ih =>
    obtain ⟨k', v'⟩ := c
    simp only [memWf, Bool.and_eq_true, bne_iff_ne, ne_eq, decide_eq_true_eq]
    rw [ih]
    constructor
    · rintro ⟨⟨hv, hk⟩, hv', hfrom, hwf⟩
      refine ⟨hv, ?_, hv', hfrom, hwf⟩
      intro c hc
      rcases List.mem_cons.1 hc with rfl | hc
      · exact hk
      · exact le_trans (Nat.succ_le_of_lt hk) (le_trans (Nat.le_succ _) (hfrom c hc))
    · rintro ⟨hv, hfrom, hv', hfrom', hwf⟩
      exact ⟨⟨hv, hfrom (k', v') (List.mem_cons_self ..)⟩, hv', hfrom', hwf⟩

/-- A write leaves every address at or above a bound that the old ones and the written one respect. -/
theorem memWrite_from (m : List Host.Cell) (a b : Nat) (x : Byte) (h : memFrom m b) (hb : b ≤ a) :
    memFrom (memWrite m a x) b := by
  induction m with
  | nil =>
    intro c hc
    simp only [memWrite] at hc
    split at hc
    · simp at hc
    · simp only [List.mem_singleton] at hc; subst hc; exact hb
  | cons d rest ih =>
    obtain ⟨k, v⟩ := d
    have hk : b ≤ k := h (k, v) (List.mem_cons_self ..)
    have hrest : memFrom rest b := fun c hc => h c (List.mem_cons_of_mem _ hc)
    intro c hc
    simp only [memWrite] at hc
    split at hc
    · rcases List.mem_cons.1 hc with rfl | hc
      · exact hk
      · exact ih hrest c hc
    · split at hc
      · split at hc
        · exact hrest c hc
        · rcases List.mem_cons.1 hc with rfl | hc
          · exact hb
          · exact hrest c hc
      · split at hc
        · exact h c hc
        · rcases List.mem_cons.1 hc with rfl | hc
          · exact hb
          · exact h c hc

/-- A write keeps the canonical form. -/
theorem memWrite_wf (m : List Host.Cell) (a : Nat) (x : Byte) (h : memWf m = true) :
    memWf (memWrite m a x) = true := by
  induction m with
  | nil =>
    simp only [memWrite]
    split
    · rfl
    · simpa [memWf] using ‹¬x = cellDefault›
  | cons d rest ih =>
    obtain ⟨k, v⟩ := d
    obtain ⟨hv, hfrom, hwf⟩ := (memWf_cons k v rest).1 h
    simp only [memWrite]
    split
    · exact (memWf_cons ..).2 ⟨hv, memWrite_from rest a (k + 1) x hfrom (by omega), ih hwf⟩
    · split
      · split
        · exact hwf
        · rename_i hka hx
          subst hka
          exact (memWf_cons ..).2 ⟨hx, hfrom, hwf⟩
      · split
        · exact h
        · rename_i hle hne hx
          refine (memWf_cons ..).2 ⟨hx, ?_, h⟩
          intro c hc
          rcases List.mem_cons.1 hc with rfl | hc
          · exact (by omega : a + 1 ≤ k)
          · have := hfrom c hc
            omega

/-- Writing bytes keeps the canonical form. -/
theorem memWriteBytes_wf (bs : List Byte) (m : List Host.Cell) (a : Nat) (h : memWf m = true) :
    memWf (memWriteBytes m a bs) = true := by
  induction bs generalizing m a with
  | nil => exact h
  | cons b bs ih => exact ih _ _ (memWrite_wf m a b h)

/-- Writing a page keeps the canonical form. -/
theorem pageWrite_wf (m : List Host.Cell) (page : Nat) (payload : List Byte) (h : memWf m = true) :
    memWf (pageWrite m page payload) = true :=
  memWriteBytes_wf payload m _ h

/-- Nothing below the first address of a memory is listed: it reads the default. -/
theorem memRead_from (m : List Host.Cell) (a b : Nat) (h : memFrom m b) (ha : a < b) : memRead m a = cellDefault := by
  induction m with
  | nil => rfl
  | cons d rest ih =>
    obtain ⟨k, v⟩ := d
    have hk : b ≤ k := h (k, v) (List.mem_cons_self ..)
    have hne : k ≠ a := by omega
    simp only [memRead, hne, ite_false]
    exact ih fun c hc => h c (List.mem_cons_of_mem _ hc)

/-- A byte written reads back, and every other byte reads as before. -/
theorem memRead_memWrite (m : List Host.Cell) (a b : Nat) (x : Byte) (h : memWf m = true) :
    memRead (memWrite m a x) b = if b = a then x else memRead m b := by
  induction m with
  | nil =>
    simp only [memWrite]
    split
    · rename_i hx
      split <;> simp [memRead, hx]
    · simp only [memRead, eq_comm]
  | cons d rest ih =>
    obtain ⟨k, v⟩ := d
    obtain ⟨_, hfrom, hwf⟩ := (memWf_cons k v rest).1 h
    simp only [memWrite]
    split
    · rename_i hlt
      simp only [memRead, ih hwf]
      by_cases hkb : k = b
      · subst hkb
        simp [Nat.ne_of_lt hlt]
      · simp [hkb]
    · rename_i hle
      split
      · rename_i hka
        subst hka
        split
        · rename_i hx
          by_cases hb : b = k
          · subst hb
            simp [memRead_from rest b (b + 1) hfrom (Nat.lt_succ_self b), hx]
          · have hkb : k ≠ b := Ne.symm hb
            simp [memRead, hb, hkb]
        · by_cases hb : b = k
          · subst hb; simp [memRead]
          · have hkb : k ≠ b := Ne.symm hb
            simp [memRead, hb, hkb]
      · rename_i hka
        have halow : memFrom ((k, v) :: rest) (a + 1) := by
          intro c hc
          rcases List.mem_cons.1 hc with rfl | hc
          · exact (by omega : a + 1 ≤ k)
          · have := hfrom c hc
            omega
        split
        · rename_i hx
          by_cases hb : b = a
          · subst hb
            rw [memRead_from _ b (b + 1) halow (Nat.lt_succ_self b), if_pos rfl, hx]
          · simp [hb]
        · by_cases hb : b = a
          · subst hb; simp [memRead]
          · have hab : a ≠ b := Ne.symm hb
            simp [memRead, hb, hab]

/-- Bytes written from an address upward read back there, and every other byte reads as before. -/
theorem memRead_memWriteBytes (bs : List Byte) (m : List Host.Cell) (a b : Nat) (h : memWf m = true) :
    memRead (memWriteBytes m a bs) b =
      if a ≤ b ∧ b < a + bs.length then bs.getD (b - a) cellDefault else memRead m b := by
  induction bs generalizing m a with
  | nil => simp [memWriteBytes]
  | cons x bs ih =>
    simp only [memWriteBytes]
    rw [ih (memWrite m a x) (a + 1) (memWrite_wf m a x h), memRead_memWrite m a b x h]
    by_cases hb : b = a
    · subst hb; simp
    · by_cases hin : a + 1 ≤ b ∧ b < a + 1 + bs.length
      · have h1 : a ≤ b ∧ b < a + (x :: bs).length := ⟨by omega, by simp only [List.length_cons]; omega⟩
        have h2 : b - a = (b - (a + 1)) + 1 := by omega
        rw [if_pos hin, if_pos h1, h2, List.getD_cons_succ]
      · have h1 : ¬(a ≤ b ∧ b < a + (x :: bs).length) := by simp only [List.length_cons]; omega
        rw [if_neg hin, if_neg hb, if_neg h1]

end Sys2Proof.Machine
end

