-- ==== Sys2Proof/Laws/Settle.lean ====
section
/-! SUPPORT. What taking the events handed between blocks can change: the reference unit, the carriage and
allocation records, the voters, the break-in unit, the event queues and the choices, and nothing else;
and which ports a feed change marks. -/

namespace Sys2Proof.Machine

open Sys2Proof

/-! ### Frames compose -/

theorem SameBut.refl (changed : List Part) (s : State) : SameBut changed s s := by
  intro x _
  cases x <;> simp [Part.same]

theorem Part.same_trans {x : Part} {s t u : State} (h : x.same s t) (k : x.same t u) : x.same s u := by
  cases x <;> simp only [Part.same] at * <;> first
    | exact k.trans h
    | exact fun port => (k port).trans (h port)
    | exact fun port => ⟨(k port).1.trans (h port).1, (k port).2.trans (h port).2⟩
    | exact ⟨k.1.trans h.1, k.2.1.trans h.2.1, k.2.2.1.trans h.2.2.1, k.2.2.2.trans h.2.2.2⟩

theorem SameBut.trans {changed : List Part} {s t u : State} (h : SameBut changed s t) (k : SameBut changed t u) :
    SameBut changed s u :=
  fun x hx => Part.same_trans (h x hx) (k x hx)

/-- Fewer parts changed is a stronger frame. -/
theorem SameBut.mono {less more : List Part} {s t : State} (hsub : ∀ x ∈ less, x ∈ more) (h : SameBut less s t) :
    SameBut more s t :=
  fun x hx => h x fun hm => hx (hsub x hm)

/-! ### Posting changes the event queues alone -/

@[simp] theorem MgmtRec.quiet_enqueue (m : MgmtRec) (r : Record) : (m.enqueue r).quiet = m.quiet := by
  unfold MgmtRec.enqueue
  split
  · rfl
  · split <;> rfl

theorem post_sameBut (s : State) (e : Note) : SameBut [.events] s (s.post e) := by
  intro x hx
  cases x <;> simp [Part.same, State.post] at hx ⊢
  rintro ⟨⟩ <;> simp [PerMgmt.get]

theorem postAll_sameBut (s : State) (es : List Note) : SameBut [.events] s (s.postAll es) := by
  induction es generalizing s with
  | nil => exact SameBut.refl _ s
  | cons e es ih => exact (post_sameBut s e).trans (ih (s.post e))

/-! ### What each handler can change -/

/-- The parts that a hand-over can change. -/
def handedParts : List Part := [.reference, .carriage, .alloc, .voters, .breakin, .events, .choices]

/-- A state in which one record is replaced differs in that record's part alone. -/
theorem setCarriage_sameBut (s : State) (p : SpanPort) (x : CarriageRec) : SameBut [.carriage] s (s.setCarriage p x) := by
  intro y hy
  cases y <;> simp [Part.same] at hy ⊢

theorem setAlloc_sameBut (s : State) (p : Position) (x : AllocRec) : SameBut [.alloc] s (s.setAlloc p x) := by
  intro y hy
  cases y <;> simp [Part.same] at hy ⊢

theorem setVoter_sameBut (s : State) (c : ChannelNo) (x : VoterRec) : SameBut [.voters] s (s.setVoter c x) := by
  intro y hy
  cases y <;> simp [Part.same] at hy ⊢

theorem setReference_sameBut (s : State) (r : RefRec) : SameBut [.reference] s { s with reference := r } := by
  intro y hy
  cases y <;> simp [Part.same] at hy ⊢

theorem setBreakin_sameBut (s : State) (b : BreakInUnit) : SameBut [.breakin] s { s with breakin := b } := by
  intro y hy
  cases y <;> simp [Part.same] at hy ⊢

theorem setChoices_sameBut (s : State) (cs : List Nat) : SameBut [.choices] s { s with choices := cs } := by
  intro y hy
  cases y <;> simp [Part.same] at hy ⊢

theorem plannerEvent_sameBut (path : SpanPort) (cause : CarriageCause) (joined : List UnitNo) (s : State) :
    SameBut [.carriage, .events] s (plannerEvent path cause joined s).1 :=
  ((setCarriage_sameBut s path _).mono (by simp)).trans ((postAll_sameBut _ _).mono (by simp))

theorem flagEvent_sameBut (path : SpanPort) (s : State) : SameBut [.carriage, .events] s (flagEvent path s).1 := by
  simp only [flagEvent]
  split
  · exact SameBut.refl _ s
  · exact plannerEvent_sameBut path .cls [] s

theorem allocEvent_sameBut (p : Position) (e : AllocEvent) (s : State) :
    SameBut [.alloc, .events] s (allocEvent p e s) := by
  simp only [allocEvent]
  split
  · exact ((setAlloc_sameBut s p _).mono (by simp)).trans ((postAll_sameBut _ _).mono (by simp))
  · exact (setAlloc_sameBut s p _).mono (by simp)

theorem setVoterState_sameBut (ch : ChannelNo) (new : VoterRec) (cause : TalkCause) (s : State) :
    SameBut [.voters, .events] s (setVoterState ch new cause s).1 := by
  simp only [setVoterState]
  split
  · exact ((setVoter_sameBut s ch _).mono (by simp)).trans ((post_sameBut _ _).mono (by simp))
  · split
    · exact ((setVoter_sameBut s ch _).mono (by simp)).trans ((post_sameBut _ _).mono (by simp))
    · exact (setVoter_sameBut s ch _).mono (by simp)

theorem baseKeyed_sameBut (ch : ChannelNo) (asserted : Bool) (s : State) :
    SameBut [.voters, .events] s (baseKeyed ch asserted s).1 := by
  simp only [baseKeyed]
  split
  · exact SameBut.refl _ s
  · split <;> split <;> exact setVoterState_sameBut _ _ _ _

theorem settlement_sameBut (removals : List Note) (q : List BreakIn) (s : State) :
    SameBut [.breakin] s (settlement removals q s).1 :=
  setBreakin_sameBut s _

theorem activationEvent_sameBut (s : State) : SameBut [.breakin] s (activationEvent s).1 :=
  (setBreakin_sameBut s _).trans (settlement_sameBut _ _ _)

theorem enterRef_sameBut (new : RefRec) (cause : RefCause) (s : State) :
    SameBut [.reference, .events] s (enterRef new cause s).1 :=
  ((setReference_sameBut s new).mono (by simp)).trans ((post_sameBut _ _).mono (by simp))

/-- One operation after another keeps what both keep. -/
theorem andThen_sameBut {changed : List Part} {s : State} {x : Handed} {f : State → Handed}
    (hx : SameBut changed s x.1) (hf : SameBut changed x.1 (f x.1).1) : SameBut changed s (andThen x f).1 :=
  hx.trans hf

theorem passOnFree_sameBut (s : State) : SameBut [.reference, .events] s (passOnFree s).1 := by
  unfold passOnFree
  split
  · exact enterRef_sameBut _ _ _
  · exact SameBut.refl _ s

theorem enterFree_sameBut (cause : RefCause) (s : State) : SameBut [.reference, .events] s (enterFree cause s).1 :=
  andThen_sameBut (enterRef_sameBut _ _ _) (passOnFree_sameBut _)

theorem passOnHoldover_sameBut (cause : RefCause) (s : State) :
    SameBut [.reference, .events] s (passOnHoldover cause s).1 := by
  unfold passOnHoldover
  split
  · split
    · exact SameBut.refl _ s
    · exact enterRef_sameBut _ _ _
  · exact SameBut.refl _ s

theorem enterHoldover_sameBut (forced : Bool) (cause : RefCause) (s : State) :
    SameBut [.reference, .events] s (enterHoldover forced cause s).1 :=
  andThen_sameBut (enterRef_sameBut _ _ _) (passOnHoldover_sameBut _ _)

theorem preferenceChanged_sameBut (s : State) : SameBut [.reference, .events] s (preferenceChanged s).1 := by
  unfold preferenceChanged
  split
  all_goals first
    | exact SameBut.refl _ s
    | exact (setReference_sameBut s _).mono (by simp)
    | (split
       · exact enterRef_sameBut _ _ _
       · exact SameBut.refl _ s)

theorem limitChanged_sameBut (s : State) : SameBut [.reference, .events] s (limitChanged s).1 := by
  unfold limitChanged
  split
  · split
    · exact enterFree_sameBut _ _
    · exact SameBut.refl _ s
  · exact SameBut.refl _ s

theorem settingsEvent_sameBut (preferred limit : Bool) (s : State) :
    SameBut [.reference, .events] s (settingsEvent preferred limit s).1 := by
  unfold settingsEvent
  refine andThen_sameBut ?_ ?_
  · split
    · exact preferenceChanged_sameBut s
    · exact SameBut.refl _ s
  · generalize (if preferred = true then preferenceChanged s else (s, [])).1 = u
    split
    · exact limitChanged_sameBut u
    · exact SameBut.refl _ u

/-- The parts that a hand-over of some kind can change. -/
def HandOver.parts : HandOver → List Part
  | .planner .. | .flag .. => [.carriage, .events]
  | .alloc .. => [.alloc, .events]
  | .coverage .. | .candidates .. => [.voters]
  | .block .. | .baseKey .. => [.voters, .events]
  | .activation => [.breakin]
  | .settings .. => [.reference, .events]
  | .posts .. => [.events]

theorem handle_sameBut (h : HandOver) (s : State) : SameBut h.parts s (handle h s).1 := by
  cases h with
  | planner path cause joined => exact plannerEvent_sameBut _ _ _ _
  | flag path => exact flagEvent_sameBut _ _
  | alloc p e => exact allocEvent_sameBut _ _ _
  | coverage ch => exact setVoter_sameBut _ _ _
  | candidates ch => exact setVoter_sameBut _ _ _
  | block ch outputs => exact setVoterState_sameBut _ _ _ _
  | baseKey ch => exact baseKeyed_sameBut _ _ _
  | activation => exact activationEvent_sameBut s
  | settings preferred limit => exact settingsEvent_sameBut _ _ _
  | posts notes =>
    match notes with
    | [] => exact SameBut.refl _ s
    | [n] => exact post_sameBut s n
    | n :: m :: ns => exact post_sameBut s n

/-! ### What each handler hands on -/

/-- The kinds of hand-over that others give rise to: allocator events, flags and records. -/
def HandOver.follows : HandOver → Prop
  | .flag .. | .alloc .. | .posts .. => True
  | _ => False

theorem allocEverywhere_follows (e : AllocEvent) : ∀ h ∈ allocEverywhere e, h.follows := by
  intro h hm
  obtain ⟨p, -, rfl⟩ := List.mem_map.1 hm
  trivial

theorem classHands_follows (s : State) (ps : List Position) : ∀ h ∈ classHands s ps, h.follows := by
  intro h hm
  rcases List.mem_append.1 hm with hm | hm
  · obtain ⟨p, -, rfl⟩ := List.mem_map.1 hm; trivial
  · obtain ⟨p, -, rfl⟩ := List.mem_map.1 hm; trivial

theorem plannerEvent_follows (path : SpanPort) (cause : CarriageCause) (joined : List UnitNo) (s : State) :
    ∀ h ∈ (plannerEvent path cause joined s).2, h.follows := by
  intro h hm
  simp only [plannerEvent, carriageHands] at hm
  rcases List.mem_append.1 hm with hm | hm
  · obtain ⟨p, -, rfl⟩ := List.mem_map.1 hm; trivial
  · split at hm
    · simp at hm
    · obtain ⟨p, -, rfl⟩ := List.mem_map.1 hm; trivial

theorem setVoterState_follows (ch : ChannelNo) (new : VoterRec) (cause : TalkCause) (s : State) :
    ∀ h ∈ (setVoterState ch new cause s).2, h.follows := by
  simp only [setVoterState]
  split
  · exact allocEverywhere_follows _
  · split
    · exact allocEverywhere_follows _
    · simp

theorem enterRef_follows (new : RefRec) (cause : RefCause) (s : State) :
    ∀ h ∈ (enterRef new cause s).2, h.follows := by
  simp only [enterRef]
  split
  · simp
  · exact allocEverywhere_follows _

theorem andThen_follows {x : Handed} {f : State → Handed} (hx : ∀ h ∈ x.2, h.follows)
    (hf : ∀ s, ∀ h ∈ (f s).2, h.follows) : ∀ h ∈ (andThen x f).2, h.follows := by
  intro h hm
  rcases List.mem_append.1 hm with hm | hm
  · exact hx h hm
  · exact hf _ h hm

theorem passOnFree_follows (s : State) : ∀ h ∈ (passOnFree s).2, h.follows := by
  unfold passOnFree
  split
  · exact enterRef_follows _ _ _
  · simp

theorem passOnHoldover_follows (cause : RefCause) (s : State) : ∀ h ∈ (passOnHoldover cause s).2, h.follows := by
  unfold passOnHoldover
  split
  · split
    · simp
    · exact enterRef_follows _ _ _
  · simp

theorem enterFree_follows (cause : RefCause) (s : State) : ∀ h ∈ (enterFree cause s).2, h.follows :=
  andThen_follows (enterRef_follows _ _ _) passOnFree_follows

theorem enterHoldover_follows (forced : Bool) (cause : RefCause) (s : State) :
    ∀ h ∈ (enterHoldover forced cause s).2, h.follows :=
  andThen_follows (enterRef_follows _ _ _) (passOnHoldover_follows _)

theorem preferenceChanged_follows (s : State) : ∀ h ∈ (preferenceChanged s).2, h.follows := by
  unfold preferenceChanged
  split
  all_goals first
    | simp
    | (split
       · exact enterRef_follows _ _ _
       · simp)

theorem limitChanged_follows (s : State) : ∀ h ∈ (limitChanged s).2, h.follows := by
  unfold limitChanged
  split
  · split
    · exact enterFree_follows _ _
    · simp
  · simp

theorem settingsEvent_follows (preferred limit : Bool) (s : State) :
    ∀ h ∈ (settingsEvent preferred limit s).2, h.follows := by
  unfold settingsEvent
  refine andThen_follows ?_ ?_
  · split
    · exact preferenceChanged_follows s
    · simp
  · intro s'
    split
    · exact limitChanged_follows s'
    · simp

theorem settlement_follows (removals : List Note) (q : List BreakIn) (s : State) :
    ∀ h ∈ (settlement removals q s).2, h.follows := by
  intro h hm
  simp only [settlement] at hm
  rcases List.mem_append.1 hm with hm | hm
  · simp only [List.mem_singleton] at hm; subst hm; trivial
  · exact classHands_follows _ _ h hm

/-- A hand-over gives rise to allocator events, flags and records alone. -/
theorem handle_follows (h : HandOver) (s : State) : ∀ h' ∈ (handle h s).2, h'.follows := by
  cases h with
  | planner path cause joined => exact plannerEvent_follows _ _ _ _
  | flag path =>
    simp only [handle, flagEvent]
    split
    · simp
    · exact plannerEvent_follows _ _ _ _
  | alloc p e => simp [handle]
  | coverage ch => simp [handle]
  | candidates ch => simp [handle]
  | block ch outputs => exact setVoterState_follows _ _ _ _
  | baseKey ch =>
    simp only [handle, baseKeyed]
    split
    · simp
    · split <;> split <;> exact setVoterState_follows _ _ _ _
  | activation => exact settlement_follows _ _ _
  | settings preferred limit => exact settingsEvent_follows _ _ _
  | posts notes =>
    match notes with
    | [] => simp [handle]
    | [n] => simp [handle]
    | n :: m :: ns => simp [handle, HandOver.follows]

/-! ### Settling -/

theorem pick_mem (i : Nat) (h : HandOver) (hs : List HandOver) :
    (pick i h hs).1 ∈ h :: hs ∧ ∀ x ∈ (pick i h hs).2, x ∈ h :: hs := by
  induction i generalizing h hs with
  | zero => cases hs <;> simp +contextual [pick]
  | succ i ih =>
    cases hs with
    | nil => simp [pick]
    | cons k ks =>
      obtain ⟨h1, h2⟩ := ih k ks
      simp only [pick]
      refine ⟨List.mem_cons_of_mem _ h1, fun x hx => ?_⟩
      rcases List.mem_cons.1 hx with rfl | hx
      · exact List.mem_cons_self ..
      · exact List.mem_cons_of_mem _ (h2 x hx)

/-- What every hand-over of a class does, taking all of them does: the class holds what they give rise to, and
the relation composes. -/
theorem settle_induction (ok : HandOver → Prop) (R : State → State → Prop) (hrefl : ∀ s, R s s)
    (htrans : ∀ s t u, R s t → R t u → R s u) (hchoice : ∀ s cs, R s { s with choices := cs })
    (hstep : ∀ h s, ok h → R s (handle h s).1) (hnext : ∀ h s, ok h → ∀ h' ∈ (handle h s).2, ok h') :
    ∀ fuel items s, (∀ h ∈ items, ok h) → R s (settle fuel items s) := by
  intro fuel
  induction fuel with
  | zero => intro items s _; exact hrefl s
  | succ fuel ih =>
    intro items s hok
    cases items with
    | nil => exact hrefl s
    | cons h hs =>
      simp only [settle]
      obtain ⟨hp, hr⟩ := pick_mem (nextPlace (hs.length + 1) s.choices).1 h hs
      refine htrans _ _ _ (hchoice s _) (htrans _ _ _ (hstep _ _ (hok _ hp)) (ih _ _ ?_))
      intro x hx
      rcases List.mem_append.1 hx with hx | hx
      · exact hnext _ _ (hok _ hp) x hx
      · exact hok _ (hr x hx)

/-- The parts that a hand-over and all it gives rise to can change. -/
def HandOver.reach : HandOver → List Part
  | .planner .. | .flag .. => [.carriage, .alloc, .events]
  | .alloc .. => [.alloc, .events]
  | .coverage .. | .candidates .. => [.voters]
  | .block .. | .baseKey .. => [.voters, .alloc, .events]
  | .activation => [.breakin, .carriage, .alloc, .events]
  | .settings .. => [.reference, .alloc, .events]
  | .posts .. => [.events]

theorem HandOver.parts_sub_reach (h : HandOver) : ∀ p ∈ h.parts, p ∈ h.reach := by
  cases h <;> simp [HandOver.parts, HandOver.reach]

/-- Allocator events alone reach no further than the allocation records and the event queues. -/
def HandOver.isAlloc : HandOver → Prop
  | .alloc .. => True
  | _ => False

theorem HandOver.isAlloc_reach {h : HandOver} (k : h.isAlloc) : h.reach = [.alloc, .events] := by
  cases h <;> simp_all [HandOver.isAlloc, HandOver.reach]

theorem HandOver.follows_reach {h : HandOver} (k : h.follows) : ∀ p ∈ h.reach, p ∈ [Part.carriage, .alloc, .events] := by
  cases h <;> simp_all [HandOver.follows, HandOver.reach]

/-- What a hand-over gives rise to reaches no further than it does. -/
theorem handle_reach (h : HandOver) (s : State) : ∀ h' ∈ (handle h s).2, ∀ p ∈ h'.reach, p ∈ h.reach := by
  intro h' hm p hp
  have hf := handle_follows h s h' hm
  have key : h'.isAlloc → Part.alloc ∈ h.reach → Part.events ∈ h.reach → p ∈ h.reach := by
    intro ha h1 h2
    rw [HandOver.isAlloc_reach ha] at hp
    simp only [List.mem_cons, List.not_mem_nil, or_false] at hp
    rcases hp with rfl | rfl
    · exact h1
    · exact h2
  have everywhere : ∀ e, h' ∈ allocEverywhere e → h'.isAlloc := by
    intro e he
    obtain ⟨q, -, rfl⟩ := List.mem_map.1 he
    trivial
  have voter : ∀ ch new cause s, h' ∈ (setVoterState ch new cause s).2 → h'.isAlloc := by
    intro ch new cause s he
    simp only [setVoterState] at he
    split at he
    · exact everywhere _ he
    · split at he
      · exact everywhere _ he
      · simp at he
  have ref : ∀ new cause s, h' ∈ (enterRef new cause s).2 → h'.isAlloc := by
    intro new cause s he
    simp only [enterRef] at he
    split at he
    · simp at he
    · exact everywhere _ he
  have free : ∀ s, h' ∈ (passOnFree s).2 → h'.isAlloc := by
    intro s he
    unfold passOnFree at he
    split at he
    · exact ref _ _ _ he
    · simp at he
  cases h with
  | planner path cause joined => simpa [HandOver.reach] using HandOver.follows_reach hf p hp
  | flag path => simpa [HandOver.reach] using HandOver.follows_reach hf p hp
  | alloc q e => simp [handle] at hm
  | coverage ch => simp [handle] at hm
  | candidates ch => simp [handle] at hm
  | block ch outputs => exact key (voter _ _ _ _ hm) (by simp [HandOver.reach]) (by simp [HandOver.reach])
  | baseKey ch =>
    refine key ?_ (by simp [HandOver.reach]) (by simp [HandOver.reach])
    simp only [handle, baseKeyed] at hm
    split at hm
    · simp at hm
    · split at hm <;> split at hm <;> exact voter _ _ _ _ hm
  | activation =>
    have := HandOver.follows_reach hf p hp
    simp only [List.mem_cons, List.not_mem_nil, or_false] at this
    rcases this with rfl | rfl | rfl <;> simp [HandOver.reach]
  | settings preferred limit =>
    refine key ?_ (by simp [HandOver.reach]) (by simp [HandOver.reach])
    have pref : h' ∈ (preferenceChanged s).2 → h'.isAlloc := by
      intro he
      unfold preferenceChanged at he
      split at he
      all_goals first
        | exact absurd he (by simp)
        | (split at he
           · exact ref _ _ _ he
           · simp at he)
    have limit : ∀ s, h' ∈ (limitChanged s).2 → h'.isAlloc := by
      intro s he
      unfold limitChanged at he
      split at he
      · split at he
        · rcases List.mem_append.1 he with he | he
          · exact ref _ _ _ he
          · exact free _ he
        · simp at he
      · simp at he
    simp only [handle, settingsEvent, andThen] at hm
    rcases List.mem_append.1 hm with hm | hm
    · split at hm
      · exact pref hm
      · simp at hm
    · generalize (if preferred = true then preferenceChanged s else (s, [])).1 = u at hm
      split at hm
      · exact limit u hm
      · simp at hm
  | posts notes =>
    match notes with
    | [] => simp [handle] at hm
    | [n] => simp [handle] at hm
    | n :: m :: ns =>
      simp only [handle, List.mem_singleton] at hm
      subst hm
      exact hp

/-- Taking hand-overs changes what they reach, and the choices. -/
theorem settled_sameBut (changed : List Part) (x : Handed) (hchoices : Part.choices ∈ changed)
    (hreach : ∀ h ∈ x.2, ∀ p ∈ h.reach, p ∈ changed) : SameBut changed x.1 (settled x) := by
  refine settle_induction (fun h => ∀ p ∈ h.reach, p ∈ changed) (SameBut changed) (SameBut.refl changed)
    (fun _ _ _ => SameBut.trans) ?_ ?_ ?_ settleFuel x.2 x.1 hreach
  · intro s cs
    exact (setChoices_sameBut s cs).mono (by simpa using hchoices)
  · intro h s hok
    exact (handle_sameBut h s).mono fun p hp => hok p (h.parts_sub_reach p hp)
  · intro h s hok h' hm p hp
    exact hok p (handle_reach h s h' hm p hp)

/-- Taking any hand-overs changes at most the reference unit, the carriage and allocation records, the voters,
the break-in unit, the event queues and the choices. -/
theorem settled_sameBut_handed (x : Handed) : SameBut handedParts x.1 (settled x) := by
  refine settled_sameBut handedParts x (by simp [handedParts]) ?_
  intro h _ p hp
  cases h <;> simp only [HandOver.reach, List.mem_cons, List.not_mem_nil, or_false] at hp <;> revert p <;>
    simp [handedParts]

/-- With nothing handed on, there is nothing to take. -/
@[simp] theorem settled_nil (s : State) : settled (s, []) = s := rfl

/-! ### Marks of a feed change -/

/-- The units a port feeds are the members of its path in the ring topology record. -/
theorem fedFrom_eq_members (s : State) (r : Ring) (side : Side) : fedFrom s r side = (s.rings.get r).members side := by
  refine List.filter_congr fun u _ => ?_
  cases side <;> cases h : (s.rings.get r).units[u] <;> simp [State.unitState, UnitState.side, h]

/-- Where the ring topology records are the same, no port is marked. -/
@[simp] theorem pathMarked_of_rings {s t : State} (h : t.rings = s.rings) (q : SpanPort) :
    pathMarked s t q = s.spans.get q := by
  simp only [pathMarked, fedFrom_eq_members, h, if_true]

/-- A new ring topology record in the old one's place marks the ports whose paths' members it changes, and leaves the others
as they were (R36, R53). -/
theorem applyRing_spans (r : Ring) (cause : FeedCause) (new : RingRec) (s : State) (q : SpanPort) :
    (applyRing r cause new s).1.spans.get q = pathMarked s (applyRing r cause new s).1 q := by
  have hr : (applyRing r cause new s).1.rings = s.rings.set r new := by
    simp only [applyRing, markPort]
    split <;> split <;> simp
  have hc (d : Side) : (new.members d = (s.rings.get r).members d) = ((s.rings.get r).members d = new.members d) :=
    propext eq_comm
  obtain ⟨qr, qs⟩ := q
  simp only [pathMarked, fedFrom_eq_members, hr]
  simp only [applyRing, markPort]
  cases r <;> cases qr <;> cases qs <;> split <;> split <;>
    simp_all [PerRing.get, PerRing.set, PerSpan.get, PerSpan.set]

end Sys2Proof.Machine
end

