-- ==== Sys2Proof/Laws/Requests.lean ====
section
/-! SUPPORT. What the receipt of a request comes to when its port serves it: its kind-specific part is carried
out, and its reply is READY or HELD. -/

namespace Sys2Proof.Machine

open Sys2Proof

/-! ### The control watch -/

theorem setWatch_sameBut (s : State) (x : Watch) : SameBut [.watch] s { s with watch := x } := by
  intro y hy
  cases y <;> simp [Part.same] at hy ⊢

/-- A valid frame changes the watch, and posts at most CONTROL_RESTORED. -/
theorem watchFrame_sameBut (port : MgmtPort) (s : State) : SameBut [.watch, .events] s (watchFrame port s) := by
  unfold watchFrame
  split
  · exact (setWatch_sameBut s _).mono (by simp)
  · exact ((setWatch_sameBut s _).mono (by simp)).trans ((post_sameBut _ _).mono (by simp))
  · exact SameBut.refl _ s

/-- Records that differ in their event queue alone hold as many requests. -/
theorem outstanding_of_quiet {m m' : MgmtRec} (h : m'.quiet = m.quiet) : m'.outstanding = m.outstanding := by
  simp only [MgmtRec.quiet, MgmtRec.mk.injEq] at h
  simp [MgmtRec.outstanding, h.2.2.2.2.1, h.2.2.2.2.2.1]

theorem authority_of_quiet {m m' : MgmtRec} (h : m'.quiet = m.quiet) : m'.authority = m.authority := by
  simp only [MgmtRec.quiet, MgmtRec.mk.injEq] at h
  exact h.1

/-! ### Open exchanges (R177) -/

/-- A select opened during a reset outlasts it; any other is forgotten. -/
theorem keptExchange_eq (x : Option Exchange) : keptExchange x = if x = some .dark then some .dark else none := by
  rcases x with _ | _ | _ <;> rfl

theorem MgmtRec.replies_iff (m : MgmtRec) : m.replies = true ↔ m.synced = true ∧ m.exchange ≠ some .dark := by
  simp [MgmtRec.replies]

/-! ### Carriers that a plan may not name (R5, R145) -/

theorem carrierUnknown_iff (s : State) (c : CarrierNo) : s.carrierUnknown c = true ↔ s.work.catalogue[c] = none ∨
    (.carrier c ∈ s.inFlight ∧ ∃ x y, s.stored.catalogue[c] = some x ∧ s.work.catalogue[c] = some y ∧ x.kind ≠ y.kind) := by
  unfold State.carrierUnknown State.writing
  cases hw : s.work.catalogue[c] <;> cases hx : s.stored.catalogue[c] <;> simp_all

/-! ### Replies -/

/-- A result that writes nothing has its reply READY at once (R169). -/
theorem conclude_ready (port : MgmtPort) (tag kind : Byte) (x : Result) (h : x.writes = none) :
    conclude port tag kind x = (x.state.withReply port ⟨kind, tag, x.answer, x.payload⟩, x.hands) := by
  simp [conclude, h, State.withReply, MgmtRec.reply]

/-- A result that writes a record has its reply HELD, and the write begins (R15, R171). -/
theorem conclude_held (port : MgmtPort) (tag kind : Byte) (x : Result) (key : StoreKey) (h : x.writes = some key) :
    conclude port tag kind x = (x.state.withHeld port key ⟨kind, tag, x.answer, x.payload⟩, x.hands) := by
  simp [conclude, h, State.withHeld, MgmtRec.reply]

@[simp] theorem conclude_refuse (port : MgmtPort) (tag kind : Byte) (s : State) (a : Answer) :
    conclude port tag kind (refuse s a) = (s.withReply port ⟨kind, tag, a, []⟩, []) :=
  conclude_ready port tag kind _ rfl

@[simp] theorem conclude_refuseWith (port : MgmtPort) (tag kind : Byte) (s : State) (a : Answer) (p : List Field) :
    conclude port tag kind (refuseWith s a p) = (s.withReply port ⟨kind, tag, a, p⟩, []) :=
  conclude_ready port tag kind _ rfl

@[simp] theorem conclude_answered (port : MgmtPort) (tag kind : Byte) (s : State) (p : List Field) :
    conclude port tag kind (answered s p) = (s.withReply port ⟨kind, tag, .accepted, p⟩, []) :=
  conclude_ready port tag kind _ rfl

@[simp] theorem conclude_done (port : MgmtPort) (tag kind : Byte) (a : Answer) (p : List Field) (x : Handed) :
    conclude port tag kind (done a p x) = (x.1.withReply port ⟨kind, tag, a, p⟩, x.2) :=
  conclude_ready port tag kind _ rfl

@[simp] theorem conclude_written (port : MgmtPort) (tag kind : Byte) (key : StoreKey) (a : Answer) (p : List Field)
    (x : Handed) :
    conclude port tag kind (written key a p x) = (x.1.withHeld port key ⟨kind, tag, a, p⟩, x.2) :=
  conclude_held port tag kind _ key rfl

theorem withReply_sameBut (s : State) (port : MgmtPort) (r : Reply) : SameBut [.ports] s (s.withReply port r) := by
  intro y hy
  cases y <;> simp [Part.same, State.withReply] at hy ⊢
  intro q
  split <;> simp_all

theorem withHeld_sameBut (s : State) (port : MgmtPort) (key : StoreKey) (r : Reply) :
    SameBut [.ports, .inFlight] s (s.withHeld port key r) := by
  intro y hy
  cases y <;> simp [Part.same, State.withHeld] at hy ⊢
  intro q
  split <;> simp_all

/-! ### A request that its port serves -/

/-- The state in which a served request is carried out: its frame has reached the watch. -/
theorem admission_serves {s : State} {port : MgmtPort} {r : Request} (h : Serves s port r) :
    admission port r (watchFrame port s) = none := by
  have hw := watchFrame_sameBut port s
  have hq := authority_of_quiet (hw .ports (by simp) port)
  have hk : (watchFrame port s).work = s.work := hw .work (by simp)
  simp [admission, hq, hk, Authority.atLeast, h.2.1, h.2.2]

/-- A request other than RESTART that its port serves is carried out, and its reply is READY or HELD (R168,
R169). -/
theorem receive_serves {s : State} {port : MgmtPort} {tag : Byte} {r : Request} (h : Serves s port r)
    (hd : Request.decoded r = .request r) (hr : r ≠ .restart) :
    receive port tag r s = settled (conclude port tag (BitVec.ofNat 8 (Request.kind r))
      (carry port (s.mgmt.get port).authority r (watchFrame port s))) := by
  have hw := watchFrame_sameBut port s
  have hq := hw .ports (by simp) port
  have hroom : ((watchFrame port s).mgmt.get port).outstanding < 2 := by
    rw [outstanding_of_quiet hq]; exact h.1.2.2
  have hlisten : s.listening port = true := by
    simp [State.listening, State.inReset, h.1.1, h.1.2.1]
  simp only [receive, receiveFrame, hlisten, if_true, hd, frameTaken, hroom, takeRequestOn, admission_serves h]
  rw [if_neg (by simp [hr]), authority_of_quiet hq]

/-- A RESTART that its port serves while no store write is in flight resets the head-end (R178). -/
theorem receive_restart {s : State} {port : MgmtPort} {tag : Byte} (h : Serves s port .restart)
    (hf : s.inFlight = []) : receive port tag .restart s = settled (restartReset (watchFrame port s)) := by
  have hw := watchFrame_sameBut port s
  have hq := hw .ports (by simp) port
  have hroom : ((watchFrame port s).mgmt.get port).outstanding < 2 := by
    rw [outstanding_of_quiet hq]; exact h.1.2.2
  have hlisten : s.listening port = true := by
    simp [State.listening, State.inReset, h.1.1, h.1.2.1]
  have hfl : (watchFrame port s).inFlight = [] := (hw .inFlight (by simp)).trans hf
  simp [receive, receiveFrame, hlisten, Request.decoded, frameTaken, hroom, takeRequestOn, admission_serves h, hfl]

end Sys2Proof.Machine
end

