-- ==== Sys2Proof/Laws/Posts.lean ====
section
/-! SUPPORT. The event queues over a step: records are posted and never taken back, so what a block posts first
stands before what the hand-overs post; and what an invocation without a reply posts. -/

namespace Sys2Proof.Machine

open Sys2Proof

/-- Two states agree on the clock and on the event queues. -/
def QueuesAgree (s t : State) : Prop :=
  t.now = s.now ∧ t.resetAt = s.resetAt ∧ ∀ port, (t.mgmt.get port).events = (s.mgmt.get port).events ∧
    (t.mgmt.get port).overflow = (s.mgmt.get port).overflow

theorem post_mgmt (s : State) (e : Note) (port : MgmtPort) :
    (s.post e).mgmt.get port = (s.mgmt.get port).enqueue ⟨e.kind, e.severity, sinceReset s, e.subject, e.detail⟩ := by
  cases port <;> rfl

theorem enqueue_congr {m m' : MgmtRec} (r : Record) (h : m'.events = m.events ∧ m'.overflow = m.overflow) :
    (m'.enqueue r).events = (m.enqueue r).events ∧ (m'.enqueue r).overflow = (m.enqueue r).overflow := by
  unfold MgmtRec.enqueue
  simp only [h.1]
  split
  · exact ⟨rfl, h.2⟩
  · split
    · exact ⟨rfl, h.2⟩
    · exact ⟨by simp, rfl⟩

theorem post_congr {s t : State} (e : Note) (h : QueuesAgree s t) : QueuesAgree (s.post e) (t.post e) := by
  refine ⟨h.1, h.2.1, fun port => ?_⟩
  have hs : sinceReset t = sinceReset s := by simp [sinceReset, h.1, h.2.1]
  rw [post_mgmt, post_mgmt, hs]
  exact enqueue_congr _ (h.2.2 port)

theorem postAll_congr {s t : State} (es : List Note) (h : QueuesAgree s t) : QueuesAgree (s.postAll es) (t.postAll es) := by
  induction es generalizing s t with
  | nil => exact h
  | cons e es ih => exact ih (post_congr e h)

theorem postAll_append (s : State) (es es' : List Note) : s.postAll (es ++ es') = (s.postAll es).postAll es' := by
  simp [State.postAll, List.foldl_append]

/-- A step's records: the queues of `t` are those of `s` with some records posted. -/
def Logs (s t : State) : Prop := ∃ es, QueuesAgree (s.postAll es) t

theorem Logs.refl (s : State) : Logs s s := ⟨[], rfl, rfl, fun _ => ⟨rfl, rfl⟩⟩

theorem QueuesAgree.trans {s t u : State} (h : QueuesAgree s t) (k : QueuesAgree t u) : QueuesAgree s u :=
  ⟨k.1.trans h.1, k.2.1.trans h.2.1, fun p => ⟨(k.2.2 p).1.trans (h.2.2 p).1, (k.2.2 p).2.trans (h.2.2 p).2⟩⟩

theorem Logs.trans {s t u : State} (h : Logs s t) (k : Logs t u) : Logs s u := by
  obtain ⟨es, h⟩ := h
  obtain ⟨es', k⟩ := k
  refine ⟨es ++ es', ?_⟩
  rw [postAll_append]
  exact (postAll_congr es' h).trans k

theorem Logs.of_agree {s t : State} (h : QueuesAgree s t) : Logs s t := ⟨[], h⟩

theorem Logs.of_sameBut {changed : List Part} {s t : State} (h : SameBut changed s t) (hc : Part.clock ∉ changed)
    (hr : Part.resets ∉ changed) (he : Part.events ∉ changed) : Logs s t :=
  .of_agree ⟨h .clock hc, (h .resets hr).1, h .events he⟩

theorem Logs.postAll (s : State) (es : List Note) : Logs s (s.postAll es) :=
  ⟨es, rfl, rfl, fun _ => ⟨rfl, rfl⟩⟩

theorem Logs.post (s : State) (e : Note) : Logs s (s.post e) := Logs.postAll s [e]

/-! ### Every hand-over only posts -/

theorem plannerEvent_logs (path : SpanPort) (cause : CarriageCause) (joined : List UnitNo) (s : State) :
    Logs s (plannerEvent path cause joined s).1 :=
  (Logs.of_sameBut (setCarriage_sameBut s path _) (by simp) (by simp) (by simp)).trans (Logs.postAll _ _)

theorem allocEvent_logs (p : Position) (e : AllocEvent) (s : State) : Logs s (allocEvent p e s) := by
  simp only [allocEvent]
  split
  · exact (Logs.of_sameBut (setAlloc_sameBut s p _) (by simp) (by simp) (by simp)).trans (Logs.postAll _ _)
  · exact Logs.of_sameBut (setAlloc_sameBut s p _) (by simp) (by simp) (by simp)

theorem setVoter_logs (s : State) (ch : ChannelNo) (x : VoterRec) : Logs s (s.setVoter ch x) :=
  Logs.of_sameBut (setVoter_sameBut s ch x) (by simp) (by simp) (by simp)

theorem setVoterState_logs (ch : ChannelNo) (new : VoterRec) (cause : TalkCause) (s : State) :
    Logs s (setVoterState ch new cause s).1 := by
  simp only [setVoterState]
  split
  · exact (setVoter_logs s ch _).trans (Logs.post _ _)
  · split
    · exact (setVoter_logs s ch _).trans (Logs.post _ _)
    · exact setVoter_logs s ch _

theorem baseKeyed_logs (ch : ChannelNo) (asserted : Bool) (s : State) : Logs s (baseKeyed ch asserted s).1 := by
  simp only [baseKeyed]
  split
  · exact Logs.refl s
  · split <;> split <;> exact setVoterState_logs _ _ _ _

theorem activationEvent_logs (s : State) : Logs s (activationEvent s).1 :=
  Logs.of_sameBut (activationEvent_sameBut s) (by simp) (by simp) (by simp)

theorem enterRef_logs (new : RefRec) (cause : RefCause) (s : State) : Logs s (enterRef new cause s).1 :=
  (Logs.of_sameBut (setReference_sameBut s new) (by simp) (by simp) (by simp)).trans (Logs.post _ _)

theorem passOnFree_logs (s : State) : Logs s (passOnFree s).1 := by
  unfold passOnFree
  split
  · exact enterRef_logs _ _ _
  · exact Logs.refl s

theorem enterFree_logs (cause : RefCause) (s : State) : Logs s (enterFree cause s).1 :=
  (enterRef_logs _ _ s).trans (passOnFree_logs _)

theorem preferenceChanged_logs (s : State) : Logs s (preferenceChanged s).1 := by
  unfold preferenceChanged
  split
  all_goals first
    | exact Logs.refl s
    | (split
       · exact enterRef_logs _ _ _
       · exact Logs.refl s)

theorem limitChanged_logs (s : State) : Logs s (limitChanged s).1 := by
  unfold limitChanged
  split
  · split
    · exact enterFree_logs _ _
    · exact Logs.refl s
  · exact Logs.refl s

theorem settingsEvent_logs (preferred limit : Bool) (s : State) : Logs s (settingsEvent preferred limit s).1 := by
  have h1 : Logs s (if preferred = true then preferenceChanged s else (s, [])).1 := by
    split
    · exact preferenceChanged_logs s
    · exact Logs.refl s
  refine h1.trans ?_
  simp only [settingsEvent, andThen]
  generalize (if preferred = true then preferenceChanged s else (s, [])).1 = u
  split
  · exact limitChanged_logs u
  · exact Logs.refl u

theorem handle_logs (h : HandOver) (s : State) : Logs s (handle h s).1 := by
  cases h with
  | planner path cause joined => exact plannerEvent_logs _ _ _ _
  | flag path =>
    simp only [handle, flagEvent]
    split
    · exact Logs.refl s
    · exact plannerEvent_logs _ _ _ _
  | alloc p e => exact allocEvent_logs _ _ _
  | coverage ch => exact setVoter_logs _ _ _
  | candidates ch => exact setVoter_logs _ _ _
  | block ch outputs => exact setVoterState_logs _ _ _ _
  | baseKey ch => exact baseKeyed_logs _ _ _
  | activation => exact activationEvent_logs s
  | settings preferred limit => exact settingsEvent_logs _ _ _
  | posts notes =>
    match notes with
    | [] => exact Logs.refl s
    | [n] => exact Logs.post s n
    | n :: m :: ns => exact Logs.post s n

/-- Taking hand-overs only posts records. -/
theorem settled_logs (x : Handed) : Logs x.1 (settled x) := by
  refine settle_induction (fun _ => True) Logs Logs.refl (fun _ _ _ => Logs.trans) ?_ (fun h s _ => handle_logs h s)
    (fun _ _ _ _ _ => trivial) settleFuel x.2 x.1 (fun _ _ => trivial)
  intro s cs
  exact Logs.of_sameBut (setChoices_sameBut s cs) (by simp) (by simp) (by simp)

/-- What was posted first stays first. -/
theorem Posts.of_logs {first : List Note} {s u t : State} (h : QueuesAgree (s.postAll first) u) (k : Logs u t) :
    Posts first s t := by
  obtain ⟨es, k⟩ := k
  refine ⟨es, fun port => ?_⟩
  rw [postAll_append]
  exact ((postAll_congr es h).trans k).2.2 port

/-- With no record posted the queues stand. -/
theorem PostsOnly.refl (s : State) : PostsOnly [] s s := fun _ => ⟨rfl, rfl⟩

theorem PostsOnly.postAll (s : State) (es : List Note) : PostsOnly es s (s.postAll es) := fun _ => ⟨rfl, rfl⟩

/-- Records that are all there are, are the first. -/
theorem PostsOnly.posts {all : List Note} {s t : State} (h : PostsOnly all s t) : Posts all s t :=
  ⟨[], by rwa [List.append_nil]⟩

/-- Records posted first are among those posted. -/
theorem Posts.tells {first : List Note} {s t : State} (h : Posts first s t) : Tells first s t := by
  obtain ⟨more, h⟩ := h
  exact ⟨first ++ more, List.sublist_append_left first more, h⟩

theorem Tells.sublist {fewer notes : List Note} {s t : State} (hsub : fewer.Sublist notes) (h : Tells notes s t) :
    Tells fewer s t := by
  obtain ⟨all, hall, h⟩ := h
  exact ⟨all, hsub.trans hall, h⟩

/-! ### Every hand-over is taken -/

/-- A bound on how many events a hand-over gives rise to, itself among them; the activation's depends on what
is posted, and has no bound here. -/
def HandOver.weight : HandOver → Nat
  | .planner _ _ joined => joined.length + 13
  | .flag .. => 13
  | .alloc .. | .coverage .. | .candidates .. => 1
  | .block .. | .baseKey .. => 25
  | .settings .. => 97
  | .posts ns => max 1 ns.length
  | .activation => 0

theorem allPositions_length : allPositions.length = 24 := by decide

theorem allocEverywhere_weight (e : AllocEvent) : ((allocEverywhere e).map HandOver.weight).sum = 24 := by
  simp [allocEverywhere, List.map_map, Function.comp_def, HandOver.weight, allPositions_length]

theorem members_length (r : RingRec) (side : Side) : (r.members side).length ≤ 12 := by
  refine (List.length_filter_le ..).trans ?_
  simp

theorem sum_map_weight_alloc (f : UnitNo → HandOver) (hf : ∀ u, (f u).weight = 1) (us : List UnitNo) :
    ((us.map f).map HandOver.weight).sum = us.length := by
  induction us with
  | nil => rfl
  | cons u us ih => simp only [List.map_cons, List.sum_cons, ih, hf, List.length_cons]; omega

theorem plannerEvent_weight (path : SpanPort) (cause : CarriageCause) (joined : List UnitNo) (s : State) :
    ((plannerEvent path cause joined s).2.map HandOver.weight).sum + 1 ≤ joined.length + 13 := by
  simp only [plannerEvent, carriageHands, List.map_append, List.sum_append]
  rw [sum_map_weight_alloc _ (fun _ => rfl)]
  split
  · simp
  · rw [sum_map_weight_alloc _ (fun _ => rfl)]
    have h := List.length_filter_le (fun u => decide (u ∈ (plan s path cause (s.carriage.get path)).units ∧ u ∉ joined))
      (List.finRange 12)
    rw [List.length_finRange] at h
    omega

theorem setVoterState_weight (ch : ChannelNo) (new : VoterRec) (cause : TalkCause) (s : State) :
    ((setVoterState ch new cause s).2.map HandOver.weight).sum ≤ 24 := by
  simp only [setVoterState]
  split
  · exact (allocEverywhere_weight _).le
  · split
    · exact (allocEverywhere_weight _).le
    · simp

theorem enterRef_weight (new : RefRec) (cause : RefCause) (s : State) :
    ((enterRef new cause s).2.map HandOver.weight).sum ≤ 24 := by
  simp only [enterRef]
  split
  · simp
  · exact (allocEverywhere_weight _).le

theorem preferenceChanged_weight (s : State) : ((preferenceChanged s).2.map HandOver.weight).sum ≤ 24 := by
  unfold preferenceChanged
  split
  all_goals first
    | simp
    | (split
       · exact enterRef_weight _ _ _
       · simp)

theorem limitChanged_weight (s : State) : ((limitChanged s).2.map HandOver.weight).sum ≤ 48 := by
  unfold limitChanged
  split
  · split
    · simp only [enterFree, andThen, List.map_append, List.sum_append]
      have h1 := enterRef_weight (s.reference.plain .free) .holdoverExpired s
      have h2 : ∀ u, ((passOnFree u).2.map HandOver.weight).sum ≤ 24 := by
        intro u
        unfold passOnFree
        split
        · exact enterRef_weight _ _ _
        · simp
      exact Nat.add_le_add h1 (h2 _)
    · simp
  · simp

/-- Every hand-over but an activation gives rise to less than its weight. -/
theorem handle_weight (h : HandOver) (s : State) (hne : h ≠ .activation) :
    ((handle h s).2.map HandOver.weight).sum + 1 ≤ h.weight := by
  cases h with
  | planner path cause joined => exact plannerEvent_weight _ _ _ _
  | flag path =>
    simp only [handle, flagEvent]
    split
    · simp [HandOver.weight]
    · simpa [HandOver.weight] using plannerEvent_weight path .cls [] s
  | alloc p e => simp [handle, HandOver.weight]
  | coverage ch => simp [handle, HandOver.weight]
  | candidates ch => simp [handle, HandOver.weight]
  | block ch outputs => exact Nat.succ_le_succ (setVoterState_weight _ _ _ _)
  | baseKey ch =>
    have h24 : ((baseKeyed ch true s).2.map HandOver.weight).sum ≤ 24 := by
      simp only [baseKeyed]
      split
      · simp
      · split <;> split <;> exact setVoterState_weight _ _ _ _
    exact Nat.succ_le_succ h24
  | activation => exact absurd rfl hne
  | settings preferred limit =>
    simp only [handle, settingsEvent, andThen, List.map_append, List.sum_append]
    have h1 : ((if preferred = true then preferenceChanged s else (s, [])).2.map HandOver.weight).sum ≤ 24 := by
      split
      · exact preferenceChanged_weight s
      · simp
    generalize (if preferred = true then preferenceChanged s else (s, [])) = u at h1 ⊢
    have h2 : ((if limit = true then limitChanged u.1 else (u.1, [])).2.map HandOver.weight).sum ≤ 48 := by
      split
      · exact limitChanged_weight _
      · simp
    simp only [HandOver.weight]
    omega
  | posts notes =>
    match notes with
    | [] => simp [handle, HandOver.weight]
    | [n] => simp [handle, HandOver.weight]
    | n :: m :: ns => simp [handle, HandOver.weight]

theorem pick_perm (i : Nat) (h : HandOver) (hs : List HandOver) :
    ((pick i h hs).1 :: (pick i h hs).2).Perm (h :: hs) := by
  induction i generalizing h hs with
  | zero => cases hs <;> exact List.Perm.refl _
  | succ i ih =>
    cases hs with
    | nil => exact List.Perm.refl _
    | cons k ks =>
      simp only [pick]
      exact (List.Perm.swap _ _ _).trans ((ih k ks).cons h)

/-- With enough fuel every hand-over is taken: what `target` brings about, and no other undoes, holds in the end. -/
theorem settle_reaches (ok : HandOver → Prop) (Inv Q : State → Prop) (target : HandOver)
    (hok : ∀ h, ok h → h ≠ .activation) (hchoice : ∀ s cs, Inv s → Inv { s with choices := cs })
    (hinv : ∀ h s, ok h → Inv s → Inv (handle h s).1) (hnext : ∀ h s, ok h → ∀ h' ∈ (handle h s).2, ok h')
    (hq : ∀ s, Inv s → Q (handle target s).1) (hkeep : ∀ h s, ok h → Inv s → Q s → Q (handle h s).1)
    (hqchoice : ∀ s cs, Q s → Q { s with choices := cs }) :
    ∀ fuel items s, Inv s → (∀ h ∈ items, ok h) → (items.map HandOver.weight).sum ≤ fuel →
      (Q s ∨ target ∈ items) → Q (settle fuel items s) := by
  intro fuel
  induction fuel with
  | zero =>
    intro items s _ ho hsum hor
    rcases hor with hQ | hm
    · exact hQ
    · have h1 := handle_weight target s (hok _ (ho _ hm))
      have h2 := List.single_le_sum (fun _ _ => Nat.zero_le _) _ (List.mem_map_of_mem (f := HandOver.weight) hm)
      omega
  | succ fuel ih =>
    intro items s hi ho hsum hor
    cases items with
    | nil =>
      rcases hor with hQ | hm
      · exact hQ
      · simp at hm
    | cons h hs =>
      simp only [settle]
      have hperm := pick_perm (nextPlace (hs.length + 1) s.choices).1 h hs
      generalize pick (nextPlace (hs.length + 1) s.choices).1 h hs = x at hperm ⊢
      have hok1 : ok x.1 := ho _ (hperm.mem_iff.1 (List.mem_cons_self ..))
      have hok2 : ∀ k ∈ x.2, ok k := fun k hk => ho _ (hperm.mem_iff.1 (List.mem_cons_of_mem _ hk))
      have hs1 : Inv { s with choices := (nextPlace (hs.length + 1) s.choices).2 } := hchoice _ _ hi
      have hw := handle_weight x.1 { s with choices := (nextPlace (hs.length + 1) s.choices).2 } (hok _ hok1)
      have hp := (hperm.map HandOver.weight).sum_eq
      simp only [List.map_cons, List.sum_cons] at hp hsum
      refine ih _ _ (hinv _ _ hok1 hs1) ?_ ?_ ?_
      · intro k hk
        rcases List.mem_append.1 hk with hk | hk
        · exact hnext _ _ hok1 k hk
        · exact hok2 k hk
      · simp only [List.map_append, List.sum_append]
        omega
      · rcases hor with hQ | hm
        · exact Or.inl (hkeep _ _ hok1 hs1 (hqchoice _ _ hQ))
        · rcases List.mem_cons.1 (hperm.mem_iff.2 hm) with he | hm
          · rw [← he]
            exact Or.inl (hq _ hs1)
          · exact Or.inr (List.mem_append_right _ hm)

/-! ### The records of the break-in unit (R141) -/

theorem BreakInSource.ctorIdx_eq (x : BreakInSource) : x.ctorIdx = x.number := by cases x <;> rfl

theorem onAirNote_eq (r : BreakIn) : onAirNote r = airReport r := by
  cases h : r.player <;> simp [onAirNote, airReport, listField, BreakInSource.ctorIdx_eq, numbered, fromOne, h]

theorem evictedNote_eq (r : BreakIn) (by_ : Nat) : evictedNote r by_ = evictedReport r by_ := by
  cases h : r.state <;> simp [evictedNote, evictedReport, BreakInSource.ctorIdx_eq, h, BreakInState.ctorIdx]

/-! ### What a voter carries (R115) -/

theorem forwards_of_forwarded (v : VoterRec) : Forwards v (votedAudio v.forwarded) := by
  unfold Forwards downlink portalOut
  cases hs : v.state <;> cases hf : v.forwarded <;> simp [voted, votedAudio, hf]

/-! ### Invocations without a reply (R149 to R151) -/

theorem triggerRefusedNote_eq (s : State) (t : TriggerNo) (by_ : Invoker) (a : Answer) :
    triggerRefusedNote s t by_ a = triggerRefusal s t by_.fields a := by
  unfold triggerRefusedNote triggerRefusal
  split <;> simp_all [optField, fromZero]

/-- What an invocation from a contact or the watch can do: its outcome is that of R149 under INCIDENT; accepted, it is
carried out; ALREADY_ACTIVE, nothing; refused, TRIGGER_REFUSED is posted and nothing else. -/
theorem invokeFrom_cases (s : State) (t : TriggerNo) (by_ : Invoker) :
    (invokeFrom s t by_).1 = invocationOutcome s t .incident ∧
    (((invokeFrom s t by_).1 = .accepted ∧ (invokeFrom s t by_).2 = carryOut s t by_.source) ∨
      ((invokeFrom s t by_).1 = .alreadyActive ∧ (invokeFrom s t by_).2 = (s, [])) ∨
      ((invokeFrom s t by_).1 ≠ .accepted ∧ (invokeFrom s t by_).1 ≠ .alreadyActive ∧
        (invokeFrom s t by_).2 = (s.post (triggerRefusal s t by_.fields (invokeFrom s t by_).1), []))) := by
  simp only [invokeFrom, ← triggerRefusedNote_eq]
  split <;> simp_all

end Sys2Proof.Machine
end

