-- ==== Sys2Proof/Laws/Feeds.lean ====
section
/-! SUPPORT. What a recomputation of a ring decides of a unit, and what FEED_CHANGE tells of it: the runs of units that
have entered one state. -/

namespace Sys2Proof.Machine

open Sys2Proof

/-! ### FEED_CHANGE (R52) -/

theorem feedNote_eq_feedRecord (r : Ring) (cause : FeedCause) (g : UnitNo × UnitState × Nat) :
    feedNote r cause g = feedRecord r cause.ctorIdx g.1 g.2.1 g.2.2 := by
  obtain ⟨first, state, n⟩ := g
  cases state <;> cases cause <;> rfl

/-- A unit is in a run. -/
def InRun (g : UnitNo × UnitState × Nat) (v : UnitNo) : Prop := g.1.val ≤ v.val ∧ v.val < g.1.val + g.2.2

/-- The groups of the units below k: the runs of R52, of which the last may go on at k. -/
structure RunsBelow (old new : Vector UnitState 12) (k : Nat) (gs : List (UnitNo × UnitState × Nat)) : Prop where
  size : ∀ g ∈ gs, 0 < g.2.2 ∧ g.1.val + g.2.2 ≤ k
  entered : ∀ g ∈ gs, ∀ v, InRun g v → old[v] ≠ new[v] ∧ new[v] = g.2.1
  ends : ∀ g ∈ gs, ∀ v : UnitNo, v.val + 1 = g.1.val ∨ (v.val = g.1.val + g.2.2 ∧ v.val < k) →
    ¬(old[v] ≠ new[v] ∧ new[v] = g.2.1)
  covers : ∀ v : UnitNo, v.val < k → old[v] ≠ new[v] → ∃ g ∈ gs, InRun g v
  apart : gs.Pairwise fun g h => g.1.val + g.2.2 ≤ h.1.val

/-- One unit more in the fold of `feedGroups`. -/
def feedStep (old new : Vector UnitState 12) (groups : List (UnitNo × UnitState × Nat)) (u : UnitNo) :
    List (UnitNo × UnitState × Nat) :=
  if old[u] = new[u] then groups
  else match groups.getLast? with
    | some (first, state, n) =>
      if state = new[u] ∧ first.val + n = u.val then groups.dropLast ++ [(first, state, n + 1)]
      else groups ++ [(u, new[u], 1)]
    | none => [(u, new[u], 1)]

theorem feedGroups_eq (old new : Vector UnitState 12) : feedGroups old new = (List.finRange 12).foldl (feedStep old new) [] :=
  rfl

theorem RunsBelow.nil (old new : Vector UnitState 12) : RunsBelow old new 0 [] :=
  ⟨by simp, by simp, by simp, by simp, by simp⟩

theorem RunsBelow.step {old new : Vector UnitState 12} {gs : List (UnitNo × UnitState × Nat)} (u : UnitNo)
    (h : RunsBelow old new u.val gs) : RunsBelow old new (u.val + 1) (feedStep old new gs u) := by
  unfold feedStep
  split
  next same =>
    refine ⟨fun g hg => ⟨(h.size g hg).1, Nat.le_succ_of_le (h.size g hg).2⟩, h.entered, ?_, ?_, h.apart⟩
    · rintro g hg v (hv | ⟨hv, hk⟩) he
      · exact h.ends g hg v (.inl hv) he
      · rcases Nat.lt_or_ge v.val u.val with hlt | hge
        · exact h.ends g hg v (.inr ⟨hv, hlt⟩) he
        · obtain rfl : v = u := Fin.ext (by omega)
          exact he.1 same
    · intro v hv hne
      rcases Nat.lt_or_ge v.val u.val with hlt | hge
      · exact h.covers v hlt hne
      · obtain rfl : v = u := Fin.ext (by omega)
        exact absurd same hne
  next changed =>
    -- a group that reaches u is the last one
    have reaches : ∀ g ∈ gs, g.1.val + g.2.2 = u.val → gs.getLast? = some g := by
      intro g hg hend
      obtain ⟨before, after, rfl⟩ := List.append_of_mem hg
      rcases List.eq_nil_or_concat after with rfl | ⟨mid, l, rfl⟩
      · simp
      · exfalso
        have hp := List.pairwise_append.1 h.apart
        have := (List.pairwise_cons.1 hp.2.1).1 l (by simp)
        have := h.size l (by simp)
        omega
    have fresh : (∀ g, gs.getLast? = some g → ¬(g.2.1 = new[u] ∧ g.1.val + g.2.2 = u.val)) →
        RunsBelow old new (u.val + 1) (gs ++ [(u, new[u], 1)]) := by
      intro hno
      refine ⟨?_, ?_, ?_, ?_, ?_⟩
      · intro g hg
        rcases List.mem_append.1 hg with hg | hg
        · have := h.size g hg; omega
        · simp at hg; subst hg; simp
      · intro g hg v hv
        rcases List.mem_append.1 hg with hg | hg
        · exact h.entered g hg v hv
        · simp at hg; subst hg
          obtain rfl : v = u := Fin.ext (by simp [InRun] at hv; omega)
          exact ⟨changed, rfl⟩
      · intro g hg v hv he
        rcases List.mem_append.1 hg with hg | hg
        · rcases hv with hv | ⟨hv, hk⟩
          · exact h.ends g hg v (.inl hv) he
          · rcases Nat.lt_or_ge v.val u.val with hlt | hge
            · exact h.ends g hg v (.inr ⟨hv, hlt⟩) he
            · obtain rfl : v = u := Fin.ext (by omega)
              exact hno g (reaches g ‹_› hv.symm) ⟨he.2.symm, hv.symm⟩
        · simp at hg; subst hg
          have hv' : v.val + 1 = u.val := by simp at hv; omega
          obtain ⟨g, hg, hh⟩ := h.covers v (by omega) he.1
          have hs := h.size g hg
          have hend : g.1.val + g.2.2 = u.val := by simp [InRun] at hh; omega
          exact hno g (reaches g hg hend) ⟨((h.entered g hg v hh).2.symm.trans he.2), hend⟩
      · intro v hv hne
        rcases Nat.lt_or_ge v.val u.val with hlt | hge
        · obtain ⟨g, hg, hh⟩ := h.covers v hlt hne
          exact ⟨g, by simp [hg], hh⟩
        · exact ⟨(u, new[u], 1), by simp, by simp [InRun]; omega⟩
      · refine List.pairwise_append.2 ⟨h.apart, by simp, fun g hg l hl => ?_⟩
        simp at hl; subst hl
        exact (h.size g hg).2
    split
    next first state n hlast =>
      split
      next hc =>
        obtain ⟨init, rfl⟩ : ∃ init, gs = init ++ [(first, state, n)] :=
          ⟨gs.dropLast, (List.dropLast_append_getLast? _ hlast).symm⟩
        simp only [List.dropLast_concat]
        have hp := List.pairwise_append.1 h.apart
        have hl := h.size (first, state, n) (by simp)
        have hbefore : ∀ g ∈ init, g.1.val + g.2.2 ≤ first.val := fun g hg => hp.2.2 g hg (first, state, n) (by simp)
        refine ⟨?_, ?_, ?_, ?_, ?_⟩
        · intro g hg
          rcases List.mem_append.1 hg with hg | hg
          · have := h.size g (by simp [hg]); omega
          · simp at hg; subst hg; simp at hl ⊢; omega
        · intro g hg v hv
          rcases List.mem_append.1 hg with hg | hg
          · exact h.entered g (by simp [hg]) v hv
          · simp at hg; subst hg
            rcases Nat.lt_or_ge v.val u.val with hlt | hge
            · exact h.entered (first, state, n) (by simp) v (by simp [InRun] at hv ⊢; omega)
            · obtain rfl : v = u := Fin.ext (by simp [InRun] at hv; omega)
              exact ⟨changed, hc.1.symm⟩
        · intro g hg v hv
          rcases List.mem_append.1 hg with hg | hg
          · refine h.ends g (by simp [hg]) v ?_
            have := hbefore g hg
            simp at hl; omega
          · simp at hg; subst hg
            have hv' : v.val + 1 = first.val := by simp at hv hl; omega
            exact h.ends (first, state, n) (by simp) v (.inl hv')
        · intro v hv hne
          rcases Nat.lt_or_ge v.val u.val with hlt | hge
          · obtain ⟨g, hg, hh⟩ := h.covers v hlt hne
            rcases List.mem_append.1 hg with hg | hg
            · exact ⟨g, by simp [hg], hh⟩
            · simp at hg; subst hg
              exact ⟨(first, state, n + 1), by simp, by simp [InRun] at hh ⊢; omega⟩
          · exact ⟨(first, state, n + 1), by simp, by simp [InRun]; simp at hl; omega⟩
        · exact List.pairwise_append.2 ⟨hp.1, by simp, fun g hg l hl => by simp at hl; subst hl; exact hbefore g hg⟩
      next hc =>
        exact fresh fun g hg => by rw [hlast] at hg; cases hg; exact hc
    next hlast =>
      have := fresh (by simp [hlast])
      rw [List.getLast?_eq_none_iff] at hlast
      simpa [hlast] using this

theorem feedGroups_runs (old new : Vector UnitState 12) : RunsBelow old new 12 (feedGroups old new) := by
  have : ∀ k ≤ 12, RunsBelow old new k (((List.finRange 12).take k).foldl (feedStep old new) []) := by
    intro k
    induction k with
    | zero => intro _; exact RunsBelow.nil old new
    | succ k ih =>
      intro hk
      have h := ih (by omega)
      rw [List.take_succ_eq_append_getElem (by simpa using hk), List.foldl_append]
      simpa using RunsBelow.step (⟨k, by omega⟩ : UnitNo) h
  rw [feedGroups_eq, ← List.take_of_length_le (l := List.finRange 12) (i := 12) (by simp)]
  exact this 12 (Nat.le_refl _)

/-- The records that a recomputation posts are those of the runs of R52. -/
theorem feedGroups_reported (r : Ring) (cause : FeedCause) (old new : Vector UnitState 12) :
    FeedReported r cause.ctorIdx old new ((feedGroups old new).map (feedNote r cause)) := by
  have h := feedGroups_runs old new
  refine ⟨feedGroups old new, by simp [feedNote_eq_feedRecord], fun g hg => ?_, fun v hv => h.covers v v.isLt hv, h.apart⟩
  exact ⟨(h.size g hg).1, (h.size g hg).2, fun v hv => h.entered g hg v hv, fun v hv => h.ends g hg v
    (hv.imp id fun hv => ⟨hv, v.isLt⟩)⟩

/-! ### Decisions (R49 to R51) -/

/-- One unit more in the fold of `judgeUnits`. -/
def judgeStep (s : State) (r : Ring) (a b : Vector Bool 12) (which : UnitNo → Bool) (units : Vector UnitState 12)
    (u : UnitNo) : Vector UnitState 12 :=
  if which u then
    units.set u (judgeUnit s r a b u units[u]
      ((List.finRange 12).any fun v => decide (v.val < u.val) && units[v] = .fedB))
  else units

theorem judgeStep_other (s : State) (r : Ring) (a b : Vector Bool 12) (which : UnitNo → Bool)
    (units : Vector UnitState 12) (u v : UnitNo) (h : v ≠ u) : (judgeStep s r a b which units u)[v] = units[v] := by
  unfold judgeStep
  split
  · exact Vector.getElem_set_ne _ _ fun he => h (Fin.ext he.symm)
  · rfl

theorem judgeStep_self (s : State) (r : Ring) (a b : Vector Bool 12) (which : UnitNo → Bool)
    (units : Vector UnitState 12) (u : UnitNo) : (judgeStep s r a b which units u)[u] =
      if which u then judgeUnit s r a b u units[u] (decide (∃ v < u, units[v] = .fedB)) else units[u] := by
  have hlow : ((List.finRange 12).any fun v => decide (v.val < u.val) && units[v] = .fedB) =
      decide (∃ v < u, units[v] = .fedB) := by
    rw [Bool.eq_iff_iff, decide_eq_true_iff, List.any_eq_true]
    simp
  unfold judgeStep
  rw [hlow]
  split
  · exact Vector.getElem_set_self _
  · rfl

/-- A fold of `judgeStep` over units that do not hold v leaves v alone. -/
theorem judgeFold_other (s : State) (r : Ring) (a b : Vector Bool 12) (which : UnitNo → Bool) (us : List UnitNo)
    (v : UnitNo) (h : v ∉ us) (units : Vector UnitState 12) :
    (us.foldl (judgeStep s r a b which) units)[v] = units[v] := by
  induction us generalizing units with
  | nil => rfl
  | cons u us ih =>
    rw [List.foldl_cons, ih (fun hm => h (.tail _ hm)), judgeStep_other _ _ _ _ _ _ _ _ fun he => h (by simp [he])]

/-- What a decision of a ring's units leaves of each: a unit that is not of `which` stays; one that is has been judged from
its old state, with the lower units as they have been decided. -/
theorem judgeUnits_get (s : State) (r : Ring) (a b : Vector Bool 12) (which : UnitNo → Bool) (old : Vector UnitState 12)
    (u : UnitNo) :
    let new := judgeUnits s r a b which old
    new[u] = if which u then judgeUnit s r a b u old[u] (decide (∃ v < u, new[v] = .fedB)) else old[u] := by
  intro new
  have hnew : new = (List.finRange 12).foldl (judgeStep s r a b which) old := rfl
  obtain ⟨before, after, hsplit⟩ := List.append_of_mem (List.mem_finRange u)
  have hsort : (before ++ u :: after).Pairwise (· < ·) := hsplit ▸ List.pairwise_lt_finRange 12
  have hp := List.pairwise_append.1 hsort
  have lower (v : UnitNo) (hv : v ∈ before) : v < u := hp.2.2 v hv u (by simp)
  have higher (v : UnitNo) (hv : v ∈ after) : u < v := (List.pairwise_cons.1 hp.2.1).1 v hv
  have mid : ∀ v, v < u → new[v] = (before.foldl (judgeStep s r a b which) old)[v] := by
    intro v hv
    rw [hnew, hsplit, List.foldl_append, List.foldl_cons,
      judgeFold_other _ _ _ _ _ _ _ (fun h => absurd (higher v h) (lt_asymm hv)),
      judgeStep_other _ _ _ _ _ _ _ _ hv.ne]
  have at_ : new[u] = (judgeStep s r a b which (before.foldl (judgeStep s r a b which) old) u)[u] := by
    rw [hnew, hsplit, List.foldl_append, List.foldl_cons,
      judgeFold_other _ _ _ _ _ _ _ (fun h => absurd (higher u h) (lt_irrefl u))]
  have stays : (before.foldl (judgeStep s r a b which) old)[u] = old[u] :=
    judgeFold_other _ _ _ _ _ _ _ (fun h => absurd (lower u h) (lt_irrefl u)) _
  have hlow : (∃ v < u, (before.foldl (judgeStep s r a b which) old)[v] = .fedB) ↔ ∃ v < u, new[v] = .fedB :=
    exists_congr fun v => and_congr_right fun hv => by rw [mid v hv]
  rw [at_, judgeStep_self, stays]
  simp only [hlow]

/-- R51, for a unit that is judged and reachable from A. -/
theorem decideUnit_reached (old : UnitState) (b lowerB : Bool) :
    (old = .fedA → decideUnit old true b lowerB = .fedA) ∧
    (old = .fedB → decideUnit old true b lowerB = if b then .fedB else .fedA) ∧
    (old ≠ .fedA → old ≠ .fedB → decideUnit old true b lowerB = if lowerB then .fedB else .fedA) := by
  cases old <;> simp [decideUnit]

end Sys2Proof.Machine
end

