-- ==== Sys2Proof/Laws/PerInstr.lean ====
section
/-! SUPPORT. Statements for every command, one lemma for each constructor of `Instr`. -/

namespace Sys2Proof.Laws

open Sys2Proof

/-! ### The kind value of a request (R172): 16 times its group 0 to 7, and its place in the group from 1 up -/

/-- The kind value of a command that is a request is 1 to 127, and its place in its group is not 0. -/
def RequestKind.Statement (i : Instr) : Prop :=
  ∀ port tag r, i.request? = some (port, tag, r) →
    1 ≤ Request.kind r ∧ Request.kind r < 128 ∧ Request.kind r % 16 ≠ 0

theorem RequestKind.powerOn :
    RequestKind.Statement (.powerOn) := by
  rintro _ _ _ ⟨⟩

theorem RequestKind.resetLine :
    RequestKind.Statement (.resetLine) := by
  rintro _ _ _ ⟨⟩

theorem RequestKind.supplyDip :
    RequestKind.Statement (.supplyDip) := by
  rintro _ _ _ ⟨⟩

theorem RequestKind.resetEnd (straps : Nat) (written : List StoreKey) :
    RequestKind.Statement (.resetEnd straps written) := by
  rintro _ _ _ ⟨⟩

theorem RequestKind.exchangeOpen (port : MgmtPort) :
    RequestKind.Statement (.exchangeOpen port) := by
  rintro _ _ _ ⟨⟩

theorem RequestKind.portSync (port : MgmtPort) :
    RequestKind.Statement (.portSync port) := by
  rintro _ _ _ ⟨⟩

theorem RequestKind.exchangeEnd (port : MgmtPort) (midFrame : Bool) :
    RequestKind.Statement (.exchangeEnd port midFrame) := by
  rintro _ _ _ ⟨⟩

theorem RequestKind.framingFault (port : MgmtPort) (cause : FramingCause) :
    RequestKind.Statement (.framingFault port cause) := by
  rintro _ _ _ ⟨⟩

theorem RequestKind.requestFrameReceived (port : MgmtPort) (kind : Byte) (tag : Byte) (payload : List Byte) :
    RequestKind.Statement (.requestFrameReceived port kind tag payload) := by
  rintro _ _ _ ⟨⟩

theorem RequestKind.replyClockedOut (port : MgmtPort) :
    RequestKind.Statement (.replyClockedOut port) := by
  rintro _ _ _ ⟨⟩

theorem RequestKind.storeWriteComplete (key : StoreKey) :
    RequestKind.Statement (.storeWriteComplete key) := by
  rintro _ _ _ ⟨⟩

theorem RequestKind.hello (port : MgmtPort) (tag : Byte) :
    RequestKind.Statement (.hello port tag) := by
  rintro _ _ _ ⟨⟩
  simp [Request.kind]

theorem RequestKind.status (port : MgmtPort) (tag : Byte) :
    RequestKind.Statement (.status port tag) := by
  rintro _ _ _ ⟨⟩
  simp [Request.kind]

theorem RequestKind.keepalive (port : MgmtPort) (tag : Byte) :
    RequestKind.Statement (.keepalive port tag) := by
  rintro _ _ _ ⟨⟩
  simp [Request.kind]

theorem RequestKind.readEvents (port : MgmtPort) (tag : Byte) :
    RequestKind.Statement (.readEvents port tag) := by
  rintro _ _ _ ⟨⟩
  simp [Request.kind]

theorem RequestKind.permitSet (port : MgmtPort) (tag : Byte) (target : Nat) (groups : List Nat) :
    RequestKind.Statement (.permitSet port tag target groups) := by
  rintro _ _ _ ⟨⟩
  simp [Request.kind]

theorem RequestKind.watchSet (port : MgmtPort) (tag : Byte) (window : Int) :
    RequestKind.Statement (.watchSet port tag window) := by
  rintro _ _ _ ⟨⟩
  simp [Request.kind]

theorem RequestKind.restart (port : MgmtPort) (tag : Byte) :
    RequestKind.Statement (.restart port tag) := by
  rintro _ _ _ ⟨⟩
  simp [Request.kind]

theorem RequestKind.carrierGet (port : MgmtPort) (tag : Byte) (carrier : Nat) :
    RequestKind.Statement (.carrierGet port tag carrier) := by
  rintro _ _ _ ⟨⟩
  simp [Request.kind]

theorem RequestKind.carrierSet (port : MgmtPort) (tag : Byte) (a : CarrierSetArgs) :
    RequestKind.Statement (.carrierSet port tag a) := by
  rintro _ _ _ ⟨⟩
  simp [Request.kind]

theorem RequestKind.carrierClear (port : MgmtPort) (tag : Byte) (carrier : Nat) :
    RequestKind.Statement (.carrierClear port tag carrier) := by
  rintro _ _ _ ⟨⟩
  simp [Request.kind]

theorem RequestKind.ruGet (port : MgmtPort) (tag : Byte) (position : Nat) :
    RequestKind.Statement (.ruGet port tag position) := by
  rintro _ _ _ ⟨⟩
  simp [Request.kind]

theorem RequestKind.ruSet (port : MgmtPort) (tag : Byte) (a : RuSetArgs) :
    RequestKind.Statement (.ruSet port tag a) := by
  rintro _ _ _ ⟨⟩
  simp [Request.kind]

theorem RequestKind.zoneGet (port : MgmtPort) (tag : Byte) (zone : Nat) :
    RequestKind.Statement (.zoneGet port tag zone) := by
  rintro _ _ _ ⟨⟩
  simp [Request.kind]

theorem RequestKind.zoneSet (port : MgmtPort) (tag : Byte) (a : ZoneSetArgs) :
    RequestKind.Statement (.zoneSet port tag a) := by
  rintro _ _ _ ⟨⟩
  simp [Request.kind]

theorem RequestKind.ruAllocation (port : MgmtPort) (tag : Byte) (position : Nat) :
    RequestKind.Statement (.ruAllocation port tag position) := by
  rintro _ _ _ ⟨⟩
  simp [Request.kind]

theorem RequestKind.portStatus (port : MgmtPort) (tag : Byte) (span : Nat) :
    RequestKind.Statement (.portStatus port tag span) := by
  rintro _ _ _ ⟨⟩
  simp [Request.kind]

theorem RequestKind.ringStatus (port : MgmtPort) (tag : Byte) (ring : Nat) :
    RequestKind.Statement (.ringStatus port tag ring) := by
  rintro _ _ _ ⟨⟩
  simp [Request.kind]

theorem RequestKind.portRenegotiate (port : MgmtPort) (tag : Byte) (span : Nat) :
    RequestKind.Statement (.portRenegotiate port tag span) := by
  rintro _ _ _ ⟨⟩
  simp [Request.kind]

theorem RequestKind.portConfig (port : MgmtPort) (tag : Byte) (a : PortConfigArgs) :
    RequestKind.Statement (.portConfig port tag a) := by
  rintro _ _ _ ⟨⟩
  simp [Request.kind]

theorem RequestKind.portEnable (port : MgmtPort) (tag : Byte) (span : Nat) :
    RequestKind.Statement (.portEnable port tag span) := by
  rintro _ _ _ ⟨⟩
  simp [Request.kind]

theorem RequestKind.portDisable (port : MgmtPort) (tag : Byte) (span : Nat) :
    RequestKind.Statement (.portDisable port tag span) := by
  rintro _ _ _ ⟨⟩
  simp [Request.kind]

theorem RequestKind.spanTestStart (port : MgmtPort) (tag : Byte) (a : SpanTestArgs) :
    RequestKind.Statement (.spanTestStart port tag a) := by
  rintro _ _ _ ⟨⟩
  simp [Request.kind]

theorem RequestKind.spanTestStop (port : MgmtPort) (tag : Byte) (span : Nat) :
    RequestKind.Statement (.spanTestStop port tag span) := by
  rintro _ _ _ ⟨⟩
  simp [Request.kind]

theorem RequestKind.ringRevert (port : MgmtPort) (tag : Byte) (ring : Nat) :
    RequestKind.Statement (.ringRevert port tag ring) := by
  rintro _ _ _ ⟨⟩
  simp [Request.kind]

theorem RequestKind.refStatus (port : MgmtPort) (tag : Byte) :
    RequestKind.Statement (.refStatus port tag) := by
  rintro _ _ _ ⟨⟩
  simp [Request.kind]

theorem RequestKind.refConfig (port : MgmtPort) (tag : Byte) (a : RefConfigArgs) :
    RequestKind.Statement (.refConfig port tag a) := by
  rintro _ _ _ ⟨⟩
  simp [Request.kind]

theorem RequestKind.refForceHoldover (port : MgmtPort) (tag : Byte) :
    RequestKind.Statement (.refForceHoldover port tag) := by
  rintro _ _ _ ⟨⟩
  simp [Request.kind]

theorem RequestKind.refResume (port : MgmtPort) (tag : Byte) :
    RequestKind.Statement (.refResume port tag) := by
  rintro _ _ _ ⟨⟩
  simp [Request.kind]

theorem RequestKind.rescueStatus (port : MgmtPort) (tag : Byte) (channel : Nat) :
    RequestKind.Statement (.rescueStatus port tag channel) := by
  rintro _ _ _ ⟨⟩
  simp [Request.kind]

theorem RequestKind.consoleKey (port : MgmtPort) (tag : Byte) (channel : Nat) :
    RequestKind.Statement (.consoleKey port tag channel) := by
  rintro _ _ _ ⟨⟩
  simp [Request.kind]

theorem RequestKind.consoleUnkey (port : MgmtPort) (tag : Byte) (channel : Nat) :
    RequestKind.Statement (.consoleUnkey port tag channel) := by
  rintro _ _ _ ⟨⟩
  simp [Request.kind]

theorem RequestKind.voterConfig (port : MgmtPort) (tag : Byte) (a : VoterConfigArgs) :
    RequestKind.Statement (.voterConfig port tag a) := by
  rintro _ _ _ ⟨⟩
  simp [Request.kind]

theorem RequestKind.breakinList (port : MgmtPort) (tag : Byte) :
    RequestKind.Statement (.breakinList port tag) := by
  rintro _ _ _ ⟨⟩
  simp [Request.kind]

theorem RequestKind.breakinPost (port : MgmtPort) (tag : Byte) (a : BreakInArgs) :
    RequestKind.Statement (.breakinPost port tag a) := by
  rintro _ _ _ ⟨⟩
  simp [Request.kind]

theorem RequestKind.breakinWithdraw (port : MgmtPort) (tag : Byte) (request : Nat) :
    RequestKind.Statement (.breakinWithdraw port tag request) := by
  rintro _ _ _ ⟨⟩
  simp [Request.kind]

theorem RequestKind.clipList (port : MgmtPort) (tag : Byte) (clip : Nat) :
    RequestKind.Statement (.clipList port tag clip) := by
  rintro _ _ _ ⟨⟩
  simp [Request.kind]

theorem RequestKind.clipOpen (port : MgmtPort) (tag : Byte) (clip : Nat) (pages : Nat) :
    RequestKind.Statement (.clipOpen port tag clip pages) := by
  rintro _ _ _ ⟨⟩
  simp [Request.kind]

theorem RequestKind.clipPage (port : MgmtPort) (tag : Byte) (clip : Nat) (index : Nat) (payload : List Byte) :
    RequestKind.Statement (.clipPage port tag clip index payload) := by
  rintro _ _ _ ⟨⟩
  simp [Request.kind]

theorem RequestKind.clipDelete (port : MgmtPort) (tag : Byte) (clip : Nat) :
    RequestKind.Statement (.clipDelete port tag clip) := by
  rintro _ _ _ ⟨⟩
  simp [Request.kind]

theorem RequestKind.planRead (port : MgmtPort) (tag : Byte) (selector : Nat) :
    RequestKind.Statement (.planRead port tag selector) := by
  rintro _ _ _ ⟨⟩
  simp [Request.kind]

theorem RequestKind.stackRead (port : MgmtPort) (tag : Byte) :
    RequestKind.Statement (.stackRead port tag) := by
  rintro _ _ _ ⟨⟩
  simp [Request.kind]

theorem RequestKind.invoke (port : MgmtPort) (tag : Byte) (trigger : Nat) :
    RequestKind.Statement (.invoke port tag trigger) := by
  rintro _ _ _ ⟨⟩
  simp [Request.kind]

theorem RequestKind.standDown (port : MgmtPort) (tag : Byte) :
    RequestKind.Statement (.standDown port tag) := by
  rintro _ _ _ ⟨⟩
  simp [Request.kind]

theorem RequestKind.standDownAll (port : MgmtPort) (tag : Byte) :
    RequestKind.Statement (.standDownAll port tag) := by
  rintro _ _ _ ⟨⟩
  simp [Request.kind]

theorem RequestKind.planLoad (port : MgmtPort) (tag : Byte) (plan : Nat) (record : Option PlanArgs) :
    RequestKind.Statement (.planLoad port tag plan record) := by
  rintro _ _ _ ⟨⟩
  simp [Request.kind]

theorem RequestKind.triggerSet (port : MgmtPort) (tag : Byte) (a : TriggerSetArgs) :
    RequestKind.Statement (.triggerSet port tag a) := by
  rintro _ _ _ ⟨⟩
  simp [Request.kind]

theorem RequestKind.contactSet (port : MgmtPort) (tag : Byte) (a : ContactSetArgs) :
    RequestKind.Statement (.contactSet port tag a) := by
  rintro _ _ _ ⟨⟩
  simp [Request.kind]

theorem RequestKind.pageEnd (player : PlayerNo) :
    RequestKind.Statement (.pageEnd player) := by
  rintro _ _ _ ⟨⟩

theorem RequestKind.breakTimerExpiry (span : SpanPort) :
    RequestKind.Statement (.breakTimerExpiry span) := by
  rintro _ _ _ ⟨⟩

theorem RequestKind.advertisementReceived (span : SpanPort) (grades : GradeSet) (ack : Bool) (identity : Nat) :
    RequestKind.Statement (.advertisementReceived span grades ack identity) := by
  rintro _ _ _ ⟨⟩

theorem RequestKind.idlePatternReceived (span : SpanPort) (pattern : IdlePattern) :
    RequestKind.Statement (.idlePatternReceived span pattern) := by
  rintro _ _ _ ⟨⟩

theorem RequestKind.advertiseTimerExpiry (span : SpanPort) :
    RequestKind.Statement (.advertiseTimerExpiry span) := by
  rintro _ _ _ ⟨⟩

theorem RequestKind.lossOfSignal (span : SpanPort) :
    RequestKind.Statement (.lossOfSignal span) := by
  rintro _ _ _ ⟨⟩

theorem RequestKind.signalRestored (span : SpanPort) :
    RequestKind.Statement (.signalRestored span) := by
  rintro _ _ _ ⟨⟩

theorem RequestKind.beaconReceived (span : SpanPort) (beacon : Beacon) :
    RequestKind.Statement (.beaconReceived span beacon) := by
  rintro _ _ _ ⟨⟩

theorem RequestKind.silenceTimerExpiry (position : Position) :
    RequestKind.Statement (.silenceTimerExpiry position) := by
  rintro _ _ _ ⟨⟩

theorem RequestKind.waitToRestoreExpiry (ring : Ring) :
    RequestKind.Statement (.waitToRestoreExpiry ring) := by
  rintro _ _ _ ⟨⟩

theorem RequestKind.uplinkBlockArrival (span : SpanPort) (block : UplinkBlock) :
    RequestKind.Statement (.uplinkBlockArrival span block) := by
  rintro _ _ _ ⟨⟩

theorem RequestKind.blockTick :
    RequestKind.Statement (.blockTick) := by
  rintro _ _ _ ⟨⟩

theorem RequestKind.slipBurstClear (span : SpanPort) :
    RequestKind.Statement (.slipBurstClear span) := by
  rintro _ _ _ ⟨⟩

theorem RequestKind.hangExpiry (channel : ChannelNo) :
    RequestKind.Statement (.hangExpiry channel) := by
  rintro _ _ _ ⟨⟩

theorem RequestKind.keyLimitExpiry (channel : ChannelNo) :
    RequestKind.Statement (.keyLimitExpiry channel) := by
  rintro _ _ _ ⟨⟩

theorem RequestKind.baseKeyChange (channel : ChannelNo) (asserted : Bool) :
    RequestKind.Statement (.baseKeyChange channel asserted) := by
  rintro _ _ _ ⟨⟩

theorem RequestKind.testLock (span : SpanPort) :
    RequestKind.Statement (.testLock span) := by
  rintro _ _ _ ⟨⟩

theorem RequestKind.testLockTimeout (span : SpanPort) :
    RequestKind.Statement (.testLockTimeout span) := by
  rintro _ _ _ ⟨⟩

theorem RequestKind.spanTestTimerExpiry (span : SpanPort) :
    RequestKind.Statement (.spanTestTimerExpiry span) := by
  rintro _ _ _ ⟨⟩

theorem RequestKind.sourceSignalChange (source : Source) (valid : Bool) :
    RequestKind.Statement (.sourceSignalChange source valid) := by
  rintro _ _ _ ⟨⟩

theorem RequestKind.sourcePresent (source : Source) :
    RequestKind.Statement (.sourcePresent source) := by
  rintro _ _ _ ⟨⟩

theorem RequestKind.sourceAbsent (source : Source) :
    RequestKind.Statement (.sourceAbsent source) := by
  rintro _ _ _ ⟨⟩

theorem RequestKind.warmupEnd :
    RequestKind.Statement (.warmupEnd) := by
  rintro _ _ _ ⟨⟩

theorem RequestKind.measurement (offset : Int) :
    RequestKind.Statement (.measurement offset) := by
  rintro _ _ _ ⟨⟩

theorem RequestKind.switchTimerExpiry :
    RequestKind.Statement (.switchTimerExpiry) := by
  rintro _ _ _ ⟨⟩

theorem RequestKind.holdoverExpiry :
    RequestKind.Statement (.holdoverExpiry) := by
  rintro _ _ _ ⟨⟩

theorem RequestKind.contactLevelChange (contact : ContactNo) (level : Level) :
    RequestKind.Statement (.contactLevelChange contact level) := by
  rintro _ _ _ ⟨⟩

theorem RequestKind.debounceTimerExpiry (contact : ContactNo) :
    RequestKind.Statement (.debounceTimerExpiry contact) := by
  rintro _ _ _ ⟨⟩

theorem RequestKind.watchExpiry :
    RequestKind.Statement (.watchExpiry) := by
  rintro _ _ _ ⟨⟩

theorem RequestKind.testBitError (span : SpanPort) :
    RequestKind.Statement (.testBitError span) := by
  rintro _ _ _ ⟨⟩

end Sys2Proof.Laws
end

