-- ==== Sys2Proof/Tests/Slice0.lean ====
section
/-! SUPPORT. Tests: the smoke test of WellFormed, cases worked out in the manual, and for every statement that has
hypotheses a state and operands that meet them. -/

namespace Sys2Proof.Tests

open Sys2Proof Sys2Proof.Machine

-- One theorem after another: each kernel evaluation would otherwise hold a thread of its own.
set_option Elab.async false

/-! ### Helpers -/

/-- The state a command leaves. -/
def after (i : Instr) (s : State) : State :=
  match exec i s with
  | .next t => t
  | _ => s

/-- The state after reset with both ports SYNCED, port 0 with MAINTAIN. -/
def desk : State := { State.reset with
  straps := 3
  mgmt := ⟨{ MgmtRec.start .maintain .powerOn 3 with synced := true },
    { MgmtRec.start .incident .powerOn 3 with synced := true }⟩ }

/-- `desk` ten seconds on, so that what is timed since reset can end. -/
def later : State := { desk with now := 10000 }

/-- `desk` with another record for port 0. -/
def deskWith (f : MgmtRec → MgmtRec) : State := { desk with mgmt := ⟨f desk.mgmt.control, desk.mgmt.console⟩ }

/-- `desk` with other tables in working form. -/
def tables (f : Store → Store) : State := { desk with work := f desk.work }

/-- `desk` with a reset running. -/
def dark : State := { desk with causes := [.powerOn] }

/-- `desk` with another record for port NA. -/
def portNA (f : Span → Span) : State := { desk with spans := { desk.spans with na := f desk.spans.na } }

/-- Port NA. -/
abbrev na : SpanPort := ⟨.n, .a⟩

/-- Position N1. -/
abbrev n1 : Position := ⟨.n, 0⟩

/-- `desk` with port NA in UP at grade 3. -/
def lit : State := portNA fun x => { x with state := .up .g3 .negotiated, timer := none }

/-- `desk` with port NA in TEST. -/
def tested (loop : Loop) : State := portNA fun x =>
  { x with state := .test, timer := none, test := some ⟨.short, loop, 600, 0, true, 65535⟩ }

/-- `desk` with another reference state record. -/
def clocked (f : RefRec → RefRec) : State := { desk with reference := f desk.reference }

/-- A beacon of N1 as it stands there. -/
def beaconN1 : Beacon := ⟨7, .n, 1, some .g4, some .g4, .ok, false⟩

/-- A block that carries nothing. -/
def silent : UplinkBlock := Vector.replicate 12 (Vector.replicate 4 ⟨0, 0⟩)

/-- `desk` with another voter record for RC1. -/
def voting (f : VoterRec → VoterRec) : State := desk.setVoter 0 (f desk.voters[(0 : ChannelNo)])

/-- A break-in request of clip 1 in zone 1 on player 1. -/
def onAir (id priority : Nat) : BreakIn := ⟨id, .controlPort, none, [0], [0], priority, 1, 1, 0, 0, .onAir, some 0, [0], id, 0⟩

/-- A break-in request of clip 1 in zone 1 that waits. -/
def waiting (id priority : Nat) : BreakIn :=
  ⟨id, .controlPort, none, [0], [0], priority, 1, 1, 0, 0, .waiting, none, [], id, 0⟩

/-- `desk` with clip 1 READY with one page and a queue in which the first request is on air. -/
def airing (q : List BreakIn) : State := { tables (fun w => { w with clips := w.clips.set 0 ⟨.ready, 0, 1, 1⟩ }) with
  breakin := ⟨q, q.length, (Vector.replicate 8 false).set 0 !q.isEmpty, desk.breakin.heard⟩ }

/-- A full queue of priority 3. -/
def full : List BreakIn := onAir 1 3 :: [2, 3, 4, 5, 6, 7, 8].map (waiting · 3)

/-- `desk` with N1 and N2 FED_A, a path that carries rescue carrier 1 of RC1 and mobile carrier 9, RC1 in BASE and the
gate open, and N1's allocation made of that. -/
def fed : State :=
  let ws : List (Wanted × Nat) := [(⟨0, .rescue, some 0, 270⟩, 1), (⟨8, .mobile, none, 270⟩, 5)]
  [AllocEvent.gate, .rescue 0, .feed].foldl (fun s e => allocEvent n1 e s)
    { tables (fun w => { w with
        catalogue := (w.catalogue.set 0 (some ⟨.rescue, 4, some 0, none⟩)).set 8 (some ⟨.mobile, 1, none, none⟩)
        units := { w.units with n := w.units.n.set 1 ⟨true, none, 300, 10, 0⟩ } }) with
      rings := { desk.rings with n := { desk.rings.n with units := (desk.rings.n.units.set 0 .fedA).set 1 .fedA } }
      carriage := { desk.carriage with na := ⟨[(0, 270), (8, 270)], [0, 1], some 8, false, ws.map (·.1), ws, []⟩ }
      reference := { desk.reference with state := .locked }
      voters := desk.voters.set 0 { desk.voters[(0 : ChannelNo)] with
        state := .base, baseKey := true, covers := ⟨true, false⟩, cands := [⟨n1, none⟩] } }

/-! ### WellFormed refuses what cannot arise -/

theorem test_wf_byte : (Instr.carrierGet .control 1 256).WellFormed = false := by decide
theorem test_wf_list_entry : (Instr.zoneSet .control 1 ⟨1, [256]⟩).WellFormed = false := by decide
theorem test_wf_list_length : (Instr.permitSet .control 1 0 (List.replicate 256 1)).WellFormed = false := by
  decide +kernel
theorem test_wf_quantity : (Instr.watchSet .control 1 32768).WellFormed = false := by decide
theorem test_wf_quantity_low : (Instr.voterConfig .control 1 ⟨1, 6, -32769⟩).WellFormed = false := by decide
theorem test_wf_count : (Instr.clipOpen .control 1 1 65536).WellFormed = false := by decide
theorem test_wf_serial : (Instr.ruSet .control 1 ⟨17, true, some 4294967296, 300, 10, 0⟩).WellFormed = false := by decide
theorem test_wf_page : (Instr.clipPage .control 1 1 0 [0]).WellFormed = false := by decide
theorem test_wf_template : (Instr.planLoad .control 1 1
    (some ⟨none, 0, [], [], [⟨[256], [1], 1, 1⟩], none⟩)).WellFormed = false := by decide
theorem test_wf_entry : (Instr.planLoad .control 1 1
    (some ⟨none, 0, [(1, 40000)], [], [], none⟩)).WellFormed = false := by decide
theorem test_wf_label : (Instr.planLoad .control 1 1
    (some ⟨some (List.replicate 256 65), 0, [], [], [], none⟩)).WellFormed = false := by decide +kernel
theorem test_wf_payload : (Instr.planLoad .control 1 1
    (some ⟨none, 0, List.replicate 255 (1, 0), List.replicate 255 (1, 0), List.replicate 40 ⟨[1], [1], 1, 1⟩,
      none⟩)).WellFormed = false := by decide +kernel
theorem test_wf_straps : (Instr.resetEnd 8 []).WellFormed = false := by decide
theorem test_wf_kind : (Instr.requestFrameReceived .control 0x80 1 []).WellFormed = false := by decide
theorem test_wf_frame : (Instr.requestFrameReceived .control 1 1 (List.replicate 1601 0)).WellFormed = false := by
  decide +kernel
theorem test_wf_identity : (Instr.advertisementReceived na ⟨true, true, true, true⟩ true 4294967296).WellFormed = false := by decide
theorem test_wf_beacon : (Instr.beaconReceived na { beaconN1 with number := 256 }).WellFormed = false := by decide

/-! ### Words and bytes -/

/-- No row of the opcode table has bits. -/
theorem test_decode_none : decodeTableWord 0 0 = none ∧ decodeTableWord 64 12345 = none := ⟨rfl, rfl⟩

/-- R164: N3 is 0x13, a quantity is two's complement, a flag and an optional field one byte each. -/
theorem test_ru_set_bytes : encodeRequest (.ruSet ⟨0x13, true, none, 330, 10, -5⟩) =
    [0x13, 0x01, 0x00, 0x01, 0x4A, 0x00, 0x0A, 0xFF, 0xFB] := by decide

/-- R164: the CRC of the nine digits is 0x29B1 for this polynomial and this initial value. -/
theorem test_crc : crc16 [0x31, 0x32, 0x33, 0x34, 0x35, 0x36, 0x37, 0x38, 0x39] = 0x29B1 := by decide +kernel

/-- R164: RU SET is a kind of 9 bytes at least; 2 in a presence byte is no optional field. -/
theorem test_bad_presence : decodeRequest 0x17 [0x13, 0x01, 0x02, 0x01, 0x4A, 0x00, 0x0A, 0xFF, 0xFB] = .badLength := by
  decide

/-- R164: HELLO's reply starts 0x5A, kind with the high bit, tag, outcome, length 15. -/
theorem test_hello_frame : ((after (.hello .control 7) desk).mgmt.control.ready.map fun r => r.frame.take 6) =
    [[0x5A, 0x81, 7, 0x00, 0x00, 0x0F]] := by decide +kernel

/-! ### Cases worked out in the manual -/

/-- 6.9: the linear powers of the cases. -/
theorem test_lin : lin 270 = 501190000 ∧ lin 250 = 316230000 ∧ lin 260 = 398110000 ∧ lin 320 = 1584900000 ∧
    lin 182 = 66069000 ∧ lin 304 = 1096500000 ∧ lin 239 = 245470000 ∧ lin (-300) = 1000 ∧ lin 370 = 5011900000 := by
  decide

/-- 6.9: the candidates of remote unit N5; `cls` is the class of carrier 9 there. -/
def candsN5 (cls : Nat) : List Cand :=
  [⟨0, .rescue, 0, 270, 270⟩, ⟨1, .rescue, 0, 270, 270⟩, ⟨8, .broadcast, cls, 250, if cls = 1 then 220 else 190⟩] ++
    [12, 13, 14, 15].map fun c => ⟨c, .mobile, 3, 260, 110⟩

/-- 6.9, case 1. -/
theorem test_case1 : (allocate 1584900000 (candsN5 2)).mute = [] ∧
    (allocate 1584900000 (candsN5 2)).ending = .backoff 3 78 ∧
    ((allocate 1584900000 (candsN5 2)).grants.map (·.2)) = [270, 270, 250, 182, 182, 182, 182] := by decide +kernel

/-- 6.9, case 2. -/
theorem test_case2 : (allocate 501190000 (candsN5 1)).mute = [15, 14, 13, 12, 8] ∧
    (allocate 501190000 (candsN5 1)).ending = .rescueLimit 31 ∧
    ((allocate 501190000 (candsN5 1)).grants.map (·.2)) = [239, 239] := by decide +kernel

/-- 6.9, case 3. -/
theorem test_case3 : (allocate 1096500000 (candsN5 2)).mute = [15, 14, 13] ∧
    (allocate 1096500000 (candsN5 2)).ending = .backoff 2 59 ∧
    ((allocate 1096500000 (candsN5 2)).grants.map (·.2)) = [270, 270, 191, 110] := by decide +kernel

/-- 6.9, case 4. -/
theorem test_case4 : (allocate 501190000 ((candsN5 1).eraseIdx 1)).mute = [15, 14, 13, 12, 8] ∧
    (allocate 501190000 ((candsN5 1).eraseIdx 1)).ending = .backoff 3 0 ∧
    (allocate 501190000 ((candsN5 1).eraseIdx 1)).grants = [(0, 270)] := by decide +kernel

/-- A wanted carrier of 5.9. -/
def want (c : CarrierNo) : Wanted :=
  ⟨c, if c.val < 8 then .rescue else if c.val < 12 then .broadcast else .mobile,
    if c.val = 0 then some 0 else if c.val = 1 then some 1 else if c.val = 2 then some 2 else none, 260⟩

/-- 5.9, event 3: carrier 9's old slot is taken by rescue carrier 3, and it takes slot 4. -/
theorem test_slots : ((assignSlots ([(0, 1), (1, 2), (8, 3), (9, 4), (12, 5), (13, 6), (14, 7), (15, 8)].map
      fun e => (want e.1, e.2)) 8 ([0, 1, 2, 8, 12, 13, 14, 15].map want)).map fun e => (e.1.carrier, e.2)) =
    [(0, 1), (1, 2), (2, 3), (8, 4), (12, 5), (13, 6), (14, 7), (15, 8)] := by decide +kernel

/-- R21: the highest grade both sets hold. -/
theorem test_highest : GradeSet.highest (GradeSet.inter ⟨true, true, true, false⟩ ⟨true, true, true, true⟩) = some .g3 := by decide

/-- R16: N3 and N4 stand above the uncommissioned N2. -/
theorem test_repair_run : ((repairRun (RuRecord.ringDelivered.set 2 ⟨true, none, 300, 10, 0⟩))[(2 : UnitNo)]).commissioned
    = false := by decide +kernel

/-- R19, R177: the end of a reset, and the record it leaves in both queues. -/
theorem test_reset_end : (after (.resetEnd 3 []) dark).mgmt.control.authority = .maintain ∧
    (after (.resetEnd 3 []) dark).mgmt.console.events = [⟨.resetDone, .notice, 0, .none, [.named 0, .ident 3]⟩] := by
  decide +kernel

/-- R167: the summary byte of an idle port with a record in its queue, N1 and S1 being UNREACHABLE. -/
theorem test_summary : summaryByte desk .control = 0x44 := by decide +kernel

/-- R4, R171: CARRIER SET's reply is held, and READ EVENTS overtakes it (10.9). -/
theorem test_overtaken :
    let t := after (.readEvents .control 8) (after (.carrierSet .control 7 ⟨1, 2, 4, some 1, none⟩) desk)
    t.mgmt.control.held.map (·.2.tag) = [7] ∧ t.mgmt.control.ready.map (·.tag) = [8] ∧
      (after (.storeWriteComplete (.carrier 0)) t).mgmt.control.ready.map (·.tag) = [8, 7] := by decide +kernel

/-- R15: a record joins the store when its write completes, and not before; the other records stay. -/
theorem test_stored :
    let x : Carrier := ⟨.rescue, 4, some 0, none⟩
    let t := after (.carrierSet .control 7 ⟨1, 2, 4, some 1, none⟩) desk
    t.work.catalogue[(0 : CarrierNo)] = some x ∧ t.stored.catalogue[(0 : CarrierNo)] = none ∧
      (after (.storeWriteComplete (.carrier 0)) t).stored.catalogue[(0 : CarrierNo)] = some x ∧
      (after (.storeWriteComplete (.carrier 0)) t).stored.plans = t.stored.plans := by decide +kernel

/-- R168: a third request is discarded and counted. -/
theorem test_room :
    (after (.hello .control 3) (after (.hello .control 2) (after (.hello .control 1) desk))).mgmt.control.room = 1 := by
  decide +kernel

/-- R22 to R25: NA advertises, hears its partner with the acknowledge, and is UP at grade 3. -/
theorem test_up :
    ((after (.advertisementReceived na ⟨true, true, true, false⟩ true 9) (after (.breakTimerExpiry na) desk)).spans.na.state)
      = .up .g3 .negotiated := by decide +kernel

/-- R36, R53: as NA loses its signal, N1 moves to NB, which takes a mark; the ports of ring S do not. -/
theorem test_span_marks :
    let s := after (.beaconReceived na beaconN1) { lit with spans := { lit.spans with nb := { lit.spans.na with
      state := .up .g4 .negotiated } } }
    let t := after (.lossOfSignal na) s
    s.unitState n1 = .fedA ∧ t.unitState n1 = .fedB ∧ s.spans.nb.buffer.mark = false ∧ t.spans.nb.buffer.mark = true ∧
      (∀ p ∈ allSpans, p ≠ na → t.spans.get p = pathMarked s t p) ∧ t.spans.sa = s.spans.sa := by decide +kernel

/-- R66, R67: warm-up ends with REF_IN PRESENT. -/
theorem test_warmup : (after .warmupEnd (after (.sourcePresent .refIn) desk)).reference.state = .acquire := by
  decide +kernel

/-- R69: the sixteenth good measurement locks and opens the gate. -/
theorem test_lock : (after (.measurement 20) (clocked fun r =>
    { r with state := .track, selected := some .refIn, good := 15 })).gateOpen = true := by decide +kernel

/-- R7, R115, R120: a carried rescue carrier that CARRIER SET moves onto an IDLE channel is no candidate and stops, and
moved back onto the ACTIVE one it radiates again. -/
theorem test_channel_move :
    let idle := after (.carrierSet .control 1 ⟨1, 2, 4, some 2, none⟩) fed
    radiates fed n1 0 = some 270 ∧ radiates idle n1 0 = none ∧ (posGet idle.alloc n1).excluded = [(0, .idle)] ∧
      radiates (after (.carrierSet .control 2 ⟨1, 2, 4, some 1, none⟩) { idle with inFlight := [] }) n1 0 = some 270 := by
  decide +kernel

/-- R153, R164: STAND DOWN ALL is answered with an empty payload. -/
theorem test_stand_down_all :
    let t := after (.standDownAll .control 9) { desk with plans := ⟨2, ⟨.invoke, none, none, 0⟩, [0]⟩ }
    t.plans.active = 0 ∧ t.plans.stack = [] ∧ t.mgmt.control.ready = [⟨0x75, 9, .accepted, []⟩] := by decide +kernel

/-- R127: of three stored clips, the second shares a page with the first, and the third is LOADING. -/
theorem test_clip_repair : (after (.resetEnd 3 []) { dark with stored := { dark.stored with
      clips := ((dark.stored.clips.set 0 ⟨.ready, 0, 2, 2⟩).set 1 ⟨.ready, 1, 2, 2⟩).set 2 ⟨.loading, 5, 2, 1⟩ }
    }).work.clips.toList.take 3 = [⟨.ready, 0, 2, 2⟩, ⟨.empty, 0, 0, 0⟩, ⟨.empty, 0, 0, 0⟩] := by decide +kernel

/-- R131, R134: a post of a READY clip is on air at once. -/
theorem test_post : (after (.breakinPost .control 1 ⟨[1], [1], 5, 1⟩) (airing [])).breakin.queue.map BreakIn.state
    = [.onAir] := by decide +kernel

/-- R159: a release with WITHDRAW whose plan is active returns to the plan below. -/
theorem test_release : (after (.debounceTimerExpiry 2) { tables (fun w => { w with
      plans := w.plans.set 4 (some .standing), triggers := w.triggers.set 3 ⟨true, .view, 4, .nest⟩
      contacts := w.contacts.set 2 ⟨some 3, .withdraw, .activeClosed⟩ }) with
    plans := ⟨4, ⟨.invoke, some (.contact 2), some 3, 0⟩, [0]⟩
    contacts := desk.contacts.set 2 ⟨.opened, some .closed, some 0, .active⟩ }).plans
    = ⟨0, ⟨.release, some (.contact 2), some 3, 0⟩, []⟩ := by decide +kernel

/-- R175: the watch expires without entry 31. -/
theorem test_watch : (after .watchExpiry later).watch = .expired ∧
    (after .watchExpiry later).mgmt.console.events.getLast? =
      some ⟨.controlLost, .alarm, 10000, .none, [.quantity 10, .present false]⟩ := by decide +kernel

/-- R151, R174: the source of TRIGGER_REFUSED is CONTROL_WATCH 1 as the watch invokes entry 31, whose plan is absent, and 0
with the number of contact 2 as that contact invokes entry 3 (PLAN_ABSENT is 0x15, R172). -/
theorem test_trigger_refused :
    let refusals (s : State) : List (List Field) :=
      (s.mgmt.console.events.filter (·.kind = .triggerRefused)).map (·.detail)
    refusals (after .watchExpiry { later with work := { later.work with
      triggers := later.work.triggers.set 31 ⟨true, .view, 1, .nest⟩ } }) =
        [[.named 1, .named 0x15, .present true, .ident 1]] ∧
    refusals (after (.debounceTimerExpiry 2) { tables (fun w => { w with
        triggers := w.triggers.set 3 ⟨true, .view, 4, .nest⟩
        contacts := w.contacts.set 2 ⟨some 3, .withdraw, .activeClosed⟩ }) with
      contacts := desk.contacts.set 2 ⟨.closed, some .opened, some 0, .inactive⟩ }) =
        [[.named 0, .ident 2, .named 0x15, .present true, .ident 4]] := by decide +kernel

/-- R163, R177: a RESTART reads the strap pins anew, and nothing comes from a port while a reset runs. -/
theorem test_restart_reads_pins : (after (.restart .control 1) desk).straps = Config.strapPins 0 ∧
    (after (.restart .control 1) desk).restarts = 1 := ⟨rfl, by decide +kernel⟩
theorem test_reset_sends_nothing :
    nextReply { deskWith ({ · with ready := [⟨1, 1, .accepted, []⟩] }) with causes := [.powerOn] } .control = none ∧
    idleByte dark .control = 0x00 ∧ idleByte desk .control = 0xFF := by decide +kernel

/-- R165: an UNSYNCED port sends no reply, though one is READY. -/
theorem test_unsynced_sends_nothing : let reply : Reply := ⟨1, 1, .accepted, []⟩
    nextReply (deskWith ({ · with synced := false, ready := [reply] })) .control = none ∧
    nextReply (deskWith ({ · with ready := [reply] })) .control = some reply.frame := by decide +kernel

/-- R126, R169: a CLIP PAGE frame whose page is one byte is refused with BAD_LENGTH. -/
theorem test_short_page_frame : ((after (.requestFrameReceived .control 0x63 7 [1, 0, 0, 9]) desk).mgmt.get .control).ready =
    [⟨0x63, 7, .badLength, []⟩] := by decide +kernel

/-- R177: a select opened during a reset has 0x00 to its own end, and no reply, when the reset is over; the next has 0xFF. -/
theorem test_dark_select :
    let s := [Instr.exchangeOpen .control, .resetEnd 3 [], .portSync .control, .keepalive .control 7].foldl
      (fun s i => after i s) dark
    (s.mgmt.get .control).ready ≠ [] ∧ (s.mgmt.get .control).exchange = some .dark ∧ idleByte s .control = 0x00 ∧
      nextReply s .control = none ∧ after (.replyClockedOut .control) s = s ∧
      idleByte (after (.exchangeEnd .control false) s) .control = 0xFF := by decide +kernel

/-- R104: a gate that opens at N1 mutes mobile carrier 9 beside a rescue carrier that takes the whole budget, with cause
GATE; as it closes again the carrier is no candidate. -/
theorem test_gate_mutes :
    let poor := { fed with work := { fed.work with
      units := { fed.work.units with n := fed.work.units.n.set 0 ⟨true, none, 280, 10, 0⟩ } } }
    let gate (open_ : Bool) (s : State) : State :=
      allocEvent n1 .gate { s with reference := { s.reference with state := if open_ then .locked else .free } }
    let s := gate true (gate false poor)
    (s.mgmt.console.events.getLast?.map fun e => (e.kind, e.severity, e.subject, e.detail)) =
        some (.carrierMuted, .warning, .carrier 8, [.position n1, .ident 3, .named 5]) ∧
      ((gate false s).mgmt.console.events.getLast?.map fun e => (e.kind, e.severity, e.subject, e.detail)) =
        some (.carrierUnmuted, .notice, .carrier 8, [.position n1, .named 1, .named 5]) := by decide +kernel

/-- R76, R123, R143, R177: what a RESET_LINE posts after RESET_DONE: a stored preference for PILOT moves TRACK to it, RC1's
base key is asserted, and plan 0's template goes on air; a stored limit that the age has reached ends HOLDOVER. -/
theorem test_reset_posts :
    let ends (r : RefRec → RefRec) (settings : RefSettings) : State :=
      after (.resetEnd 3 []) { clocked r with
        now := 3600000, causes := [.resetLine], baseLane := desk.baseLane.set 0 true
        stored := { desk.stored with
          reference := settings, clips := desk.stored.clips.set 0 ⟨.ready, 0, 1, 1⟩
          plans := desk.stored.plans.set 0 (some { PlanRecord.standing with templates := [⟨[0], [0], 3, 0⟩] }) } }
    let s := ends ({ · with state := .track, selected := some .refIn, pilot := ⟨true, true, 0⟩ }) ⟨.pilot, 8⟩
    let t := ends ({ · with state := .holdover, held := some .refIn, heldSince := some 0 }) ⟨.refIn, 1⟩
    desk.work.reference = ⟨.refIn, 8⟩ ∧ (s.reference.state, s.reference.selected) = (.acquire, some .pilot) ∧
      t.reference.state = .free ∧
      s.mgmt.control.events.map (·.kind) = [.resetDone, .refState, .rescueActive, .breakinOnAir] ∧
      (s.mgmt.control.events.map (·.detail))[1]? =
        some [.named 3, .named 2, .present true, .named 1, .named 5, .named 2] ∧
      (t.mgmt.control.events.map (·.detail))[1]? = some [.named 5, .named 1, .present false, .named 8, .named 1] := by
  decide +kernel

/-- R134, R135, R138, R143: after a reset plan 0's request is on player 1 at the beginning of its page, N1 in its zone hears it,
and N1's allocation has broadcast carriers in class 1. -/
theorem test_reset_announces :
    let t := after (.resetEnd 3 []) { later with
      causes := [.restart]
      stored := { desk.stored with
        clips := desk.stored.clips.set 0 ⟨.ready, 0, 1, 1⟩, zones := desk.stored.zones.set 0 [n1]
        plans := desk.stored.plans.set 0 (some { PlanRecord.standing with templates := [⟨[0], [0], 3, 0⟩] }) } }
    t.breakin.queue.map (fun r => (r.player, r.clipIndex, r.page, r.pageSince)) = [(some 0, 1, 0, 10000)] ∧
      t.breakin.carrying[(0 : ZoneNo)] = true ∧ posGet t.breakin.heard n1 = some 1 ∧ (posGet t.alloc n1).announced = true ∧
      (posGet t.alloc ⟨.n, 1⟩).announced = false := by decide +kernel

/-- R139: a position that joins a carrying zone hears the owner from the next page on. -/
theorem test_joins_at_next_page :
    let pages := { (airing full).work with clips := (airing full).work.clips.set 0 ⟨.ready, 0, 2, 2⟩ }
    let joined := after (.zoneSet .control 1 ⟨1, [0x11]⟩) { airing full with now := 2000, work := pages }
    inserted joined n1 = .programme ∧ inserted (after (.pageEnd 0) joined) n1 = .page 0 := by decide +kernel

/-- R135, chapter 8, event 9: as request 2 completes, the page of request 1 goes on into zone 2's N4 without a jump. -/
theorem test_gained_zone :
    let other := { onAir 2 5 with zones := [1, 2], owned := [1, 2], player := some 1, page := 29 }
    let s := airing [other, { onAir 1 3 with zones := [0, 1], repeats := 0, page := 19, pageSince := 1500 }]
    let t := after (.pageEnd 1) { s with
      now := 2000
      work := { s.work with
        clips := s.work.clips.set 0 ⟨.ready, 0, 30, 30⟩, zones := (s.work.zones.set 0 [n1]).set 1 [⟨.n, 3⟩] } }
    inserted t ⟨.n, 3⟩ = .page 0 ∧ t.breakin.queue.map (fun r => (r.owned, r.page)) = [([0, 1], 19)] := by decide +kernel

/-- R134: as the request on player 1 completes, the waiting one takes that player, the lowest free one, and begins. -/
theorem test_lowest_player :
    let other := { onAir 3 2 with zones := [1], owned := [1], player := some 1 }
    let t := after (.pageEnd 0) { airing [onAir 1 3, waiting 2 3, other] with now := 2000 }
    t.breakin.queue.map (fun r => (r.id, r.player, r.pageSince)) = [(2, some 0, 2000), (3, some 1, 0)] := by decide +kernel

/-- R140, assumption 32: requests 1 and 4 have both played; as 1 completes, 2 and 3 own its zones, and 4 loses its player. -/
theorem test_page_end_overtaken :
    let plays (id priority : Nat) (z : ZoneNo) (p : PlayerNo) : BreakIn :=
      { onAir id priority with zones := [z], owned := [z], player := some p, repeats := 0 }
    let q := [{ onAir 1 7 with zones := [0, 1], owned := [0, 1] }, waiting 2 5, { waiting 3 5 with zones := [1] },
      plays 5 4 3 2, plays 6 4 4 3, { plays 4 3 2 1 with repeats := 1 }]
    let t := after (.pageEnd 1) (after (.pageEnd 0) { airing q with now := 2000 })
    t.breakin.queue.map (fun r => (r.id, r.player, r.done)) =
      [(2, some 0, 0), (3, some 1, 0), (5, some 2, 0), (6, some 3, 0), (4, none, 0)] := by decide +kernel

/-- R140: a page end at the moment its page began does not happen. -/
theorem test_page_end_withdrawn : after (.pageEnd 0) (airing full) = airing full := by decide +kernel

/-! ### Step and the queue -/

theorem test_step_idle : step desk = .next { desk with now := 1 } := rfl
theorem test_step_front : step { desk with pending := [.powerOn, .blockTick] } =
    .next { desk with pending := [.blockTick], causes := [.powerOn] } := rfl

/-! ### Witnesses: every statement's hypotheses are met, each clause at its boundary -/

/-- StepRunsTheFrontCommand. -/
theorem witness_step : { desk with pending := [.blockTick] }.pending = .blockTick :: [] ∧ desk.pending = [] := ⟨rfl, rfl⟩

/-- RequestBytesRoundTrip: fields at the ends of their ranges. -/
theorem witness_round_trip : (Request.carrierGet 255).WellFormed = true ∧ (Request.watchSet (-32768)).WellFormed = true ∧
    (Request.ruSet ⟨0, false, some 4294967295, 32767, 0, 0⟩).WellFormed = true ∧
    decodeRequest 0x11 [0xFF] = .request (.carrierGet 255) := by decide +kernel

/-- FrameRunsItsRequest. -/
theorem witness_frame : (Instr.carrierGet .control 7 24).request? = some (.control, 7, .carrierGet 24) ∧
    (Request.carrierGet 24).WellFormed = true := by decide +kernel

/-- UnreadableFramesAreRefused: no payload where one is due, and a CLIP PAGE with a page of one byte. -/
theorem witness_unreadable : Takes desk .control ∧ (0x08 : Byte).toNat ∉ catalogueKinds ∧
    (0x11 : Byte).toNat ∈ catalogueKinds ∧ (0x63 : Byte).toNat ∈ catalogueKinds ∧
    (∀ r, Request.kind r = (0x11 : Byte).toNat → r.WellFormed = true ∨ 1600 < ([] : List Byte).length →
      encodeRequest r ≠ []) ∧
    ∀ r, Request.kind r = (0x63 : Byte).toNat → r.WellFormed = true ∨ 1600 < ([1, 0, 0, 9] : List Byte).length →
      encodeRequest r ≠ [1, 0, 0, 9] := by
  refine ⟨by decide +kernel, by decide, by decide, by decide, fun r h _ => ?_, fun r h hw he => ?_⟩ <;>
    cases r <;> simp [Request.kind] at h
  · simp [encodeRequest, putByte]
  · have hl := congrArg List.length he
    simp [Request.WellFormed, Request.fieldsFit, encodeRequest, putByte, putCount] at hl hw
    omega

/-- AdmissionRefusals: an authority one below the minimum, and one equal to it under a deny map. -/
theorem witness_admission :
    (Instr.invoke .control 1 3).request? = some (.control, 1, .invoke 3) ∧ (Request.invoke 3).WellFormed = true ∧
    Takes (deskWith ({ · with authority := .operate })) .control ∧
    ((deskWith ({ · with authority := .operate })).mgmt.get .control).authority.rank < (minimumAuthority (.invoke 3)).rank ∧
    Takes (tables ({ · with denied := ⟨[7], []⟩ })) .control ∧
    (minimumAuthority (.carrierClear 1)).rank ≤ ((tables ({ · with denied := ⟨[7], []⟩ })).mgmt.get .control).authority.rank ∧
    requestGroup (.invoke 3) ∈ (tables ({ · with denied := ⟨[7], []⟩ })).work.denied.get .control := by decide +kernel

/-- UntakenFrames. -/
theorem witness_untaken : (Instr.hello .control 1).request? = some (.control, 1, .hello) ∧ dark.causes ≠ [] ∧
    ((deskWith ({ · with synced := false })).mgmt.get .control).synced = false ∧
    (deskWith ({ · with room := 65535, ready := [⟨1, 1, .accepted, []⟩, ⟨1, 2, .accepted, []⟩] })).causes = [] ∧
    2 ≤ ((deskWith ({ · with room := 65535, ready := [⟨1, 1, .accepted, []⟩, ⟨1, 2, .accepted, []⟩] })).mgmt.get
      .control).outstanding := by decide +kernel

/-- BusyRecordsRefuseWrites. -/
theorem witness_busy :
    (Instr.carrierClear .control 1 24).request? = some (.control, 1, .carrierClear 24) ∧
    (Request.carrierClear 24).WellFormed = true ∧
    Serves { desk with inFlight := [.carrier 23] } .control (.carrierClear 24) ∧
    requestRecord (.carrierClear 24) = some (.carrier 23) ∧
    StoreKey.carrier 23 ∈ { desk with inFlight := [.carrier 23] }.inFlight := by decide +kernel

/-- SummaryByteShowsTheFlags, SyncAndFramingFaults, ReplyLeavesTheReadyOrder. -/
theorem witness_ports : dark.causes ≠ [] ∧ desk.causes = [] ∧ (desk.mgmt.get .control).synced = true ∧
    ((deskWith ({ · with synced := false, framing := 65535 })).mgmt.get .control).synced = false ∧
    ((deskWith ({ · with ready := [⟨1, 1, .accepted, []⟩] })).mgmt.get .control).ready = ⟨1, 1, .accepted, []⟩ :: [] := by
  decide +kernel

/-- StoreWriteCompletes: a record that is no clip, and a clip. -/
theorem witness_store_write : { desk with inFlight := [.watch, .clip 0] }.causes = [] ∧
    StoreKey.watch ∈ { desk with inFlight := [.watch, .clip 0] }.inFlight ∧
    StoreKey.clip 0 ∈ { desk with inFlight := [.watch, .clip 0] }.inFlight ∧
    memoryCanonical { desk with inFlight := [.watch, .clip 0] } ∧ ∀ c, StoreKey.watch ≠ .clip c :=
  ⟨by decide +kernel, by decide +kernel, by decide +kernel, ⟨by decide +kernel, by decide +kernel⟩, nofun⟩

/-- EventQueuesKeepAlarms: a queue of 47, a full one whose last record alone is a NOTICE, a full one of alarms. -/
theorem witness_events :
    let alarm : Record := ⟨.ruLost, .alarm, 0, .position n1, []⟩
    let notice : Record := ⟨.ruFound, .notice, 0, .position n1, []⟩
    (List.replicate 47 alarm).length < 48 ∧
    (∃ before after, List.replicate 47 alarm ++ [notice] = before ++ notice :: after ∧ notice.severity = .notice ∧
      (∀ r ∈ before, r.severity ≠ .notice) ∧ 48 ≤ (List.replicate 47 alarm ++ [notice]).length) ∧
    ((∀ r ∈ List.replicate 48 alarm, r.severity ≠ .notice) ∧ 48 ≤ (List.replicate 48 alarm).length) :=
  ⟨by decide, ⟨_, [], rfl, rfl, by decide +kernel, by decide⟩, by decide +kernel, by decide⟩

/-- ReadEventsTakesTheOldest, HelloAnswersTheIdentity, StatusAnswersThePortRecord. -/
theorem witness_group0 : Serves desk .control .readEvents ∧ Serves desk .console .hello ∧ Serves desk .console .status := by
  decide +kernel

/-- FramesRestartTheWatch. -/
theorem witness_watch : Serves desk .control .keepalive ∧ Serves desk .console .keepalive ∧ desk.watch = .running 0 ∧
    Serves { desk with watch := .off } .control .keepalive ∧ Serves { desk with watch := .expired } .control .keepalive := by
  decide +kernel

/-- `desk` with an entry 31 for plan 1, which is plan 0's record. -/
def guarded (present : Bool) : State :=
  tables fun w => { w with plans := w.plans.set 1 (some .standing), triggers := w.triggers.set 31 ⟨present, .view, 1, .nest⟩ }

/-- WatchExpiryInvokesTrigger31: a watch that is OFF, one restarted at this moment and one that is not; an entry that is
absent, one that is accepted, one whose plan is active, one whose plan is absent. -/
theorem witness_expiry : (∀ since, { desk with watch := .off }.watch ≠ .running since) ∧
    (desk.watch = .running 0 ∧ 0 = desk.now) ∧ (later.watch = .running 0 ∧ 0 ≠ later.now) ∧
    (later.work.triggers[(31 : TriggerNo)]).present = false ∧
    (let s := { guarded true with now := 10000 }
     s.watch = .running 0 ∧ (s.work.triggers[(31 : TriggerNo)]).present = true ∧ invocation s 31 2 = .accepted ∧
      invocation { s with plans := ⟨1, s.plans.activation, [0]⟩ } 31 2 = .alreadyActive) ∧
    let s := tables ({ · with triggers := desk.work.triggers.set 31 ⟨true, .view, 1, .nest⟩ })
    (s.work.triggers[(31 : TriggerNo)]).present = true ∧ invocation s 31 2 = .planAbsent := by
  refine ⟨nofun, ?_, ?_, ?_, ?_, ?_⟩ <;> decide +kernel

/-- WatchSetSetsTheWindow. -/
theorem witness_watch_set : Serves desk .control (.watchSet 61) ∧ StoreKey.watch ∉ desk.inFlight ∧
    Serves { desk with inFlight := [.watch] } .control (.watchSet 0) ∧
    StoreKey.watch ∈ { desk with inFlight := [.watch] }.inFlight ∧ portsBounded desk :=
  ⟨by decide +kernel, by decide +kernel, by decide +kernel, by decide +kernel,
    ⟨fun port => by cases port <;> decide +kernel, by decide +kernel, by decide +kernel⟩⟩

/-- PermitSetReplacesTheDenyMap: each refusal, and the target of the other port. -/
theorem witness_permit : Serves desk .control (.permitSet 2 []) ∧ 1 < 2 ∧ Serves desk .control (.permitSet 0 [0, 7]) ∧
    mgmtOf 0 = some .control ∧ (∀ g ∈ [0, 7], g ≤ 7) ∧ StoreKey.denyMap .control ∉ desk.inFlight ∧ 0 ∈ [0, 7] ∧
    Serves desk .control (.permitSet 1 [0, 0]) ∧ mgmtOf 1 = some .console ∧
    ¬(MgmtPort.console = MgmtPort.control ∧ 0 ∈ [0, 0]) := by decide +kernel

/-- No position has the number 29, and no ring 16 times it; the same of 0. -/
theorem no_position_29 : (∀ p, positionNumber p ≠ 29) ∧ ∀ r, 16 * ringNumber r ≠ 29 := by
  refine ⟨fun p => ?_, fun r => ?_⟩
  · obtain ⟨r, u⟩ := p
    cases r <;> simp [positionNumber, ringNumber] <;> omega
  · cases r <;> simp [ringNumber]

/-- ModelReadsAnswer: one record, all of them, and an identifier just out of range. -/
theorem witness_model_reads : (Serves desk .control (.carrierGet 25) ∧ Serves desk .control (.carrierGet 24) ∧
      Serves desk .control (.carrierGet 0) ∧ 24 = (23 : CarrierNo).val + 1) ∧
    (Serves desk .control (.ruGet 44) ∧ positionNumber ⟨.s, 11⟩ = 44 ∧ Serves desk .control (.ruGet 32) ∧
      16 * ringNumber .s = 32 ∧ Serves desk .control (.ruGet 29)) ∧
    (Serves desk .control (.zoneGet 9) ∧ Serves desk .control (.zoneGet 8) ∧ 8 = (7 : ZoneNo).val + 1) ∧
    Serves desk .control (.ruAllocation 44) ∧ Serves desk .control (.ruAllocation 29) := by
  refine ⟨?_, ?_, ?_, ?_⟩ <;> decide +kernel

/-- `desk` with a Catalogue record of carrier 1 that plan 0 names. -/
def named : State := tables fun w => { w with
  catalogue := w.catalogue.set 0 (some ⟨.mobile, 1, none, none⟩)
  plans := w.plans.set 0 (some { PlanRecord.standing with listN := [(0, 0)] }) }

/-- CarrierSetAndClear: a new record, a change of kind of a named carrier, and the three outcomes of a clear. -/
theorem witness_carrier : StoreKey.carrier 0 ∉ desk.inFlight ∧ Serves desk .control (.carrierSet ⟨1, 2, 4, some 4, none⟩) ∧
    kindOf 2 = some .rescue ∧ (∀ x, desk.work.catalogue[(0 : CarrierNo)] = some x → x.kind = .rescue ∨ desk.planNames 0 = false) ∧
    laneAgrees .rescue 4 = true ∧ presenceAgrees .rescue true false = true ∧
    catalogueOk (desk.work.catalogue.set 0 (some ⟨.rescue, 4, some 3, none⟩)) = true ∧
    Serves named .control (.carrierSet ⟨1, 2, 4, some 4, none⟩) ∧
    named.work.catalogue[(0 : CarrierNo)] = some ⟨.mobile, 1, none, none⟩ ∧ named.planNames 0 = true ∧
    Serves named .control (.carrierClear 1) ∧ Serves desk .control (.carrierClear 1) ∧ desk.planNames 0 = false ∧
    desk.work.catalogue[(0 : CarrierNo)] = none ∧ named.planNames 1 = false ∧
    (tables fun w => { w with catalogue := w.catalogue.set 1 (some ⟨.mobile, 1, none, none⟩) }).work.catalogue[(1 : CarrierNo)]
      ≠ none := by
  have free : desk.planNames 0 = false := by decide +kernel
  refine ⟨?_, ?_, rfl, fun _ _ => .inr free, ?_⟩
  all_goals decide +kernel

/-- RuSetReplacesTheRecord: N2 commissioned, N2 decommissioned, N1 decommissioned and so the run broken. -/
theorem witness_ru_set : Serves desk .control (.ruSet ⟨0x12, true, none, 371, 0, 60⟩) ∧ 0x12 = positionNumber ⟨.n, 1⟩ ∧
    StoreKey.unit ⟨.n, 1⟩ ∉ desk.inFlight ∧
    runOk (desk.work.units.n.set 1 ⟨true, none, 370, 0, 60⟩) = true ∧ runOk (desk.work.units.n.set 0 ⟨false, none, 370, 0, 60⟩)
      = false ∧
    (desk.unit ⟨.n, 1⟩).commissioned = false ∧ desk.unitState ⟨.n, 1⟩ = .absent ∧
    ((after (.ruSet .control 1 ⟨0x12, true, none, 371, 0, 60⟩) desk).unit ⟨.n, 1⟩).commissioned = true ∧
    (after (.ruSet .control 1 ⟨0x12, true, none, 371, 0, 60⟩) desk).unitState ⟨.n, 1⟩ = .unreachable := by decide +kernel

/-- RuSetReplacesTheRecord, of a fed and allocated N1: a ceiling and a margin at their least, which mute carrier 9 and
limit the unit; a new identity; and N2, fed too, decommissioned. -/
theorem witness_ru_set_fed :
    let low := after (.ruSet .control 1 ⟨0x11, true, none, 200, 30, 0⟩) fed
    (∀ a ∈ [RuSetArgs.mk 0x11 true none 200 30 0, ⟨0x11, true, some 7, 300, 10, 0⟩, ⟨0x11, true, none, 300, 10, 0⟩,
      ⟨0x12, false, none, 300, 10, 0⟩], Serves fed .control (.ruSet a)) ∧
    (fed.unit n1).commissioned = true ∧ (fed.unit n1).identity = none ∧ (fed.unit n1).ceiling = 300 ∧
    ¬(fed.unitState n1 = .mismatch) ∧ fed.mismatched n1 = false ∧
    runOk (fed.work.units.n.set 0 ⟨true, none, 200, 30, 0⟩) = true ∧
    runOk (fed.work.units.n.set 1 ⟨false, none, 300, 10, 0⟩) = true ∧
    (fed.unit ⟨.n, 1⟩).commissioned = true ∧ (fed.unitState ⟨.n, 1⟩).side = some .a ∧
    fed.voters[(0 : ChannelNo)].covers.get .n = true ∧
    (posGet fed.alloc n1).status = .active .a ∧ (posGet fed.alloc n1).mute = [] ∧ (posGet low.alloc n1).mute = [8] ∧
    ((posGet low.alloc n1).cands.map Cand.carrier).Nodup ∧ ((posGet fed.alloc n1).grants.map Prod.fst).Nodup ∧
    (posGet fed.alloc n1).limited = false ∧ (posGet low.alloc n1).limited = true := by
  refine ⟨?_, ?_, ?_, ?_, ?_, ?_, ?_, ?_, ?_, ?_, ?_, ?_, ?_, ?_, ?_, ?_, ?_, ?_⟩
  all_goals decide +kernel

/-- ZoneSetReplacesTheMembers: no conflict, and one with zone 8. -/
theorem witness_zone_set : Serves desk .control (.zoneSet ⟨(0 : ZoneNo).val + 1, [0x11]⟩) ∧
    (∀ n ∈ [0x11], ∃ p, positionNumber p = n) ∧ StoreKey.zone 0 ∉ desk.inFlight ∧
    (∀ (y : ZoneNo) (p : Position), ¬(y ≠ 0 ∧ p ∈ desk.work.zones[y] ∧ positionNumber p ∈ [0x11])) ∧
    ((7 : ZoneNo) ≠ 0 ∧ n1 ∈ (tables fun w => { w with zones := w.zones.set 7 [n1] }).work.zones[(7 : ZoneNo)] ∧
      positionNumber n1 ∈ [0x11]) ∧ desk.breakin.carrying[(0 : ZoneNo)] = false ∧
    (let s := { airing full with work := { (airing full).work with zones := desk.work.zones.set 0 [n1] } }
     Serves s .control (.zoneSet ⟨1, []⟩) ∧ s.breakin.carrying[(0 : ZoneNo)] = true ∧ n1 ∈ s.work.zones[(0 : ZoneNo)] ∧
        positionNumber n1 ∉ ([] : List Nat) ∧ (posGet desk.alloc n1).announced = desk.announced n1) := by
  refine ⟨by decide +kernel, fun n h => ⟨n1, ?_⟩, by decide +kernel, fun y p h => ?_, by decide +kernel, by decide +kernel,
    by decide +kernel⟩
  · simp at h; subst h; rfl
  · simp [desk, State.reset, Store.delivered] at h

/-- ResetRestoresTheRun, ResetRestoresTheZones, ResetRestoresTheCatalogue, ResetsRestoreEveryBlock. -/
theorem witness_resets : dark.causes ≠ [] ∧ desk.causes = [] ∧
    [StoreKey.watch].filter (· ∈ dark.inFlight) = [] ∧ StoreKey.watch ∈ { dark with inFlight := [.watch] }.inFlight ∧
    Serves desk .control .restart ∧ desk.inFlight = [] ∧ { desk with inFlight := [.watch] }.inFlight ≠ [] ∧
    Serves { desk with inFlight := [.watch] } .control .restart ∧ catalogueOk desk.work.catalogue = true := by decide +kernel

/-- ResetRestoresTheCatalogue: carrier 24 is the highest in breach, sharing RC1 with carrier 1. -/
theorem witness_breach :
    let t := (desk.work.catalogue.set 0 (some ⟨.rescue, 4, some 0, none⟩)).set 23 (some ⟨.rescue, 4, some 0, none⟩)
    inBreach t 23 = true ∧ ∀ d : CarrierNo, 23 < d → inBreach t d = false := by decide +kernel

/-! #### Span ports and rings -/

/-- No span port has the number 5. -/
theorem no_span_5 (p : SpanPort) : spanNumber p ≠ 5 := by
  obtain ⟨r, d⟩ := p
  cases r <;> cases d <;> simp [spanNumber]

/-- RenegotiateGoesToBreak, DisableAndEnable: a port number out of range, and NA in each state. -/
theorem witness_renegotiate : (Serves desk .control (.portRenegotiate 5) ∧ ∀ p, spanNumber p ≠ 5) ∧
    spanNumber na = 1 ∧
    (∀ s ∈ [desk, lit, tested .far, portNA ({ · with state := .disabled }), portNA ({ · with state := .advertise })],
      Serves s .control (.portRenegotiate 1) ∧ Serves s .control (.portDisable 1) ∧ Serves s .control (.portEnable 1)) ∧
    ((desk.spans.get na).state = .breaking ∧ (lit.spans.get na).state = .up .g3 .negotiated ∧
      ((tested .far).spans.get na).state = .test ∧
      ((tested .far).spans.get na).test = some ⟨.short, .far, 600, 0, true, 65535⟩) ∧
    ((portNA ({ · with state := .disabled })).spans.get na).state = .disabled ∧
    ((portNA ({ · with state := .advertise })).spans.get na).state = .advertise :=
  ⟨⟨by decide +kernel, no_span_5⟩, rfl, by decide +kernel, by decide +kernel, by decide +kernel, by decide +kernel⟩

/-- PortConfigTakesEffect: no grade, a grade just out of range, and values that stay as they are. -/
theorem witness_port_config : Serves desk .control (.portConfig ⟨spanNumber na, [], 2, none⟩) ∧
    Serves desk .control (.portConfig ⟨spanNumber na, [5], 2, none⟩) ∧ (∃ g ∈ [5], g = 0 ∨ 4 < g) ∧
    Serves lit .control (.portConfig ⟨spanNumber na, [1, 4], 5, some 60⟩) ∧ (∀ g ∈ [1, 4], 1 ≤ g ∧ g ≤ 4) ∧
    StoreKey.ring .n ∉ lit.inFlight ∧ (max 10 (min 600 60) : Int).toNat = (lit.settings na).restore := by decide +kernel

/-- A ring whose N1 is FED_B and reachable from A, with its wait-to-restore timer running. -/
def restoring : State := { desk with rings := desk.rings.set .n { desk.rings.n with
  units := desk.rings.n.units.set 0 .fedB, reachA := desk.rings.n.reachA.set 0 true, timer := some 0 } }

/-- PortConfigTakesEffect: a time changed to 10 s, reached at 10 s and not before. -/
theorem witness_restore_time : Serves restoring .control (.portConfig ⟨spanNumber na, [1], 2, some 9⟩) ∧
    (restoring.rings.get .n).timer = some 0 ∧ (max 10 (min 600 9) : Int).toNat ≠ (restoring.settings na).restore ∧
    10 * 1000 ≤ { restoring with now := 10000 }.now - 0 ∧ { restoring with now := 9999 }.now - 0 < 10 * 1000 := by
  decide +kernel

/-- BreakEndsInAdvertise, LossOfSignalLeavesUp, SpanTestRunsAndEnds: NA in BREAK, UP, and both tests, no reset running. -/
theorem witness_span_events : (∀ s ∈ [desk, lit, tested .far, tested .internal], s.causes = []) ∧
    (desk.spans.get na).state = .breaking ∧ (lit.spans.get na).state ≠ .breaking ∧
    (lit.spans.get na).state = .up .g3 .negotiated ∧ ((tested .internal).spans.get na).state = .test ∧
    ((tested .internal).spans.get na).test = some ⟨.short, .internal, 600, 0, true, 65535⟩ ∧
    Serves desk .control (.spanTestStop (spanNumber na)) ∧ Serves (tested .far) .control (.spanTestStop (spanNumber na)) := by
  decide +kernel

/-- NA in ADVERTISE with all grades, with what it has seen and recorded. -/
def advertising (own : GradeSet) (seen1 seen2 : Bool) (partner : Partner) : State := portNA fun x =>
  { x with state := .advertise, timer := some 0, advertising := own, seen1 := seen1, seen2 := seen2, partner := partner }

/-- Every grade. -/
abbrev every : GradeSet := ⟨true, true, true, true⟩

/-- Grade 4 alone. -/
abbrev only4 : GradeSet := ⟨false, false, false, true⟩

/-- AdvertisementsResolve: no acknowledge yet, a shared highest grade 1, and no grade shared. -/
theorem witness_advertisement :
    ((advertising every false false .none).spans.get na).state = .advertise ∧
    ((advertising every false false .none).spans.get na).heardAck = false ∧
    (GradeSet.has every .g1 = true ∧ GradeSet.has ⟨true, false, false, false⟩ .g1 = true) ∧
    (∀ h, (GradeSet.has every h = true ∧ GradeSet.has ⟨true, false, false, false⟩ h = true) →
      Grade.number h ≤ Grade.number .g1) ∧
    (∀ g, ¬(GradeSet.has only4 g = true ∧ GradeSet.has ⟨true, false, false, false⟩ g = true)) ∧
    (lit.spans.get na).state = .up .g3 .negotiated := by
  refine ⟨rfl, rfl, by decide, fun h => ?_, fun g => ?_, rfl⟩
  · cases h <;> decide
  · cases g <;> decide

/-- PatternsAndAdvertiseEnd: nothing recorded with no pattern, both, or one; recorded; and the mode PARALLEL. -/
theorem witness_patterns :
    (∀ a b, ¬∃ g i, ((advertising every a b .none).spans.get na).partner = .advertised g i) ∧
    (∃ g i, ((advertising every true false (.advertised only4 7)).spans.get na).partner = .advertised g i) ∧
    ((advertising every true false .none).spans.get na).seen1 = decide (IdlePattern.grade1 = .grade1) ∧
    ((advertising every true false .none).spans.get na).seen2 = decide (IdlePattern.grade1 = .grade2) ∧
    GradeSet.has every (patternGrade .grade1) = true ∧ GradeSet.has only4 (patternGrade .grade1) = false ∧
    ((portNA ({ · with state := .up .g1 .parallel })).spans.get na).state = .up (patternGrade .grade1) .parallel ∧
    (lit.spans.get na).state = .up .g3 .negotiated ∧ (LinkMode.negotiated ≠ .parallel ∨ Grade.g3 ≠ patternGrade .grade1) :=
  ⟨nofun, ⟨only4, 7, rfl⟩, by decide, by decide, by decide, by decide, rfl, rfl, by decide⟩

/-- SpanTestStarts: the INTERNAL loop in BREAK, the FAR loop there, a port in UP that feeds nothing, and one that
feeds what the other end does not reach. -/
theorem witness_span_test : Serves desk .control (.spanTestStart ⟨1, 0, 0, 601⟩) ∧ patternOf 0 = some .short ∧
    loopOf 0 = some .internal ∧ loopOf 1 = some .far ∧ Serves desk .control (.spanTestStart ⟨1, 0, 1, 601⟩) ∧
    Serves lit .control (.spanTestStart ⟨1, 0, 1, 601⟩) ∧ (lit.spans.get na).isUp = true ∧
    (∀ u : UnitNo, lit.unitState ⟨.n, u⟩ = .fedA → (lit.rings.get .n).reachB[u] = true) ∧
    ¬∀ u : UnitNo, { lit with rings := lit.rings.set .n { lit.rings.n with units := lit.rings.n.units.set 0 .fedA } }.unitState
      ⟨.n, u⟩ = .fedA → (lit.rings.get .n).reachB[u] = true := by decide +kernel

/-- BeaconsAreHandedOn: out of UP, a stray, N1 as first heard, a repeat, and a position that falls silent. -/
theorem witness_beacon : desk.causes = [] ∧ (desk.spans.get na).isUp = false ∧ (lit.spans.get na).isUp = true ∧
    (∀ q : Position, ¬(q.ring = na.ring ∧ (13 : Nat) = q.unit.val + 1)) ∧
    (n1.ring = na.ring ∧ beaconN1.ring = na.ring ∧ beaconN1.number = n1.unit.val + 1 ∧ (lit.unit n1).commissioned = true) ∧
    (posGet lit.beacons n1).status = some .awaited ∧
    (let x := posGet (after (.beaconReceived na beaconN1) lit).beacons n1
     x.status = some .present ∧ x.silence = some lit.now ∧ x.silence ≠ some later.now) := by
  refine ⟨rfl, by decide +kernel, by decide +kernel, fun q h => ?_, by decide +kernel, by decide +kernel, by decide +kernel⟩
  have := q.unit.isLt
  omega

/-- BlocksJoinTheBuffer: a filling buffer, a running one with 7 blocks, a full one. -/
theorem witness_blocks : (lit.spans.get na).isUp = true ∧ (lit.spans.get na).buffer.running = false ∧
    (desk.spans.get na).isUp = false ∧
    (∀ n ∈ [7, 8], ((portNA fun x => { x with state := .up .g1 .negotiated, buffer :=
      { x.buffer with running := true, blocks := List.replicate n silent } }).spans.get na).buffer.running = true) ∧
    (List.replicate 7 silent).length < 8 ∧ 8 ≤ (List.replicate 8 silent).length := by decide +kernel

/-- TicksAreVotedOn, KeysAndHangMoveTheVoter: a candidate that is heard and none, in each state of the voter. -/
theorem witness_votes : desk.causes = [] ∧
    (∃ c ∈ [VoterCand.mk n1 (some 1)], 0 < c.value) ∧ (∀ c ∈ [VoterCand.mk n1 (some 0)], c.value = 0) ∧
    FreshChoice [⟨n1, some 1⟩] none n1 ∧
    (∀ x ∈ [VoterState.idle, .repeating, .console, .base, .hang],
      (voting ({ · with state := x })).voters[(0 : ChannelNo)].state = x) ∧
    (voting ({ · with consoleKey := some 0, state := .console })).voters[(0 : ChannelNo)].consoleKey ≠ none ∧
    (voting ({ · with baseKey := true })).voters[(0 : ChannelNo)].baseKey = true ∧
    (desk.voters[(0 : ChannelNo)].baseKey = false ∧ desk.voters[(0 : ChannelNo)].consoleKey = none) ∧
    Serves desk .control (.consoleKey 4) ∧ Serves desk .console (.consoleKey 5) ∧
    Serves desk .console (.consoleKey ((3 : ChannelNo).val + 1)) := by
  refine ⟨rfl, by decide, by decide, ⟨[], ⟨n1, some 1⟩, [], rfl, rfl, by decide, by decide, .inr ⟨by decide, nofun⟩⟩, ?_⟩
  refine ⟨?_, ?_, ?_, ?_, ?_, ?_, ?_⟩ <;> decide +kernel

/-- WaitingUnitsReturnTogether: a stopped timer, a running one over N1 alone, and a ring out of range. -/
theorem witness_restore : desk.causes = [] ∧ (desk.rings.get .n).timer = none ∧ (restoring.rings.get .n).timer ≠ none ∧
    (∀ v : UnitNo, ((restoring.rings.get .n).units[v] = .fedB ∧ (restoring.rings.get .n).reachA[v] = true) ↔
      (0 : UnitNo).val ≤ v.val ∧ v.val < (0 : UnitNo).val + 1) ∧
    Serves desk .control (.ringRevert 0) ∧ Serves desk .control (.ringRevert 3) ∧
    Serves restoring .control (.ringRevert 1) ∧ 1 = ringNumber .n := by decide +kernel

/-! #### Reference unit and voters -/

/-- SourcesMoveTheReference: each state, with the source PRESENT or ABSENT, selected or not. -/
theorem witness_sources :
    (∀ x ∈ [RefState.warmup, .free, .acquire, .track, .locked, .holdover],
      (clocked ({ · with state := x })).reference.state = x ∧
      ((clocked ({ · with state := x })).reference.monitor .refIn).present = false ∧
      ((clocked ({ · with state := x, refIn := ⟨true, true, 0⟩, selected := some .refIn })).reference.monitor .refIn).present
        = true) ∧
    desk.work.reference.preferred = .refIn ∧ Source.other .refIn = .pilot ∧
    (clocked ({ · with state := .track, selected := some .pilot })).reference.selected = some (Source.other .refIn) ∧
    (clocked ({ · with state := .holdover, forced := true })).reference.forced = true ∧
    (clocked ({ · with state := .locked, switchSince := some 0 })).reference.switchSince.isSome = true := by decide +kernel

/-- MeasurementsMoveTheReference: the bounds at their edges, the counts one below and at theirs. -/
theorem witness_measurement : (-200 ≤ (200 : Int) ∧ (200 : Int) ≤ 200) ∧ ¬(-200 ≤ (-201 : Int) ∧ (-201 : Int) ≤ 200) ∧
    ¬(-20 ≤ (21 : Int) ∧ (21 : Int) ≤ 20) ∧ ¬(-50 ≤ (51 : Int) ∧ (51 : Int) ≤ 50) ∧
    (clocked ({ · with state := .acquire, selected := some .refIn, good := 3 })).reference.selected = some .refIn ∧
    (clocked ({ · with state := .track, selected := some .refIn, good := 15, bad := 1 })).reference.state = .track ∧
    (clocked ({ · with state := .locked, selected := some .refIn, bad := 1 })).reference.state = .locked ∧
    desk.reference.selected = none ∧ (RefRec.entered desk.reference .track .refIn 0).intervalSince = some desk.now ∧
    (RefRec.entered desk.reference .track .refIn 0).intervalSince ≠ some later.now := by decide +kernel

/-- HoldoverIsForcedResumedEnded. -/
theorem witness_holdover :
    (∀ x ∈ [RefState.warmup, .locked, .holdover], Serves (clocked ({ · with state := x })) .control .refForceHoldover ∧
      Serves (clocked ({ · with state := x, forced := true, refIn := ⟨true, true, 0⟩ })) .control .refResume ∧
      (clocked ({ · with state := x, forced := true })).reference.forced = true) ∧
    (desk.reference.monitor .refIn).present = false ∧ (desk.reference.monitor .pilot).present = false := by decide +kernel

/-- ReferenceAndVoterConfigs: a source and channels just out of range, the settings that stand, and a holdover whose age
is at a limit of 1 h. -/
theorem witness_configs : Serves desk .control (.refConfig ⟨2, 8⟩) ∧
    (∀ x ∈ [RefState.warmup, .free, .acquire, .track, .locked, .holdover],
      Serves (clocked ({ · with state := x, selected := some .refIn, pilot := ⟨true, true, 0⟩, heldSince := some 0 })) .control
        (.refConfig ⟨1, 1⟩)) ∧
    StoreKey.reference ∉ desk.inFlight ∧ desk.work.reference = ⟨.refIn, 8⟩ ∧
    (max 1 (min 48 0) : Int).toNat * 3600000 ≤ { desk with now := 3600000 }.now - 0 ∧
    Serves desk .control (.voterConfig ⟨0, 1, 5⟩) ∧ Serves desk .control (.voterConfig ⟨5, 1, 5⟩) ∧
    Serves desk .control (.voterConfig ⟨4, 16, 101⟩) ∧ 4 = (3 : ChannelNo).val + 1 ∧ StoreKey.voter 3 ∉ desk.inFlight := by
  decide +kernel

/-! #### Announcements -/

/-- At `desk` no position hears an announcement. -/
theorem heard_none (p : Position) : posGet desk.breakin.heard p = none := by
  obtain ⟨r, u⟩ := p
  cases r <;> revert u <;> decide +kernel

/-- A queue is sound while nothing is heard once its decidable parts are. -/
theorem sound_of_unheard {s : State} (h : s.breakin.heard = desk.breakin.heard)
    (size : s.breakin.queue.length ≤ 8)
    (ids : (s.breakin.queue.map BreakIn.id).Nodup ∧ (s.breakin.queue.map BreakIn.acceptance).Nodup)
    (range : ∀ r ∈ s.breakin.queue, (1 ≤ r.id ∧ r.id ≤ 255) ∧ r.acceptance ≤ s.breakin.accepted)
    (order : s.breakin.queue.Pairwise fun x y =>
      y.priority < x.priority ∨ (y.priority = x.priority ∧ x.acceptance < y.acceptance))
    (settled : QueueSettled s.breakin.queue)
    (players : s.breakin.queue.Pairwise fun x y => x.player.isSome = true → x.player ≠ y.player)
    (carrying : s.breakin.carrying = zonesCarrying s.breakin.queue) : QueueSound s :=
  ⟨size, ids.1, fun r hr => (range r hr).1, order, ids.2, fun r hr => (range r hr).2, settled, players, carrying,
    fun p _ hp => by rw [h, heard_none] at hp; cases hp⟩

/-- An empty queue is sound. -/
theorem empty_sound {s : State} (h : s.breakin = desk.breakin) : QueueSound s := by
  refine sound_of_unheard ?_ ?_ ?_ ?_ ?_ ⟨?_, ?_, ?_⟩ ?_ ?_ <;> rw [h] <;> decide +kernel

/-- The queues of the witnesses keep the rules of the queue. -/
theorem airing_sound : QueueSound (airing []) ∧ QueueSound (airing full) ∧ QueueSound { airing full with now := 2000 } ∧
    QueueSound { airing [onAir 1 3] with now := 2000 } := by
  refine ⟨?_, ?_, ?_, ?_⟩ <;> refine sound_of_unheard rfl ?_ ?_ ?_ ?_ ⟨?_, ?_, ?_⟩ ?_ ?_ <;> decide +kernel

/-- BreakInsAreQueuedAndWithdrawn: each refusal at its edge, a post over a full queue of lower and of equal priority, and
withdrawals of a free id and of queued ones. -/
theorem witness_breakin :
    (Serves (airing []) .control (.breakinPost ⟨[9], [1], 3, 0⟩) ∧ ¬∀ z ∈ [9], 1 ≤ z ∧ z ≤ 8) ∧
    (Serves (airing []) .control (.breakinPost ⟨[1], [1], 8, 0⟩) ∧ ¬(1 ≤ (8 : Int) ∧ (8 : Int) ≤ 7)) ∧
    (Serves (airing full) .control (.breakinPost ⟨[8], [1], 3, 15⟩) ∧ 8 ≤ (airing full).breakin.queue.length ∧
      (∀ r ∈ (airing full).breakin.queue, 3 ≤ r.priority) ∧ (∃ r ∈ (airing full).breakin.queue, r.priority < 4)) ∧
    ((∀ c ∈ [(0 : ClipNo)], (airing full).work.clips[c].state = .ready) ∧ [1] = [(0 : ClipNo)].map (·.val + 1)) ∧
    (∃ c ∈ [(1 : ClipNo)], (airing full).work.clips[c].state ≠ .ready) ∧
    (Serves (airing full) .control (.breakinWithdraw 0) ∧ Serves (airing full) .control (.breakinWithdraw 255) ∧
      (∀ r ∈ (airing full).breakin.queue, r.id ≠ 255)) ∧
    (onAir 1 3 ∈ (airing full).breakin.queue ∧ (onAir 1 3).id = 1 ∧ (onAir 1 3).source ≠ .plan) := by
  refine ⟨?_, ?_, ?_, ?_, ?_, ?_, ?_⟩ <;> decide +kernel

/-- BreakInsAreQueuedAndWithdrawn, PageEndsAdvanceOrComplete: a post, a withdrawal and a completion that put a request on
the air in a zone that carries before and after; the first announcement into a silent zone; and the end of the last one. -/
theorem witness_carrying :
    let s := { airing full with now := 2000 }
    let first := after (.breakinPost .control 1 ⟨[1], [1], 5, 1⟩) (airing [])
    let last := { airing [onAir 1 3] with now := 2000 }
    let carries (x : State) : Bool := x.breakin.carrying[(0 : ZoneNo)]
    (∀ i ∈ [Instr.breakinPost .control 1 ⟨[1], [1], 4, 0⟩, .breakinWithdraw .control 1 1, .pageEnd 0],
      (after i s).breakin.carrying = s.breakin.carrying ∧ (putOnAir s (after i s)).length = 1) ∧
    (carries (airing []) = false ∧ carries first = true ∧ (putOnAir (airing []) first).length = 1) ∧
    carries last = true ∧ carries (after (.pageEnd 0) last) = false ∧
    Serves s .control (.breakinPost ⟨[1], [1], 4, 0⟩) ∧ Serves s .control (.breakinWithdraw 1) := by
  refine ⟨?_, ?_, ?_, ?_, ?_, ?_⟩ <;> decide +kernel

/-- BreakInsAreQueuedAndWithdrawn: a PLAN request is withdrawn by INCIDENT, not by OPERATE. -/
theorem witness_plan_withdrawal :
    let q := [{ onAir 1 3 with source := .plan, plan := some 0 }]
    Serves { airing q with mgmt := (deskWith ({ · with authority := .operate })).mgmt } .control (.breakinWithdraw 1) ∧
    ((deskWith ({ · with authority := .operate })).mgmt.get .control).authority.rank < 2 ∧
    Serves (airing q) .console (.breakinWithdraw 1) ∧ 2 ≤ ((airing q).mgmt.get .console).authority.rank := by decide +kernel

/-- PageEndsAdvanceOrComplete: a free player; the last page of the last clip of a request with one repetition asked; a
clip with a page to come; and a further clip. -/
theorem witness_page_end : (∀ r ∈ (airing []).breakin.queue, r.player ≠ some 0) ∧
    (onAir 1 3 ∈ (airing full).breakin.queue ∧ (onAir 1 3).player = some 0 ∧
      (onAir 1 3).pageSince = (airing full).now ∧ (onAir 1 3).pageSince ≠ { airing full with now := 2000 }.now ∧
      (onAir 1 3).clipIndex = 0 + 1 ∧
      (onAir 1 3).clips[0]? = some 0 ∧ (airing full).work.clips[(0 : ClipNo)].pages ≤ (onAir 1 3).page + 1 ∧
      (onAir 1 3).clips.length = 0 + 1 ∧ (onAir 1 3).repeats ≠ 0 ∧ (onAir 1 3).repeats ≤ min 65535 ((onAir 1 3).done + 1)) ∧
    { onAir 1 3 with repeats := 0 }.repeats = 0 ∧ 0 + 1 < { onAir 1 3 with clips := [0, 0] }.clips.length ∧
    (onAir 1 3).page + 1 < (tables fun w => { w with clips := w.clips.set 0 ⟨.ready, 0, 2, 2⟩ }).work.clips[(0 : ClipNo)].pages := by
  decide +kernel

/-- `desk` with clip 1 holding another directory record. -/
def clipped (x : Clip) : State := tables fun w => { w with clips := w.clips.set 0 x }

/-- Clip 2 occupies all of the store but its last page. -/
def crowded : State := tables fun w => { w with clips := w.clips.set 1 ⟨.ready, 0, 2047, 2047⟩ }

/-- ClipsAreLoadedAndDeleted, ReadRequestsAnswer: page counts at the edges, room for one page and not for two, each state of
a clip, and a clip that a request names. -/
theorem witness_clips : StoreKey.clip 0 ∉ desk.inFlight ∧
    (Serves desk .control (.clipOpen ((0 : ClipNo).val + 1) 0) ∧ Serves desk .control (.clipOpen 1 601)) ∧
    (Serves (clipped ⟨.loading, 0, 2, 0⟩) .control (.clipOpen 1 600) ∧
      (clipped ⟨.loading, 0, 2, 0⟩).work.clips[(0 : ClipNo)].state ≠ .empty) ∧
    (Serves crowded .control (.clipOpen 1 1) ∧ crowded.work.clips[(0 : ClipNo)].state = .empty ∧
      (∀ d : ClipNo, crowded.work.clips[d].state ≠ .empty → 1 ≤ crowded.work.clips[d].pages ∧
        crowded.work.clips[d].first + crowded.work.clips[d].pages ≤ 2048 ∧
        crowded.work.clips[d].written ≤ crowded.work.clips[d].pages ∧
        (crowded.work.clips[d].state = .ready → crowded.work.clips[d].written = crowded.work.clips[d].pages))) ∧
    (Serves desk .control (.clipDelete 1) ∧ desk.work.clips[(0 : ClipNo)].state = .empty ∧
      ¬∃ r ∈ desk.breakin.queue, (0 : ClipNo) ∈ r.clips) ∧
    (Serves (airing full) .control (.clipDelete 1) ∧ ∃ r ∈ (airing full).breakin.queue, (0 : ClipNo) ∈ r.clips) ∧
    (Serves (clipped ⟨.ready, 0, 2, 2⟩) .control (.clipDelete 1) ∧
      (clipped ⟨.ready, 0, 2, 2⟩).work.clips[(0 : ClipNo)].state = .ready) := by
  refine ⟨?_, ?_, ?_, ?_, ?_, ?_, ?_⟩ <;> decide +kernel

/-- A page. -/
def page : List Byte := List.replicate 1536 7

/-- ClipsAreLoadedAndDeleted: the last page of a clip of two, its duplicate before and after READY, an index past it, and a
payload one byte short. -/
theorem witness_clip_page : page.length = 1536 ∧ (page.drop 1).length ≠ 1536 ∧
    (∀ x ∈ [Clip.mk .loading 0 2 1, ⟨.ready, 0, 2, 2⟩, ⟨.empty, 0, 0, 0⟩], ∀ i ∈ [0, 1, 2],
      Serves (clipped x) .control (.clipPage 1 i page)) ∧
    Serves desk .control (.clipPage 1 0 (page.drop 1)) ∧ memoryCanonical desk :=
  by refine ⟨?_, ?_, ?_, ?_, ?_, ?_⟩ <;> decide +kernel

/-! #### Plans and contacts -/

/-- `desk` under plan 1, with plan 0 on the stack, and trigger 1 for plan 1, trigger 2 for plan 2. -/
def nested : State := { tables (fun w => { w with
    plans := (w.plans.set 1 (some .standing)).set 2 (some { PlanRecord.standing with authority := .maintain })
    triggers := (w.triggers.set 1 ⟨true, .view, 1, .nest⟩).set 2 ⟨true, .view, 2, .nest⟩ }) with
  plans := ⟨1, ⟨.invoke, none, none, 0⟩, [0]⟩ }

/-- `nested` under plan 2 alone, which needs MAINTAIN. -/
def away : State := { nested with plans := ⟨2, ⟨.invoke, none, none, 0⟩, []⟩ }

/-- A plan record that loads as it stands. -/
def loads : PlanArgs := ⟨none, 3, [(1, 371)], [], [⟨[8], [64], 7, 15⟩], some 30⟩

/-- `desk` with carrier 1 in the Catalogue. -/
def mobile1 : State := tables fun w => { w with catalogue := w.catalogue.set 0 (some ⟨.mobile, 1, none, none⟩) }

/-- PlansAndTriggersAreSet: the active plan, the absence of plans 0 and 15, and a record that stands. -/
theorem witness_plan_load : Serves desk .control (.planLoad (0 : PlanNo).val none) ∧ StoreKey.plan 0 ∉ desk.inFlight ∧
    desk.plans.active = 0 ∧ Serves desk .control (.planLoad (15 : PlanNo).val none) ∧
    ¬(desk.plans.active = 15 ∨ 15 ∈ desk.plans.stack) ∧
    (Serves away .control (.planLoad (0 : PlanNo).val none) ∧ ¬(away.plans.active = 0 ∨ 0 ∈ away.plans.stack)) ∧
    Serves mobile1 .control (.planLoad (15 : PlanNo).val (some loads)) ∧
    (after (.planLoad .control 1 15 (some loads)) mobile1).mgmt.control.held.map (·.2.answer) = [.acceptedClamped] := by
  decide +kernel

/-- PlansAndTriggersAreSet, R5: a PLAN LOAD that names carrier 1 is refused while the write of a CARRIER SET that changes
its kind is in flight, and accepted once that is done. -/
theorem witness_kind_change :
    let s := after (.carrierSet .control 1 ⟨1, 1, 3, none, some 1⟩) { mobile1 with stored := mobile1.work }
    let load (s : State) : State := after (.planLoad .control 2 15 (some loads)) s
    StoreKey.carrier 0 ∈ s.inFlight ∧ s.stored.catalogue[(0 : CarrierNo)] ≠ s.work.catalogue[(0 : CarrierNo)] ∧
    Serves s .control (.planLoad 15 (some loads)) ∧
    ((load s).mgmt.control.ready.map fun r => (r.answer, r.payload)) = [(.badValue, [.named 0, .ident 0])] ∧
    (load (after (.storeWriteComplete (.carrier 0)) s)).mgmt.control.held.map (·.2.answer) = [.acceptedClamped] := by
  decide +kernel

/-- PlansAndTriggersAreSet: an offence of each check in list N at its first entry, by the answers it has. -/
theorem witness_offences :
    (after (.planLoad .control 1 15 (some { loads with listN := [(25, 0)] })) mobile1).mgmt.control.ready.map
      (fun r => (r.answer, r.payload)) = [(.badId, [.named 0, .ident 0])] ∧
    (after (.planLoad .control 1 15 (some { loads with authority := 4 })) mobile1).mgmt.control.ready.map
      (fun r => (r.answer, r.payload)) = [(.badValue, [.named 3, .ident 1])] ∧
    (after (.planLoad .control 1 15 (some { loads with listN := [(1, 0), (2, 0)] })) mobile1).mgmt.control.ready.map
      (fun r => (r.answer, r.payload)) = [(.badValue, [.named 0, .ident 1])] := by decide +kernel

/-- PlansAndTriggersAreSet: the fields of an entry at their edges and just past them. -/
theorem witness_trigger_set :
    (∀ a ∈ [TriggerSetArgs.mk 31 true 3 16 1, ⟨31, true, 3, 0, 1⟩, ⟨31, true, 4, 15, 1⟩, ⟨31, true, 3, 15, 2⟩, ⟨31, true, 3, 15, 1⟩],
      Serves desk .control (.triggerSet a)) ∧ StoreKey.trigger 31 ∉ desk.inFlight ∧ (15 : PlanNo) ≠ 0 ∧
    (3 : Nat) = Authority.maintain.rank := by decide +kernel

/-- PlansAreInvokedAndStoodDown: a trigger out of range, each kind of outcome, and the stack full and empty. -/
theorem witness_invoke : (∀ n ∈ [32, 0, 1, 2], Serves nested .control (.invoke n)) ∧
    (invocation nested 1 3 = .alreadyActive ∧ invocation nested 0 3 = .triggerAbsent ∧ invocation nested 2 3 = .accepted) ∧
    (Serves nested .control .standDown ∧ nested.work.plans[nested.plans.active] = some .standing ∧
      PlanRecord.standing.authority.rank ≤ (nested.mgmt.get .control).authority.rank ∧ nested.plans.stack = 0 :: []) ∧
    (Serves away .console .standDown ∧
      away.work.plans[away.plans.active] = some { PlanRecord.standing with authority := .maintain } ∧
      (away.mgmt.get .console).authority.rank < Authority.maintain.rank ∧ away.plans.stack = [] ∧ away.plans.active ≠ 0) ∧
    (desk.plans.stack = [] ∧ desk.plans.active = 0 ∧ Serves desk .control .standDownAll ∧ Serves nested .control .standDownAll) ∧
    nested.breakin.queue.length ≤ 8 := by
  refine ⟨?_, ?_, ?_, ?_, ?_, ?_⟩ <;> decide +kernel

/-- The templates of `nested` are few, and so are those of `guarded`, and their queues are sound:
PlansAreInvokedAndStoodDown and WatchExpiryInvokesTrigger31 speak of them whole. -/
theorem witness_bounded : (Bounded nested ∧ QueueSound nested) ∧ Bounded { guarded true with now := 10000 } := by
  have few (s : State) (h : ∀ p : PlanNo, ((s.work.plans[p].map fun x => x.templates.length).getD 0) ≤ 4) :
      ∀ p x, s.work.plans[(p : PlanNo)] = some x → x.templates.length ≤ 4 := fun p x hx => by simpa [hx] using h p
  refine ⟨⟨⟨?_, few _ ?_⟩, empty_sound rfl⟩, ?_, few _ ?_⟩ <;> decide +kernel

/-- `desk` with contact 2 as given, under an entry that names trigger 1. -/
def contacted (x : ContactRec) : State := { nested with
  work := { nested.work with contacts := nested.work.contacts.set 2 ⟨some 1, .withdraw, .activeClosed⟩ }
  contacts := nested.contacts.set 2 x }

/-- ContactsSettleAndAct: a level that repeats, one that changes, timers running and stopped, and the fields of CONTACT SET
at their edges. -/
theorem witness_contact : desk.contacts[(2 : ContactNo)].raw = .opened ∧ dark.causes ≠ [] ∧
    desk.contacts[(2 : ContactNo)].raw ≠ .closed ∧ desk.contacts[(2 : ContactNo)].timer ≠ none ∧
    (contacted ⟨.closed, some .closed, none, .active⟩).contacts[(2 : ContactNo)].timer = none ∧
    (∀ a ∈ [ContactSetArgs.mk 2 (some 32) 1 1, ⟨2, some 31, 2, 1⟩, ⟨2, some 31, 1, 2⟩, ⟨2, some 31, 1, 1⟩, ⟨2, none, 0, 0⟩],
      Serves desk .control (.contactSet a)) ∧ StoreKey.contact 2 ∉ desk.inFlight := by decide +kernel

/-- ContactsSettleAndAct: an activation, and a release under the active plan, as the contact settles. -/
theorem witness_contact_moves :
    ((contacted ⟨.closed, none, some 0, .unsettled⟩).contacts[(2 : ContactNo)].state ≠ .active ∧
      (after (.debounceTimerExpiry 2) (contacted ⟨.closed, none, some 0, .unsettled⟩)).contacts[(2 : ContactNo)].state = .active) ∧
    ((contacted ⟨.opened, some .closed, some 0, .active⟩).contacts[(2 : ContactNo)].state = .active ∧
      (after (.debounceTimerExpiry 2) (contacted ⟨.opened, some .closed, some 0, .active⟩)).plans.active = 0) := by
  decide +kernel

/-- ReadRequestsAnswer: one record, all, and an identifier just out of range. -/
theorem witness_reads :
    (∀ n ∈ [0, 1, 5], Serves desk .control (.portStatus n) ∧ Serves desk .control (.rescueStatus n)) ∧
    (∀ n ∈ [0, 1, 3], Serves desk .console (.ringStatus n)) ∧ (∀ n ∈ [0, 64, 65], Serves desk .console (.clipList n)) ∧
    (∀ n ∈ [0, 15, 16, 17, 18], Serves desk .control (.planRead n)) ∧ Serves desk .control .refStatus ∧
    Serves desk .control .breakinList ∧ Serves desk .control .stackRead ∧
    (fedFrom fed .n .a = [0, 1] ∧ fedFrom fed .n .b = [] ∧ 1 ≤ 2) ∧
    (fedFrom restoring .n .b = [0] ∧ 0 + 2 ≤ (restoring.rings.get .n).hops.length) := by
  refine ⟨?_, ?_, ?_, ?_, ?_, ?_, ?_, ?_, ?_⟩ <;> decide +kernel

/-! #### Allocation, carriage and the invariants -/

/-- AllocationsFitTheBudget: the candidates of 6.9, over and within the budget, and a budget equal to the sum. -/
theorem witness_allocation : 1000 * (candsN5 2).length ≤ 1584900000 ∧
    (∀ c ∈ candsN5 2, -300 ≤ c.request ∧ c.request ≤ 370 ∧
      c.floor = max (-300) (c.request - (if c.cls = 0 then 0 else if c.cls = 1 then 30 else if c.cls = 2 then 60 else 150))) ∧
    1584900000 < ((candsN5 2).map fun c => lin c.request).sum ∧ ((candsN5 2).map fun c => lin c.request).sum ≤ 2911050000 ∧
    ((candsN5 2).map Cand.carrier).Nodup ∧ (∃ c ∈ candsN5 2, c.cls = 0) ∧ (-300 : Int) < 370 ∧
    (((candsN5 2).filter fun c => c.carrier ∉ (allocate 1584900000 (candsN5 2)).mute).map fun c => lin c.floor).sum ≤
      1584900000 ∧
    501190000 < (((candsN5 1).filter fun c => c.carrier ∉ (allocate 501190000 (candsN5 1)).mute).map fun c =>
      lin c.floor).sum := by
  refine ⟨?_, ?_, ?_, ?_, ?_, ?_, ?_, ?_, ?_⟩ <;> decide +kernel

/-- AllocationsFitTheBudget: carriers on the air at N1, a rescue event that an ACTIVE record recomputes at and one that it
notes; and the records after reset, sound as they stand. -/
theorem witness_records :
    ((posGet fed.beacons n1).amplifier = .ok ∧ fed.gateOpen = true ∧ fed.voters[(0 : ChannelNo)].state ≠ .idle) ∧
    ((fed.unitState n1).side = some .a ∧ ((fed.carriage.get na).carried.map (·.1.carrier)).Nodup) ∧
    (((posGet fed.alloc n1).grants.map Prod.fst).Nodup ∧ radiates fed n1 8 ≠ none) ∧
    (recomputes fed (.rescue 0) (posGet fed.alloc n1) = true ∧ recomputes fed (.rescue 1) (posGet fed.alloc n1) = false) ∧
    AllocSound State.reset := by
  have empty (r : Ring) (u : UnitNo) : (∀ side ∈ [Side.a, .b], (posGet State.reset.alloc ⟨r, u⟩).status ≠ .active side) ∧
      Barren (posGet State.reset.alloc ⟨r, u⟩) := by
    unfold Barren
    cases r <;> revert u <;> decide +kernel
  refine ⟨by decide +kernel, by decide +kernel, by decide +kernel, by decide +kernel, fun p _ _ => (empty p.ring p.unit).2,
    fun p side h => ?_, fun p c h => ?_⟩
  · exact absurd h ((empty p.ring p.unit).1 side (by cases side <;> decide))
  · rw [show p = ⟨p.ring, p.unit⟩ from rfl, (empty p.ring p.unit).2.2.1] at h
    cases h

/-- SlotsAreKeptOrGiven: the carried entries and the old map of 5.9, event 3, in which carrier 9 owns no slot. -/
theorem witness_slots :
    let carried := [0, 1, 2, 8, 12, 13, 14, 15].map want
    let old := [(0, 1), (1, 2), (8, 3), (9, 4), (12, 5), (13, 6), (14, 7), (15, 8)].map fun e : CarrierNo × Nat => (want e.1, e.2)
    carried.length ≤ 8 ∧ (carried.map Wanted.carrier).Nodup ∧
    (∀ x ∈ carried, ∀ y ∈ carried, x.kind = .rescue → y.kind = .rescue → x.channel = y.channel → x.channel ≠ none → x = y) ∧
    (old.map (·.2)).Nodup ∧ (∀ e ∈ old, 1 ≤ e.2) ∧ (old.map (·.1.carrier)).Nodup ∧
    (∀ e ∈ carried, e.kind = .rescue → e.channel ≠ none) ∧ (want 12, 5) ∈ old ∧ (∀ o ∈ old, o.1.carrier = (want 12).carrier → o = (want 12, 5)) ∧
    (restoring.rings.get .n).pathCapacity .b = some (0, 2) ∧ (desk.rings.get .n).pathCapacity .a = none := by
  refine ⟨?_, ?_, ?_, ?_, ?_, ?_, ?_, ?_, ?_, ?_, ?_⟩ <;> decide +kernel

/-- StepsKeepTablesAndPlans, StepsKeepRingsAndQueue: a step from the state after reset, which is sound in the decidable
parts of every invariant. -/
theorem witness_steps : step State.reset = .next { State.reset with now := 1 } ∧ memoryCanonical State.reset ∧
    catalogueOk State.reset.work.catalogue = true ∧ runOk State.reset.work.units.n = true ∧
    (State.reset.plans.active :: State.reset.plans.stack).Nodup ∧ QueueSound State.reset := by
  refine ⟨rfl, ⟨?_, ?_⟩, ?_, ?_, ?_, empty_sound rfl⟩ <;> decide +kernel

/-! #### Refusals out of range, and what reaches voters and planners -/

/-- Requests with an identifier just out of range, as each checks it first. -/
def outOfRange : List (Request × Instr) := [
  (.carrierSet ⟨0, 0, 1, none, none⟩, .carrierSet .control 1 ⟨0, 0, 1, none, none⟩),
  (.carrierSet ⟨25, 0, 1, none, none⟩, .carrierSet .control 1 ⟨25, 0, 1, none, none⟩),
  (.carrierSet ⟨1, 0, 0, none, none⟩, .carrierSet .control 1 ⟨1, 0, 0, none, none⟩),
  (.carrierSet ⟨1, 0, 5, none, none⟩, .carrierSet .control 1 ⟨1, 0, 5, none, none⟩),
  (.carrierSet ⟨1, 2, 4, some 5, none⟩, .carrierSet .control 1 ⟨1, 2, 4, some 5, none⟩),
  (.carrierSet ⟨1, 1, 3, none, some 0⟩, .carrierSet .control 1 ⟨1, 1, 3, none, some 0⟩),
  (.carrierClear 25, .carrierClear .control 1 25),
  (.ruSet ⟨29, true, none, 300, 10, 0⟩, .ruSet .control 1 ⟨29, true, none, 300, 10, 0⟩),
  (.zoneSet ⟨9, []⟩, .zoneSet .control 1 ⟨9, []⟩), (.zoneSet ⟨1, [17, 29]⟩, .zoneSet .control 1 ⟨1, [17, 29]⟩),
  (.portRenegotiate 5, .portRenegotiate .control 1 5), (.portDisable 5, .portDisable .control 1 5),
  (.portEnable 5, .portEnable .control 1 5), (.portConfig ⟨5, [], 2, none⟩, .portConfig .control 1 ⟨5, [], 2, none⟩),
  (.spanTestStart ⟨5, 2, 0, 1⟩, .spanTestStart .control 1 ⟨5, 2, 0, 1⟩), (.spanTestStop 5, .spanTestStop .control 1 5),
  (.clipOpen 65 0, .clipOpen .control 1 65 0), (.clipPage 0 0 page, .clipPage .control 1 0 0 page),
  (.clipDelete 65, .clipDelete .control 1 65), (.planLoad 16 none, .planLoad .control 1 16 none),
  (.triggerSet ⟨32, true, 4, 1, 0⟩, .triggerSet .control 1 ⟨32, true, 4, 1, 0⟩),
  (.contactSet ⟨16, none, 2, 0⟩, .contactSet .control 1 ⟨16, none, 2, 0⟩)]

/-- The clauses on BAD_ID of CarrierSetAndClear, RuSetReplacesTheRecord, ZoneSetReplacesTheMembers, RenegotiateGoesToBreak,
DisableAndEnable, PortConfigTakesEffect, SpanTestStarts, SpanTestRunsAndEnds, ClipsAreLoadedAndDeleted,
PlansAndTriggersAreSet and ContactsSettleAndAct. -/
theorem witness_bad_id : (∀ x ∈ outOfRange, x.2.request? = some (.control, 1, x.1) ∧ Serves desk .control x.1 ∧
      (after x.2 desk).mgmt.control.ready.map Reply.answer = [.badId]) ∧
    (∀ p, positionNumber p ≠ 29) ∧ (∀ p, spanNumber p ≠ 5) ∧ page.length = 1536 :=
  ⟨by decide +kernel, no_position_29.1, no_span_5, by decide +kernel⟩

/-- CarrierSetAndClear, SpanTestStarts: a byte that names no kind, of a carrier that no plan names and of one that plan 0
names; kind and lane that disagree; a second carrier of RC1; and a byte that names no pattern, or no loop. -/
theorem witness_bad_value :
    let rc1 := tables fun w => { w with catalogue := w.catalogue.set 1 (some ⟨.rescue, 4, some 0, none⟩) }
    let told (i : Instr) (s : State) : List Answer := (after i s).mgmt.control.ready.map Reply.answer
    (kindOf 3 = none ∧ Serves desk .control (.carrierSet ⟨1, 3, 4, none, none⟩) ∧
      told (.carrierSet .control 1 ⟨1, 3, 4, none, none⟩) desk = [.badValue]) ∧
    (Serves named .control (.carrierSet ⟨1, 3, 4, none, none⟩) ∧ named.work.catalogue[(0 : CarrierNo)] ≠ none ∧
      named.planNames 0 = true ∧ told (.carrierSet .control 1 ⟨1, 3, 4, none, none⟩) named = [.inUse]) ∧
    (kindOf 0 = some .mobile ∧ Serves desk .control (.carrierSet ⟨1, 0, 3, none, none⟩) ∧ ¬(3 ≤ 2) ∧
      told (.carrierSet .control 1 ⟨1, 0, 3, none, none⟩) desk = [.badValue]) ∧
    (Serves rc1 .control (.carrierSet ⟨1, 2, 4, some 1, none⟩) ∧
      catalogueOk (rc1.work.catalogue.set 0 (some ⟨.rescue, 4, some 0, none⟩)) = false ∧
      told (.carrierSet .control 1 ⟨1, 2, 4, some 1, none⟩) rc1 = [.badValue]) ∧
    ∀ a ∈ [SpanTestArgs.mk 1 2 0 1, ⟨1, 0, 2, 1⟩], Serves desk .control (.spanTestStart a) ∧ a.port = spanNumber na ∧
      (1 < a.pattern ∨ 1 < a.loop) ∧ told (.spanTestStart .control 1 a) desk = [.badValue] := by
  refine ⟨?_, ?_, ?_, ?_, ?_⟩ <;> decide +kernel

/-- `desk` under plan 1, which names carrier 1 of RC1 for both rings where plan 0 names it for N alone, with N1 and S1 FED_A,
and RC1's source S1. -/
def crossing (state : VoterState) (quality : Nat) : State := { tables (fun w => { w with
    catalogue := w.catalogue.set 0 (some ⟨.rescue, 4, some 0, none⟩)
    plans := (w.plans.set 0 (some { PlanRecord.standing with listN := [(0, 270)] })).set 1
      (some { PlanRecord.standing with listN := [(0, 270)], listS := [(0, 270)] })
    triggers := w.triggers.set 1 ⟨true, .view, 1, .nest⟩ }) with
  plans := ⟨1, ⟨.invoke, none, some 1, 0⟩, [0]⟩
  rings := ⟨{ desk.rings.n with units := desk.rings.n.units.set 0 .fedA },
    { desk.rings.s with units := desk.rings.s.units.set 0 .fedA }⟩
  voters := desk.voters.set 0 { desk.voters[(0 : ChannelNo)] with
    state := state, covers := ⟨true, true⟩, cands := [⟨n1, some quality⟩, ⟨⟨.s, 0⟩, some 9⟩], source := some ⟨.s, 0⟩ } }

/-- The plan state is sound once its decidable parts are. -/
theorem plans_sound_of {s : State} (stack : (s.plans.active :: s.plans.stack).Nodup ∧ s.plans.stack.length ≤ 4 ∧
      (s.plans.active = 0 → s.plans.stack = []) ∧ ((0 : PlanNo) ∈ s.plans.stack → s.plans.stack.getLast? = some 0))
    (loaded : ∀ p ∈ 0 :: s.plans.active :: s.plans.stack, (s.work.plans[p]).isSome = true)
    (plan0 : (s.stored.plans[(0 : PlanNo)]).isSome = true)
    (triggers : ∀ t : TriggerNo, (s.work.triggers[t]).plan ≠ 0 ∧ (s.stored.triggers[t]).plan ≠ 0)
    (few : ∀ p : PlanNo, ((s.work.plans[p].map fun x => x.templates.length).getD 0) ≤ 4 ∧
      ((s.stored.plans[p].map fun x => x.templates.length).getD 0) ≤ 4) : PlansSound s :=
  ⟨stack.1, stack.2.1, stack.2.2.1, stack.2.2.2, fun p hp => loaded p (.tail _ hp), ⟨loaded 0 (.head _), plan0⟩, triggers,
    fun p x h => h.elim (fun h => by simpa [h] using (few p).1) (fun h => by simpa [h] using (few p).2)⟩

/-- The voters are sound once their decidable parts are. -/
theorem voters_sound_of {s : State} (covers : ∀ ch : ChannelNo, s.voters[ch].covers = coverageOf s ch)
    (cands : ∀ ch : ChannelNo, s.voters[ch].cands.map VoterCand.position =
      allPositions.filter fun p => s.voters[ch].covers.get p.ring && (s.unitState p = .fedA || s.unitState p = .fedB))
    (source : ∀ ch : ChannelNo, ∀ p ∈ s.voters[ch].source.toList, ∃ c ∈ s.voters[ch].cands, c.position = p) :
    VotersSound s := ⟨covers, cands, fun ch p h => source ch p (Option.mem_toList.2 h)⟩

/-- TicksAreVotedOn: in each state of the voter, with N1 heard and not, STAND DOWN takes the source S1 from the candidates,
and an INVOKE of plan 1 over the plan that is left has it join as NEW. -/
theorem witness_rejudged : ∀ x ∈ [VoterState.idle, .repeating, .console, .base, .hang], ∀ q ∈ [0, 9],
    let s := crossing x q
    let t := after (.standDown .control 1) s
    (PlansSound s ∧ QueueSound s ∧ VotersSound s) ∧ ¬Resets (.standDown .control 1) ∧
    exec (.standDown .control 1) s = .next t ∧
    t.voters[(0 : ChannelNo)].cands = [⟨n1, some q⟩] ∧ t.voters[(0 : ChannelNo)].covers ≠ s.voters[(0 : ChannelNo)].covers ∧
    (after (.invoke .control 2 1) t).voters[(0 : ChannelNo)].cands = [⟨n1, some q⟩, ⟨⟨.s, 0⟩, none⟩] := by
  intro x hx q hq
  refine ⟨⟨plans_sound_of ?_ ?_ ?_ ?_ ?_, empty_sound rfl, voters_sound_of ?_ ?_ ?_⟩, not_false, rfl, ?_⟩
  all_goals revert q; revert x; decide +kernel

/-- The rings are sound once their decidable parts are. -/
theorem rings_sound_of {s : State}
    (hops : ∀ r ∈ [Ring.n, .s], let x := s.rings.get r
      x.hops.length = s.ringLength r + 1 ∧
      x.hops[0]? = some (if s.present ⟨r, 0⟩ then (s.spans.get ⟨r, .a⟩).state.hop else none) ∧
      (∀ u : UnitNo, u.val + 1 = s.ringLength r → x.hops[u.val + 1]? =
        some (if s.present ⟨r, u⟩ then (s.spans.get ⟨r, .b⟩).state.hop else none)) ∧
      ∀ u v : UnitNo, v.val = u.val + 1 → v.val < s.ringLength r →
        x.hops[v.val]? = some (if s.present ⟨r, u⟩ ∧ s.present ⟨r, v⟩ then
          (if hopNumber (s.report ⟨r, u⟩ false) ≤ hopNumber (s.report ⟨r, v⟩ true) then s.report ⟨r, u⟩ false
            else s.report ⟨r, v⟩ true) else none))
    (reach : ∀ r ∈ [Ring.n, .s], let x := s.rings.get r
      (∀ u : UnitNo, x.reachA[u] = true ↔ u.val < s.ringLength r ∧ ∀ v : UnitNo, v ≤ u →
        s.passable ⟨r, v⟩ = true ∧ (x.hops[v.val]?.join).isSome = true) ∧
      ∀ u : UnitNo, x.reachB[u] = true ↔ u.val < s.ringLength r ∧ ∀ v : UnitNo, u ≤ v → v.val < s.ringLength r →
        s.passable ⟨r, v⟩ = true ∧ (x.hops[v.val + 1]?.join).isSome = true)
    (units : ∀ r ∈ [Ring.n, .s], let x := s.rings.get r
      (∀ u : UnitNo, let p : Position := ⟨r, u⟩
        (s.unitState p = .absent ↔ (s.unit p).commissioned = false) ∧
        ((posGet s.beacons p).status = none ↔ (s.unit p).commissioned = false) ∧
        (s.unitState p = .mismatch ↔ (s.unit p).commissioned = true ∧ s.mismatched p = true) ∧
        ((s.unitState p = .fedA ∨ s.unitState p = .fedB) ↔ (x.reachA[u] = true ∨ x.reachB[u] = true)) ∧
        (s.unitState p = .fedA → x.reachA[u] = true) ∧ (s.unitState p = .fedB → x.reachB[u] = true)) ∧
      (∀ u v : UnitNo, v ≤ u → s.unitState ⟨r, u⟩ = .fedA → s.unitState ⟨r, v⟩ = .fedA) ∧
      (x.timer ≠ none ↔ ∃ u : UnitNo, s.unitState ⟨r, u⟩ = .fedB ∧ x.reachA[u] = true)) : RingsSound s := by
  have all (r : Ring) : r ∈ [Ring.n, .s] := by cases r <;> decide
  have passes (r : Ring) (u : UnitNo) : PassesAt s r u ↔ s.passable ⟨r, u⟩ = true := by
    simp [PassesAt, State.passable, and_assoc]
  have up (x : Option HopState) : (∃ g, x = some (some g)) ↔ x.join.isSome = true := by
    rcases x with _ | _ | g <;> simp
  exact
    { hops := fun r => (hops r (all r)).1
      first := fun r => (hops r (all r)).2.1
      last := fun r => (hops r (all r)).2.2.1
      inner := fun r => (hops r (all r)).2.2.2
      reachA := fun r u => by simpa only [passes, up] using (reach r (all r)).1 u
      reachB := fun r u => by simpa only [passes, up] using (reach r (all r)).2 u
      absent := fun p => ((units p.ring (all _)).1 p.unit).1
      beacon := fun p => ((units p.ring (all _)).1 p.unit).2.1
      mismatch := fun p => ((units p.ring (all _)).1 p.unit).2.2.1
      fed := fun p => ((units p.ring (all _)).1 p.unit).2.2.2.1
      fedA := fun p => ((units p.ring (all _)).1 p.unit).2.2.2.2.1
      fedB := fun p => ((units p.ring (all _)).1 p.unit).2.2.2.2.2
      before := fun r => (units r (all r)).2.1
      timer := fun r => (units r (all r)).2.2 }

/-- The carriage records are sound once their decidable parts are. -/
theorem carriage_sound_of {s : State} (parts : ∀ path ∈ allSpans, let x := s.carriage.get path
      x.list = s.carriageList path.ring ∧
      x.capacity = ((s.rings.get path.ring).pathCapacity path.side).map (·.1) ∧
      x.units = ((List.finRange 12).filter fun u => (s.unitState ⟨path.ring, u⟩).side = some path.side) ∧
      (x.announcing = true ↔ ∃ u ∈ x.units, s.announced ⟨path.ring, u⟩ = true) ∧
      (∀ k ∈ x.capacity.toList, x.wanted = carriageOrder (s.catalogued x.list) ∧ x.carried.map (·.1) = x.wanted.take k ∧
        x.shed = x.wanted.drop k) ∧
      (x.capacity = none → x.wanted = [] ∧ x.carried = [] ∧ x.shed = [])) : CarriageSound s := by
  have all (path : SpanPort) : path ∈ allSpans := by
    obtain ⟨r, d⟩ := path
    cases r <;> cases d <;> decide
  exact
    { list := fun path => (parts path (all path)).1
      capacity := fun path => (parts path (all path)).2.1
      units := fun path => (parts path (all path)).2.2.1
      announcing := fun path => (parts path (all path)).2.2.2.1
      wanted := fun path k h => (parts path (all path)).2.2.2.2.1 k (Option.mem_toList.2 h)
      empty := fun path => (parts path (all path)).2.2.2.2.2 }

/-- `desk` with NA in UP at grade 1 and six mobile carriers that plan 0 names for ring N, the last of them alone under
plan 1. -/
def narrow : State :=
  let six : List CarrierNo := [8, 9, 10, 11, 12, 13]
  let list : List ListEntry := six.map fun c => (c, 270)
  { tables (fun w => { w with
      catalogue := six.foldl (fun t (c : CarrierNo) => t.set c (some ⟨.mobile, 1, none, none⟩)) w.catalogue
      plans := (w.plans.set 0 (some { PlanRecord.standing with listN := list })).set 1
        (some { PlanRecord.standing with listN := [(13, 270)] })
      triggers := w.triggers.set 1 ⟨true, .view, 1, .nest⟩ }) with
    spans := { desk.spans with na := { desk.spans.na with state := .up .g1 .negotiated, timer := none } }
    carriage := desk.carriage.set na (CarriageRec.start list) |>.set ⟨.n, .b⟩ (CarriageRec.start list) }

/-- The allocation records hold the inputs in force once their decidable parts say so. -/
theorem alloc_fed_of {s : State} (parts : ∀ r ∈ [Ring.n, .s], ∀ u : UnitNo, let p : Position := ⟨r, u⟩
      let x := posGet s.alloc p
      x.status = allocStatus (s.unitState p) (posGet s.beacons p).amplifier ∧
      (∀ side ∈ [Side.a, .b], x.status = .active side →
        x.carried = (s.carriage.get ⟨r, side⟩).carried.map fun e => (e.1.carrier, e.1.level)) ∧
      x.announced = s.announced p ∧ x.gate = s.gateOpen ∧ x.override = s.override ∧
      ∀ ch : ChannelNo, x.rescue[ch] = true ↔ s.voters[ch].state ≠ .idle) : AllocFed s := by
  have at_ (p : Position) := parts p.ring (by cases p.ring <;> decide) p.unit
  exact
    { status := fun p => (at_ p).1
      carried := fun p side h c level => by
        rw [(at_ p).2.1 side (by cases side <;> decide) h]
        simp
      announced := fun p => (at_ p).2.2.1
      gate := fun p => (at_ p).2.2.2.1
      override := fun p => (at_ p).2.2.2.2.1
      rescue := fun p => (at_ p).2.2.2.2.2 }

/-- SlotsAreKeptOrGiven, AllocationsFitTheBudget: with N1's first beacon the path of four slots sheds two of six carriers;
an INVOKE of plan 1 takes one of them back and ends the other. Planners and allocators hold the inputs in force. -/
theorem witness_shed :
    let shed (s : State) : List CarrierNo := (s.carriage.get na).shed.map Wanted.carrier
    let s := after (.beaconReceived na beaconN1) narrow
    let t := after (.invoke .control 2 1) s
    (∀ x ∈ [narrow, s], PlansSound x ∧ QueueSound x ∧ RingsSound x ∧ CarriageSound x ∧ AllocFed x) ∧
    ¬Resets (.invoke .control 2 1) ∧ exec (.beaconReceived na beaconN1) narrow = .next s ∧
    exec (.invoke .control 2 1) s = .next t ∧
    shed narrow = [] ∧ shed s = [12, 13] ∧ shed t = [] ∧
    (t.carriage.get na).carried.map (fun e => (e.1.carrier, e.2)) = [(13, 1)] := by
  have sound : ∀ x ∈ [narrow, after (.beaconReceived na beaconN1) narrow],
      PlansSound x ∧ QueueSound x ∧ RingsSound x ∧ CarriageSound x ∧ AllocFed x := by
    intro x hx
    have same : x.breakin = desk.breakin := by revert x; decide +kernel
    refine ⟨plans_sound_of ?_ ?_ ?_ ?_ ?_, empty_sound same, rings_sound_of ?_ ?_ ?_, carriage_sound_of ?_, alloc_fed_of ?_⟩
    all_goals clear same; revert x; decide +kernel
  exact ⟨sound, not_false, rfl, rfl, by decide +kernel, by decide +kernel, by decide +kernel, by decide +kernel⟩

/-- `desk` with N2 commissioned too and both ports of ring N in UP. -/
def twoWay : State :=
  let up (x : Span) : Span := { x with state := .up .g3 .negotiated, timer := none, advertising := every }
  let s := after (.ruSet .control 1 ⟨0x12, true, none, 300, 10, 0⟩) desk
  { s with spans := { s.spans with na := up s.spans.na, nb := up s.spans.nb } }

/-- What feeds N1 and N2, and when the wait-to-restore timer of ring N started. -/
def feeding (s : State) : UnitState × UnitState × Option Nat :=
  (s.unitState n1, s.unitState ⟨.n, 1⟩, (s.rings.get .n).timer)

/-- StepsKeepRingsAndQueue, row by row of R51, on a ring of two: N1 and then N2 is heard and fed from A; NA loses its signal
and both go to B; NA is in UP again at 5 ms, and both stay with B and wait; a changed report lets the timer go on, which then
ends, or has ended by RING REVERT or by a time of 10 s; and N2 falls silent, so that N1, which waits, is fed from A. -/
theorem witness_redecided :
    let heard1 := after (.beaconReceived na beaconN1) twoWay
    let heard2 := after (.beaconReceived na ⟨8, .n, 2, some .g4, some .g4, .ok, false⟩) heard1
    let lost := after (.lossOfSignal na) heard2
    let ready := { after (.breakTimerExpiry na) lost with now := 5 }
    let again := after (.advertisementReceived na every true 1) ready
    let other := after (.beaconReceived na { beaconN1 with downstream := some .g1 }) { again with now := 10005 }
    (∀ s ∈ [twoWay, heard1, heard2, ready, again, other], RingsSound s) ∧
    (feeding twoWay = (.unreachable, .unreachable, none) ∧ feeding heard1 = (.fedA, .unreachable, none) ∧
      feeding heard2 = (.fedA, .fedA, none) ∧ feeding lost = (.fedB, .fedB, none) ∧
      feeding again = (.fedB, .fedB, some 5) ∧ feeding other = (.fedB, .fedB, some 5)) ∧
    (∀ c ∈ [.waitToRestoreExpiry .n, .ringRevert .control 1 1, .portConfig .control 1 ⟨1, [1, 2, 3, 4], 2, some 10⟩],
      ¬Resets c ∧ feeding (after c other) = (.fedA, .fedA, none)) ∧
    feeding (after (.silenceTimerExpiry ⟨.n, 1⟩) other) = (.fedA, .unreachable, none) := by
  intro heard1 heard2 lost ready again other
  refine ⟨fun s hs => rings_sound_of ?_ ?_ ?_, ?_, ?_, ?_⟩
  all_goals first
    | (revert s; decide +kernel)
    | decide +kernel
    | (intro c hc; fin_cases hc <;> exact ⟨not_false, by decide +kernel⟩)

/-- `fed` with NA in UP, broadcast carrier 10 of programme 2 in slot 6 too, and a request of clip 1 on the air in zone 1, which
N1 hears. -/
def sending : State :=
  let ws := (fed.carriage.get na).carried ++ [(⟨9, .broadcast, none, 270⟩, 6)]
  let s := { fed with
    work := { fed.work with
      catalogue := fed.work.catalogue.set 9 (some ⟨.broadcast, 3, none, some 1⟩), zones := fed.work.zones.set 0 [n1]
      clips := fed.work.clips.set 0 ⟨.ready, 0, 1, 1⟩ }
    spans := { fed.spans with na := lit.spans.na }
    carriage := { fed.carriage with na := { fed.carriage.na with carried := ws, wanted := ws.map (·.1) } }
    breakin := { (airing [onAir 1 3]).breakin with heard := posSet desk.breakin.heard n1 (some 1) } }
  [AllocEvent.cls, .carriage].foldl (fun s e => allocEvent n1 e s) s

/-- A queue of one request on the air in N1's zone, which N1 hears, is sound. -/
theorem sound_of_heard {s : State} (h : s.breakin = { (airing [onAir 1 3]).breakin with
    heard := posSet desk.breakin.heard n1 (some 1) }) (hz : s.zoneOfPosition n1 = some 0) : QueueSound s := by
  have heard : ∀ r ∈ [Ring.n, .s], ∀ u : UnitNo, posGet (posSet desk.breakin.heard n1 (some 1)) ⟨r, u⟩ =
      if r = .n ∧ u = 0 then some 1 else none := by decide +kernel
  refine ⟨?_, ?_, ?_, ?_, ?_, ?_, ⟨?_, ?_, ?_⟩, ?_, ?_, fun p n hp => ?_⟩
  case refine_12 =>
    obtain ⟨r, u⟩ := p
    rw [h, heard r (by cases r <;> decide)] at hp
    split at hp
    next hn =>
      obtain ⟨rfl, rfl⟩ := hn
      cases hp
      rw [h]
      exact ⟨by decide +kernel, 0, onAir 1 3, hz, rfl, rfl, rfl⟩
    next => cases hp
  all_goals rw [h]; decide +kernel

theorem sending_sound : QueueSound sending := sound_of_heard (by decide +kernel) (by decide +kernel)

/-- SlotsAreKeptOrGiven, PageEndsAdvanceOrComplete: a rescue, a mobile and a broadcast slot and an empty one of a path in UP,
at N1, which hears a page and radiates the broadcast carrier, at N2, which hears none, and at N3, which is not fed. -/
theorem witness_outputs :
    sending.causes = [] ∧ QueueSound sending ∧ ((sending.spans.get na).isUp = true ∧ (fed.spans.get na).isUp = false) ∧
    (((sending.carriage.get na).carried.map (·.2)).Nodup ∧ (sending.carriage.get na).carried.map (·.2) = [1, 5, 6]) ∧
    (sending.unitState n1 = .fedA ∧ sending.unitState ⟨.n, 1⟩ = .fedA ∧ sending.unitState ⟨.n, 2⟩ = .absent) ∧
    ([1, 2, 5, 6].map (slotStream sending na) = [some (.voter 0), none, some (.donor 1), some (.programme 1)] ∧
      [1, 2, 6].map (slotFill sending n1) = [some (.stream (.voter 0)), none, some (.page 0)] ∧
      slotFill sending ⟨.n, 1⟩ 6 = some (.stream (.programme 1)) ∧ slotFill sending ⟨.n, 2⟩ 6 = none) ∧
    ((onAir 1 3 ∈ sending.breakin.queue ∧ posGet sending.breakin.heard n1 = some 1) ∧
      (radiates sending n1 9 ≠ none ∧ inserted sending n1 = .page 0 ∧ announcement sending n1 = some (0, 0)) ∧
      inserted sending ⟨.n, 1⟩ = .programme ∧ announcement sending ⟨.n, 1⟩ = none) := by
  refine ⟨rfl, sending_sound, ?_, ?_, ?_, ?_, ?_⟩ <;> decide +kernel

/-- R14: a zone is sent as its members in ascending order and its write flag. R161: an absent plan is its absent mark, and a
plan that is loaded begins with its number behind the mark. -/
theorem test_sent_records :
    let s := tables fun w => { w with zones := w.zones.set 1 [⟨.s, 0⟩, n1] }
    let sent (i : Instr) : List Field := ((after i s).mgmt.control.ready.map (·.payload)).flatten
    sent (.zoneGet .control 1 2) = [.entries 2, .position n1, .position ⟨.s, 0⟩, .flag false] ∧
    sent (.planRead .control 1 9) = [.present false, .flag false, .named 2] ∧
    (sent (.planRead .control 1 0)).take 4 = [.present true, .ident 0, .present false, .named 1] := by decide +kernel

/-- R122: of a hang of 20 tenths, 19 remain after 199 ms. -/
theorem test_hang_remaining :
    hangFields { desk with now := 199 } { desk.voters[(0 : ChannelNo)] with hang := some (0, 20) } =
      [.present true, .quantity 19] := by decide +kernel

/-- R27, R52: as NA loses its signal, PORT_DOWN and then one FEED_CHANGE, a WARNING with cause HOP, for N1 and N2, now FED_B;
R57, R59: as they return, one with cause REVERT, a NOTICE. -/
theorem test_feed_change :
    let heard := after (.beaconReceived na ⟨8, .n, 2, some .g4, some .g4, .ok, false⟩) (after (.beaconReceived na beaconN1) twoWay)
    let told (s t : State) : List (EventKind × Severity × Subject × List Field) :=
      (t.mgmt.console.events.drop s.mgmt.console.events.length).map fun r => (r.kind, r.severity, r.subject, r.detail)
    let lost := after (.lossOfSignal na) heard
    let again := after (.advertisementReceived na every true 1) (after (.breakTimerExpiry na) lost)
    told heard lost = [(.portDown, .warning, .span na, [.named 0]),
      (.feedChange, .warning, .position n1, [.named 2, .count 2, .named 0])] ∧
    told again (after (.ringRevert .control 1 1) again) =
      [(.feedChange, .notice, .position n1, [.named 1, .count 2, .named 4])] := by decide +kernel

end Sys2Proof.Tests
end

section
/-! SUPPORT. The tables of the Configuration Store: what keeps R1, R9, R13 and R124, and what the corrections of a
reset restore of them (R16 to R18, R127). -/

namespace Sys2Proof.Machine

open Sys2Proof

/-! ### The Catalogue (R1, R18) -/

theorem vector_get_set {α : Type} {n : Nat} (t : Vector α n) (i j : Fin n) (x : α) :
    (t.set i x)[j] = if j = i then x else t[j] := by
  simp only [Fin.getElem_fin, Vector.getElem_set, Fin.ext_iff, eq_comm]

theorem inBreach_eq_true_iff (t : Vector (Option Carrier) 24) (c : CarrierNo) : inBreach t c = true ↔
    ∃ x, t[c] = some x ∧ (kindLimit x.kind < kindCount t x.kind ∨ ∃ d, d ≠ c ∧ ∃ y, t[d] = some y ∧ clash x y = true) := by
  simp [inBreach, Option.any_eq_true]

theorem catalogueOk_iff (t : Vector (Option Carrier) 24) : catalogueOk t = true ↔ ∀ c, inBreach t c = false := by
  simp [catalogueOk]

/-- A Catalogue that holds no other records than another has no more of a kind. -/
theorem kindCount_le {t u : Vector (Option Carrier) 24} (h : ∀ c : CarrierNo, u[c] = t[c] ∨ u[c] = none) (k : CarrierKind) :
    kindCount u k ≤ kindCount t k := by
  simp only [kindCount, ← List.countP_eq_length_filter]
  refine List.countP_mono_left fun c _ hc => ?_
  rcases h c with hk | hk
  · rwa [hk] at hc
  · simp [hk] at hc

/-- Removing records puts none in breach. -/
theorem inBreach_of_fewer {t u : Vector (Option Carrier) 24} (h : ∀ c : CarrierNo, u[c] = t[c] ∨ u[c] = none)
    (c : CarrierNo) (hc : inBreach u c = true) : inBreach t c = true := by
  have stands {d : CarrierNo} {x : Carrier} (hd : u[d] = some x) : t[d] = some x := by
    rcases h d with hk | hk
    · rw [← hk, hd]
    · rw [hk] at hd; cases hd
  obtain ⟨x, hx, many | ⟨d, hd, y, hy, hxy⟩⟩ := (inBreach_eq_true_iff u c).1 hc
  · exact (inBreach_eq_true_iff t c).2 ⟨x, stands hx, .inl (many.trans_le (kindCount_le h _))⟩
  · exact (inBreach_eq_true_iff t c).2 ⟨x, stands hx, .inr ⟨d, hd, y, stands hy, hxy⟩⟩

theorem catalogueOk_of_fewer {t u : Vector (Option Carrier) 24} (h : ∀ c : CarrierNo, u[c] = t[c] ∨ u[c] = none)
    (ht : catalogueOk t = true) : catalogueOk u = true :=
  (catalogueOk_iff u).2 fun c => Bool.eq_false_iff.2 fun hc =>
    Bool.eq_false_iff.1 ((catalogueOk_iff t).1 ht c) (inBreach_of_fewer h c hc)

theorem set_none_fewer (t : Vector (Option Carrier) 24) (c : CarrierNo) :
    ∀ d : CarrierNo, (t.set c none)[d] = t[d] ∨ (t.set c none)[d] = none := by
  intro d
  rw [vector_get_set]
  split
  · exact .inr rfl
  · exact .inl rfl

theorem highestBreach_eq_none_iff (t : Vector (Option Carrier) 24) : highestBreach t = none ↔ catalogueOk t = true := by
  simp [highestBreach, catalogueOk]

/-- The record of highest id in breach is the one that no other in breach stands above. -/
theorem highestBreach_eq_some {t : Vector (Option Carrier) 24} {c : CarrierNo} (hc : inBreach t c = true)
    (above : ∀ d : CarrierNo, c < d → inBreach t d = false) : highestBreach t = some c := by
  obtain ⟨before, after, hsplit⟩ := List.append_of_mem (List.mem_reverse.2 (List.mem_finRange c))
  have hsort : (before ++ c :: after).Pairwise (· > ·) := by
    rw [← hsplit, List.pairwise_reverse]
    exact List.pairwise_lt_finRange 24
  have hbefore : ∀ d ∈ before, inBreach t d = false := fun d hd =>
    above d ((List.pairwise_append.1 hsort).2.2 d hd c (by simp))
  rw [highestBreach, hsplit, List.find?_append, List.find?_eq_none.2 (by simpa using hbefore)]
  simp [hc]

/-- How many records a Catalogue holds. -/
def recordCount (t : Vector (Option Carrier) 24) : Nat := (Finset.univ.filter fun c : CarrierNo => t[c].isSome = true).card

theorem recordCount_le (t : Vector (Option Carrier) 24) : recordCount t ≤ 24 :=
  (Finset.card_le_univ _).trans (Fintype.card_fin 24).le

theorem recordCount_set_none {t : Vector (Option Carrier) 24} {c : CarrierNo} (h : t[c].isSome = true) :
    recordCount (t.set c none) < recordCount t := by
  refine Finset.card_lt_card (Finset.ssubset_iff_subset_ne.2 ⟨fun d hd => ?_, fun he => ?_⟩)
  · simp only [Finset.mem_filter, Finset.mem_univ, true_and] at hd ⊢
    rcases set_none_fewer t c d with hk | hk
    · rwa [hk] at hd
    · simp [hk] at hd
  · have hc : c ∈ Finset.univ.filter fun d : CarrierNo => t[d].isSome = true := by simpa [-Fin.getElem_fin] using h
    rw [← he] at hc
    simp at hc

/-- Removals as many as there are records restore R1 (R18). -/
theorem repairCatalogue_ok (n : Nat) (t : Vector (Option Carrier) 24) (h : recordCount t ≤ n) :
    catalogueOk (repairCatalogue n t) = true := by
  induction n generalizing t with
  | zero =>
    refine (catalogueOk_iff t).2 fun c => Bool.eq_false_iff.2 fun hc => ?_
    obtain ⟨x, hx, -⟩ := (inBreach_eq_true_iff t c).1 hc
    have := recordCount_set_none (t := t) (c := c) (by simp [hx])
    omega
  | succ n ih =>
    simp only [repairCatalogue]
    split
    next c hc =>
      have hb : inBreach t c = true := List.find?_some hc
      obtain ⟨x, hx, -⟩ := (inBreach_eq_true_iff t c).1 hb
      have := recordCount_set_none (t := t) (c := c) (by simp [hx])
      exact ih _ (by omega)
    next hc => exact (highestBreach_eq_none_iff t).1 hc

theorem repairCatalogue_restores (t : Vector (Option Carrier) 24) : catalogueOk (repairCatalogue 24 t) = true :=
  repairCatalogue_ok 24 t (recordCount_le t)

theorem repairCatalogue_fewer (n : Nat) (t : Vector (Option Carrier) 24) (c : CarrierNo) :
    (repairCatalogue n t)[c] = t[c] ∨ (repairCatalogue n t)[c] = none := by
  induction n generalizing t with
  | zero => exact .inl rfl
  | succ n ih =>
    rw [repairCatalogue]
    cases highestBreach t with
    | none => exact .inl rfl
    | some d =>
      rcases ih (t.set d none) with hk | hk
      · exact (set_none_fewer t d c).imp hk.trans hk.trans
      · exact .inr hk

/-- A Catalogue that keeps R1 is left as it is. -/
theorem repairCatalogue_of_ok (n : Nat) {t : Vector (Option Carrier) 24} (h : catalogueOk t = true) :
    repairCatalogue n t = t := by
  cases n with
  | zero => rfl
  | succ n => simp only [repairCatalogue, (highestBreach_eq_none_iff t).2 h]

/-- With removals to spare, one more makes no difference. -/
theorem repairCatalogue_succ (n : Nat) (t : Vector (Option Carrier) 24) (h : recordCount t ≤ n) :
    repairCatalogue (n + 1) t = repairCatalogue n t := by
  induction n generalizing t with
  | zero => exact repairCatalogue_of_ok 1 (repairCatalogue_ok 0 t h)
  | succ n ih =>
    rw [repairCatalogue]
    conv_rhs => rw [repairCatalogue]
    split
    next c hc =>
      obtain ⟨x, hx, -⟩ := (inBreach_eq_true_iff t c).1 (List.find?_some hc)
      have := recordCount_set_none (t := t) (c := c) (by simp [hx])
      exact ih _ (by omega)
    next => rfl

/-- The record of highest id in breach goes first (R18). -/
theorem repairCatalogue_first {t : Vector (Option Carrier) 24} {c : CarrierNo} (hc : inBreach t c = true)
    (above : ∀ d : CarrierNo, c < d → inBreach t d = false) :
    repairCatalogue 24 t = repairCatalogue 24 (t.set c none) := by
  obtain ⟨x, hx, -⟩ := (inBreach_eq_true_iff t c).1 hc
  have hless := recordCount_set_none (t := t) (c := c) (by simp [hx])
  have hall := recordCount_le t
  calc repairCatalogue 24 t = repairCatalogue 23 (t.set c none) := by
        simp only [repairCatalogue, highestBreach_eq_some hc above]
    _ = repairCatalogue 24 (t.set c none) := (repairCatalogue_succ 23 _ (by omega)).symm

/-! ### The Remote Unit Table (R9, R16) -/

theorem runOk_iff (t : Vector RuRecord 12) : runOk t = true ↔ t[(0 : UnitNo)].commissioned = true ∧
    ∀ u v : UnitNo, v.val + 1 = u.val → t[u].commissioned = true → t[v].commissioned = true := by
  simp only [runOk, List.all_eq_true, List.mem_finRange, forall_true_left]
  constructor
  · intro h
    refine ⟨by simpa using h 0, fun u v huv hu => ?_⟩
    have := h u
    rw [if_neg (by omega)] at this
    simp only [hu, Bool.not_true, Bool.false_or, List.all_eq_true, List.mem_finRange, forall_true_left] at this
    simpa [huv] using this v
  · rintro ⟨h0, h⟩ u
    split
    next hu => rwa [show u = 0 from Fin.ext hu]
    next hu =>
      cases hc : t[u].commissioned with
      | false => rfl
      | true =>
        simp only [Bool.not_true, Bool.false_or, List.all_eq_true, List.mem_finRange, forall_true_left]
        intro v
        by_cases huv : v.val + 1 = u.val
        · rw [h u v huv hc, Bool.or_true]
        · simp [huv]

theorem repairRun_get (t : Vector RuRecord 12) (u : UnitNo) : (repairRun t)[u] = { t[u] with
    commissioned := decide (t[u].commissioned = true ∧ ∀ v : UnitNo, v < u → t[v].commissioned = true) } := by
  rw [repairRun, tabulate_getElem]
  split
  next h =>
    obtain ⟨v, -, hv⟩ := List.any_eq_true.1 h
    simp only [Bool.and_eq_true, decide_eq_true_eq, Bool.not_eq_true'] at hv
    have : ¬(t[u].commissioned = true ∧ ∀ v : UnitNo, v < u → t[v].commissioned = true) :=
      fun hall => by rw [hall.2 v hv.1] at hv; simp at hv
    simp only [this, decide_false]
  next h =>
    have lower : ∀ v : UnitNo, v < u → t[v].commissioned = true := fun v hv => by
      by_contra hc
      exact h (List.any_eq_true.2 ⟨v, List.mem_finRange v, by simpa [-Fin.getElem_fin] using And.intro hv (Bool.eq_false_iff.2 hc)⟩)
    have hiff : (t[u].commissioned = true ∧ ∀ v : UnitNo, v < u → t[v].commissioned = true) ↔
        t[u].commissioned = true := and_iff_left lower
    simp only [hiff, Bool.decide_eq_true]

/-- A repaired ring keeps R9 where its position 1 is commissioned. -/
theorem repairRun_ok {t : Vector RuRecord 12} (h : t[(0 : UnitNo)].commissioned = true) : runOk (repairRun t) = true := by
  rw [runOk_iff]
  simp only [repairRun_get, decide_eq_true_eq]
  refine ⟨⟨h, fun v hv => absurd hv (Nat.not_lt_zero _)⟩, fun u v huv hu => ?_⟩
  have hlt : v < u := by rw [Fin.lt_def]; omega
  exact ⟨hu.2 v hlt, fun w hw => hu.2 w (hw.trans hlt)⟩

/-! ### The Zone Table (R13, R17) -/

theorem mem_repairZones (t : Vector (List Position) 8) (z : ZoneNo) (p : Position) :
    p ∈ (repairZones t)[z] ↔ p ∈ t[z] ∧ ∀ y : ZoneNo, y < z → p ∉ t[y] := by
  rw [repairZones, tabulate_getElem, List.mem_filter]
  simp

theorem repairZones_apart (t : Vector (List Position) 8) (y z : ZoneNo) (h : y ≠ z) (p : Position)
    (hp : p ∈ (repairZones t)[y]) : p ∉ (repairZones t)[z] := by
  rw [mem_repairZones] at hp ⊢
  rintro ⟨hz, lower⟩
  rcases lt_or_gt_of_ne h with hlt | hlt
  · exact lower y hlt hp.1
  · exact hp.2 z hlt hz

/-! ### The clip directory (R124, R125, R127) -/

/-- Two clips share no page. -/
def Clip.apart (x y : Clip) : Prop := x.first + x.pages ≤ y.first ∨ y.first + y.pages ≤ x.first

theorem Clip.apart_of_not_sharePage {x y : Clip} (h : sharePage x y = false) : x.apart y := by
  simp only [sharePage, Bool.and_eq_false_iff, decide_eq_false_iff_not, Nat.not_lt] at h
  exact h.symm

theorem Clip.vacant_sound : Clip.vacant.sound := fun h => absurd rfl h

theorem Clip.finished_sound {x : Clip} (h : x.sound) : x.finished.sound := by
  unfold Clip.finished
  split
  next hx =>
    intro _
    obtain ⟨hp, hf, hw, -⟩ := h (by simp [hx.1])
    exact ⟨hp, hf, hw, fun _ => hx.2⟩
  next => exact h

@[simp] theorem Clip.finished_first (x : Clip) : x.finished.first = x.first := by
  unfold Clip.finished; split <;> rfl

@[simp] theorem Clip.finished_pages (x : Clip) : x.finished.pages = x.pages := by
  unfold Clip.finished; split <;> rfl

@[simp] theorem Clip.finished_written (x : Clip) : x.finished.written = x.written := by
  unfold Clip.finished; split <;> rfl

theorem Clip.finished_empty_iff (x : Clip) : x.finished.state = .empty ↔ x.state = .empty := by
  unfold Clip.finished
  split
  next hx => simp [hx.1]
  next => rfl

theorem repairClips_get (t : Vector Clip 64) (c : ClipNo) : (repairClips t)[c] =
    match t[c].state with
    | .empty => t[c]
    | .loading => .vacant
    | .ready => if ∃ d < c, t[d].state = .ready ∧ sharePage t[d] t[c] = true then .vacant else t[c] := by
  rw [repairClips, tabulate_getElem]
  cases t[c].state with
  | empty | loading => rfl
  | ready =>
    have : ((List.finRange 64).any fun d => decide (d.val < c.val) && t[d].state = .ready && sharePage t[d] t[c]) = true ↔
        ∃ d < c, t[d].state = .ready ∧ sharePage t[d] t[c] = true := by
      simp [and_assoc]
    simp only [this]

/-- A clip that a repair leaves other than EMPTY was READY, and shares no page with a READY clip of lower id. -/
theorem repairClips_stands {t : Vector Clip 64} {c : ClipNo} (h : (repairClips t)[c].state ≠ .empty) :
    (repairClips t)[c] = t[c] ∧ t[c].state = .ready ∧ ∀ d < c, t[d].state = .ready → sharePage t[d] t[c] = false := by
  rw [repairClips_get] at h ⊢
  split at h
  next hs => exact absurd hs h
  next => exact absurd rfl h
  next hs =>
    split at h
    next => exact absurd rfl h
    next hno =>
      simp only [hs, if_neg hno, true_and]
      exact fun d hd hr => Bool.eq_false_iff.2 fun hsh => hno ⟨d, hd, hr, hsh⟩

theorem repairClips_sound {t : Vector Clip 64} (h : ∀ c : ClipNo, t[c].sound) (c : ClipNo) : (repairClips t)[c].sound := by
  intro hc
  have he := (repairClips_stands hc).1
  rw [he] at hc ⊢
  exact h c hc

theorem repairClips_apart (t : Vector Clip 64) (c d : ClipNo) (h : c ≠ d) (hc : (repairClips t)[c].state ≠ .empty)
    (hd : (repairClips t)[d].state ≠ .empty) : (repairClips t)[c].apart (repairClips t)[d] := by
  obtain ⟨ec, rc, lc⟩ := repairClips_stands hc
  obtain ⟨ed, rd, ld⟩ := repairClips_stands hd
  rw [ec, ed]
  rcases lt_or_gt_of_ne h with hlt | hlt
  · exact Clip.apart_of_not_sharePage (ld c hlt rc)
  · exact (Clip.apart_of_not_sharePage (lc d hlt rd)).symm

/-! ### Free runs (R124, R125) -/

theorem mem_insertRun (r x : Run) (runs : List Run) : x ∈ insertRun r runs ↔ x = r ∨ x ∈ runs := by
  induction runs with
  | nil => simp [insertRun]
  | cons y ys ih =>
    simp only [insertRun]
    split <;> simp [ih, or_left_comm]

theorem insertRun_sorted (r : Run) {runs : List Run} (h : runs.Pairwise fun x y => x.1 ≤ y.1) :
    (insertRun r runs).Pairwise fun x y => x.1 ≤ y.1 := by
  induction runs with
  | nil => simp [insertRun]
  | cons y ys ih =>
    obtain ⟨hy, hys⟩ := List.pairwise_cons.1 h
    simp only [insertRun]
    split
    next hle =>
      refine List.pairwise_cons.2 ⟨fun x hx => ?_, h⟩
      rcases List.mem_cons.1 hx with rfl | hx
      · exact hle
      · exact hle.trans (hy x hx)
    next hgt =>
      refine List.pairwise_cons.2 ⟨fun x hx => ?_, ih hys⟩
      rcases (mem_insertRun r x ys).1 hx with rfl | hx
      · exact (Nat.lt_of_not_le hgt).le
      · exact hy x hx

/-- What a fold of `insertRun` holds, and its order. -/
theorem foldl_insertRun (f : ClipNo → Run) (cs : List ClipNo) (runs : List Run) (h : runs.Pairwise fun x y => x.1 ≤ y.1) :
    (cs.foldl (fun runs c => insertRun (f c) runs) runs).Pairwise (fun x y => x.1 ≤ y.1) ∧
    ∀ x, x ∈ cs.foldl (fun runs c => insertRun (f c) runs) runs ↔ x ∈ runs ∨ ∃ c ∈ cs, x = f c := by
  induction cs generalizing runs with
  | nil => simpa using h
  | cons c cs ih =>
    obtain ⟨hsort, hmem⟩ := ih (insertRun (f c) runs) (insertRun_sorted _ h)
    refine ⟨hsort, fun x => ?_⟩
    rw [List.foldl_cons, hmem, mem_insertRun]
    simp [or_assoc, or_left_comm]

theorem occupiedRuns_sorted (clips : Vector Clip 64) : (occupiedRuns clips).Pairwise fun x y => x.1 ≤ y.1 :=
  (foldl_insertRun (fun c => (clips[c].first, clips[c].pages)) _ [] .nil).1

theorem mem_occupiedRuns (clips : Vector Clip 64) (x : Run) :
    x ∈ occupiedRuns clips ↔ ∃ c : ClipNo, clips[c].state ≠ .empty ∧ x = (clips[c].first, clips[c].pages) := by
  refine ((foldl_insertRun (fun c => (clips[c].first, clips[c].pages)) _ [] .nil).2 x).trans ?_
  simp

/-- A gap starts at or after its bound, meets no occupied run, and ends within the store. -/
theorem gaps_free (cur : Nat) (runs : List Run) (hsort : runs.Pairwise fun x y => x.1 ≤ y.1)
    (hin : ∀ r ∈ runs, r.1 ≤ storePages) : ∀ g ∈ gaps cur runs, cur ≤ g.1 ∧ g.1 + g.2 ≤ storePages ∧
      ∀ r ∈ runs, g.1 + g.2 ≤ r.1 ∨ r.1 + r.2 ≤ g.1 := by
  induction runs generalizing cur with
  | nil =>
    intro g hg
    simp only [gaps] at hg
    split at hg
    next hlt =>
      obtain rfl := List.mem_singleton.1 hg
      exact ⟨le_rfl, (Nat.add_sub_of_le hlt.le).le, by simp⟩
    next => simp at hg
  | cons r rest ih =>
    obtain ⟨first, n⟩ := r
    obtain ⟨hfirst, hrest⟩ := List.pairwise_cons.1 hsort
    have later : ∀ g ∈ gaps (max cur (first + n)) rest, cur ≤ g.1 ∧ g.1 + g.2 ≤ storePages ∧
        ∀ r ∈ (first, n) :: rest, g.1 + g.2 ≤ r.1 ∨ r.1 + r.2 ≤ g.1 := by
      intro g hg
      obtain ⟨hcur, hend, hfree⟩ := ih _ hrest (fun r hr => hin r (by simp [hr])) g hg
      refine ⟨(le_max_left _ _).trans hcur, hend, fun r hr => ?_⟩
      rcases List.mem_cons.1 hr with rfl | hr
      · exact .inr ((le_max_right _ _).trans hcur)
      · exact hfree r hr
    intro g hg
    simp only [gaps] at hg
    split at hg
    next hlt =>
      rcases List.mem_cons.1 hg with rfl | hg
      · have hend : cur + (first - cur) = first := Nat.add_sub_of_le hlt.le
        refine ⟨le_rfl, hend.le.trans (hin (first, n) (by simp)), fun r hr => .inl (hend.le.trans ?_)⟩
        rcases List.mem_cons.1 hr with rfl | hr
        · exact le_rfl
        · exact hfirst r hr
      · exact later g hg
    next => exact later g hg

/-- A free run of a sound directory lies in the store and meets no clip. -/
theorem freeRuns_free {clips : Vector Clip 64} (h : ∀ c : ClipNo, clips[c].sound) {g : Run} (hg : g ∈ freeRuns clips) :
    g.1 + g.2 ≤ storePages ∧ ∀ c : ClipNo, clips[c].state ≠ .empty →
      g.1 + g.2 ≤ clips[c].first ∨ clips[c].first + clips[c].pages ≤ g.1 := by
  have hin : ∀ r ∈ occupiedRuns clips, r.1 ≤ storePages := by
    intro r hr
    obtain ⟨c, hc, rfl⟩ := (mem_occupiedRuns clips r).1 hr
    have := (h c hc).2.1
    simp only [storePages]
    omega
  obtain ⟨-, hend, hfree⟩ := gaps_free 0 _ (occupiedRuns_sorted clips) hin g hg
  exact ⟨hend, fun c hc => hfree _ ((mem_occupiedRuns clips _).2 ⟨c, hc, rfl⟩)⟩

end Sys2Proof.Machine
end

section
/-! SUPPORT. What every operation of a block keeps of the invariants of ports, clip store, tables and plan state. -/

namespace Sys2Proof.Machine

open Sys2Proof

/-! ### What the invariants read -/

/-- The tables of a store that the invariants of clip store, tables and plan state read. -/
def Store.ruled (x : Store) := (x.catalogue, x.units, x.zones, x.clips, x.pages, x.plans, x.triggers)

theorem memoryCanonical.congr {s t : State} (hw : t.work.ruled = s.work.ruled) (hs : t.stored.ruled = s.stored.ruled)
    (h : memoryCanonical s) : memoryCanonical t := by
  simp only [Store.ruled, Prod.mk.injEq] at hw hs
  simpa only [memoryCanonical, hw, hs] using h

theorem TablesSound.congr {s t : State} (hw : t.work.ruled = s.work.ruled) (hs : t.stored.ruled = s.stored.ruled)
    (h : TablesSound s) : TablesSound t := by
  simp only [Store.ruled, Prod.mk.injEq] at hw hs
  obtain ⟨catalogue, run, zones, first, clips, disjoint⟩ := h
  constructor <;> simpa only [hw, hs]

theorem PlansSound.congr {s t : State} (hw : t.work.ruled = s.work.ruled) (hs : t.stored.ruled = s.stored.ruled)
    (hp : t.plans = s.plans) (h : PlansSound s) : PlansSound t := by
  simp only [Store.ruled, Prod.mk.injEq] at hw hs
  obtain ⟨distinct, depth, standing, bottom, loaded, plan0, triggers, templates⟩ := h
  constructor <;> simpa only [hw, hs, hp]

/-- What a step keeps of the four invariants. -/
structure Preserves (s t : State) : Prop where
  ports : portsBounded s → portsBounded t
  memory : memoryCanonical s → memoryCanonical t
  tables : TablesSound s → TablesSound t
  plans : PlansSound s → PlansSound t

theorem Preserves.refl (s : State) : Preserves s s := ⟨id, id, id, id⟩

theorem Preserves.trans {s t u : State} (h : Preserves s t) (k : Preserves t u) : Preserves s u :=
  ⟨k.ports ∘ h.ports, k.memory ∘ h.memory, k.tables ∘ h.tables, k.plans ∘ h.plans⟩

/-- What an operation of a block keeps: the ports but for their event queues, the bound of these, and the other
invariants. -/
structure Keeps (s t : State) : Prop where
  quiet : ∀ port, (t.mgmt.get port).quiet = (s.mgmt.get port).quiet
  straps : t.straps = s.straps
  queues : ∀ port, (s.mgmt.get port).events.length ≤ 48 → (t.mgmt.get port).events.length ≤ 48
  memory : memoryCanonical s → memoryCanonical t
  tables : TablesSound s → TablesSound t
  plans : PlansSound s → PlansSound t

theorem Keeps.refl (s : State) : Keeps s s := ⟨fun _ => rfl, rfl, fun _ => id, id, id, id⟩

theorem Keeps.trans {s t u : State} (h : Keeps s t) (k : Keeps t u) : Keeps s u :=
  ⟨fun p => (k.quiet p).trans (h.quiet p), k.straps.trans h.straps, fun p => k.queues p ∘ h.queues p,
    k.memory ∘ h.memory, k.tables ∘ h.tables, k.plans ∘ h.plans⟩

theorem Keeps.preserves {s t : State} (h : Keeps s t) : Preserves s t where
  ports := fun ⟨bounds, control, console⟩ =>
    ⟨fun port => ⟨h.queues port (bounds port).1, (outstanding_of_quiet (h.quiet port)).trans_le (bounds port).2⟩,
      (authority_of_quiet (h.quiet .control)).trans (by rw [h.straps, control]),
      (authority_of_quiet (h.quiet .console)).trans console⟩
  memory := h.memory
  tables := h.tables
  plans := h.plans

/-- A change of nothing that the invariants read. -/
theorem Keeps.of_same {s t : State} (hm : t.mgmt = s.mgmt) (hst : t.straps = s.straps) (hw : t.work.ruled = s.work.ruled)
    (hs : t.stored.ruled = s.stored.ruled) (hp : t.plans = s.plans) : Keeps s t :=
  ⟨fun _ => by rw [hm], hst, fun _ => by rw [hm]; exact id, .congr hw hs, .congr hw hs, .congr hw hs hp⟩

/-- A change of a table alone. -/
theorem Keeps.of_tables {s t : State} (hm : t.mgmt = s.mgmt) (hst : t.straps = s.straps)
    (memory : memoryCanonical s → memoryCanonical t) (tables : TablesSound s → TablesSound t)
    (plans : PlansSound s → PlansSound t) : Keeps s t :=
  ⟨fun _ => by rw [hm], hst, fun _ => by rw [hm]; exact id, memory, tables, plans⟩

/-! ### Posting and settling -/

theorem dropNotice_length {es : List Record} (h : es.any (·.severity = .notice) = true) :
    (dropNotice es).length + 1 = es.length := by
  induction es with
  | nil => simp at h
  | cons e es ih =>
    simp only [dropNotice]
    split
    next => rfl
    next hne =>
      rw [List.any_cons, decide_eq_false hne, Bool.false_or] at h
      simp [ih h]

theorem enqueue_length {m : MgmtRec} (r : Record) (h : m.events.length ≤ 48) : (m.enqueue r).events.length ≤ 48 := by
  unfold MgmtRec.enqueue
  split
  next => simp; omega
  next =>
    split
    next hany => simpa [dropNotice_length hany] using h
    next => exact h

theorem Keeps.post (s : State) (e : Note) : Keeps s (s.post e) where
  quiet port := by rw [post_mgmt, MgmtRec.quiet_enqueue]
  straps := rfl
  queues port h := by rw [post_mgmt]; exact enqueue_length _ h
  memory := id
  tables := .congr rfl rfl
  plans := .congr rfl rfl rfl

theorem Keeps.postAll (s : State) (es : List Note) : Keeps s (s.postAll es) := by
  induction es generalizing s with
  | nil => exact .refl s
  | cons e es ih => exact (Keeps.post s e).trans (ih _)

/-- A frame that leaves the invariants' parts alone, and posts records, keeps the invariants. -/
theorem Keeps.of_logs {s t : State} (h : Logs s t) {changed : List Part} (k : SameBut changed s t)
    (hq : Part.ports ∉ changed) (hst : Part.straps ∉ changed) (hw : Part.work ∉ changed) (hs : Part.stored ∉ changed)
    (hp : Part.plans ∉ changed) : Keeps s t := by
  obtain ⟨es, h⟩ := h
  have ew : t.work = s.work := k .work hw
  have es' : t.stored = s.stored := k .stored hs
  exact
    { quiet := k .ports hq
      straps := k .straps hst
      queues := fun port hl => (congrArg List.length (h.2.2 port).1).trans_le ((Keeps.postAll s es).queues port hl)
      memory := .congr (by rw [ew]) (by rw [es'])
      tables := .congr (by rw [ew]) (by rw [es'])
      plans := .congr (by rw [ew]) (by rw [es']) (k .plans hp) }

theorem Keeps.settled (x : Handed) : Keeps x.1 (settled x) :=
  .of_logs (settled_logs x) (settled_sameBut_handed x) (by simp [handedParts]) (by simp [handedParts])
    (by simp [handedParts]) (by simp [handedParts]) (by simp [handedParts])

theorem Keeps.andThen {s : State} {x : Handed} {f : State → Handed} (hx : Keeps s x.1) (hf : ∀ u, Keeps u (f u).1) :
    Keeps s (andThen x f).1 :=
  hx.trans (hf x.1)

/-! ### One record replaced -/

theorem Keeps.setSpan (s : State) (p : SpanPort) (x : Span) : Keeps s (s.setSpan p x) := .of_same rfl rfl rfl rfl rfl

theorem Keeps.setBeacon (s : State) (p : Position) (x : BeaconRec) : Keeps s (s.setBeacon p x) :=
  .of_same rfl rfl rfl rfl rfl

theorem Keeps.setContact (s : State) (c : ContactNo) (x : ContactRec) : Keeps s (s.setContact c x) :=
  .of_same rfl rfl rfl rfl rfl

theorem Keeps.setReference (s : State) (r : RefRec) : Keeps s { s with reference := r } := .of_same rfl rfl rfl rfl rfl

theorem Keeps.ite {c : Prop} [Decidable c] {s t u : State} (ht : Keeps s t) (hu : Keeps s u) :
    Keeps s (if c then t else u) := by
  split
  · exact ht
  · exact hu

/-! ### The state of a result -/

@[simp] theorem refuse_state (s : State) (a : Answer) : (refuse s a).state = s := rfl
@[simp] theorem refuseWith_state (s : State) (a : Answer) (p : List Field) : (refuseWith s a p).state = s := rfl
@[simp] theorem answered_state (s : State) (p : List Field) : (answered s p).state = s := rfl
@[simp] theorem done_state (a : Answer) (p : List Field) (x : Handed) : (done a p x).state = x.1 := rfl
@[simp] theorem written_state (key : StoreKey) (a : Answer) (p : List Field) (x : Handed) :
    (written key a p x).state = x.1 := rfl

/-! ### Rings (chapter 3) -/

theorem Keeps.markPort (old new : RingRec) (s : State) (p : SpanPort) : Keeps s (markPort old new s p) := by
  unfold Machine.markPort
  split
  · exact .refl s
  · exact .setSpan s p _

theorem Keeps.applyRing (r : Ring) (cause : FeedCause) (new : RingRec) (s : State) :
    Keeps s (Machine.applyRing r cause new s).1 :=
  have placed : Keeps s (s.setRing r new) := .of_same rfl rfl rfl rfl rfl
  placed.trans <| (Keeps.postAll _ _).trans <| (Keeps.markPort _ _ _ _).trans (.markPort _ _ _ _)

theorem Keeps.feedEvent (r : Ring) (cause : FeedCause) (judged : List UnitNo) (s : State) :
    Keeps s (Machine.feedEvent r cause judged s).1 := .applyRing r cause _ s

theorem Keeps.restoreEvent (r : Ring) (cause : FeedCause) (s : State) : Keeps s (Machine.restoreEvent r cause s).1 := by
  unfold Machine.restoreEvent
  dsimp only
  split
  · exact .refl s
  · exact .applyRing r cause _ s

theorem Keeps.restoreTimeChanged (r : Ring) (s : State) : Keeps s (Machine.restoreTimeChanged r s).1 := by
  unfold Machine.restoreTimeChanged
  split
  · split
    · exact .restoreEvent r .restore s
    · exact .refl s
  · exact .refl s

theorem Keeps.ringRevert (ring : Nat) (s : State) : Keeps s (Machine.ringRevert ring s).state := by
  unfold Machine.ringRevert
  split
  · exact .refl s
  · split
    · exact .refl s
    · exact .restoreEvent _ _ s

/-! ### Span ports (chapter 2) -/

theorem Keeps.leaveUp (p : SpanPort) (cause : DownCause) (next : Span → Span) (s : State) :
    Keeps s (Machine.leaveUp p cause next s).1 :=
  (Keeps.setSpan s p _).trans <| (Keeps.post _ _).trans (.feedEvent _ _ _ _)

theorem Keeps.enterUp (p : SpanPort) (g : Grade) (m : LinkMode) (partner : Partner) (s : State) :
    Keeps s (Machine.enterUp p g m partner s).1 :=
  (Keeps.setSpan s p _).trans <| (Keeps.post _ _).trans (.feedEvent _ _ _ _)

theorem Keeps.failAttempt (p : SpanPort) (fault : Option (LinkFault × List Field)) (s : State) :
    Keeps s (Machine.failAttempt p fault s).1 := by
  unfold Machine.failAttempt
  dsimp only
  split
  · exact .setSpan s p _
  · split
    · exact .setSpan s p _
    · exact (Keeps.setSpan s p _).trans (.post _ _)

theorem Keeps.breakEnded (p : SpanPort) (s : State) : Keeps s (Machine.breakEnded p s) := by
  unfold Machine.breakEnded
  dsimp only
  split
  · exact .setSpan s p _
  · exact .refl s

theorem Keeps.resolve (p : SpanPort) (theirs : GradeSet) (identity : Nat) (s : State) :
    Keeps s (Machine.resolve p theirs identity s).1 := by
  unfold Machine.resolve
  split
  · exact .enterUp _ _ _ _ s
  · exact .failAttempt _ _ s

theorem Keeps.advertised (p : SpanPort) (theirs : GradeSet) (ack : Bool) (identity : Nat) (s : State) :
    Keeps s (Machine.advertised p theirs ack identity s).1 := by
  unfold Machine.advertised
  dsimp only
  split
  · exact .leaveUp _ _ _ s
  · split
    · exact (Keeps.setSpan s p _).trans (.resolve _ _ _ _)
    · exact .setSpan s p _
  · exact .refl s

theorem Keeps.patternSeen (p : SpanPort) (pattern : IdlePattern) (s : State) :
    Keeps s (Machine.patternSeen p pattern s).1 := by
  unfold Machine.patternSeen
  dsimp only
  split
  · split
    · exact .refl s
    · exact .leaveUp _ _ _ s
  · split
    · exact .refl s
    · split <;> exact .setSpan s p _
  · exact .refl s

theorem Keeps.parallelUp (p : SpanPort) (pattern : IdlePattern) (s : State) :
    Keeps s (Machine.parallelUp p pattern s).1 := by
  unfold Machine.parallelUp
  split
  · exact .enterUp _ _ _ _ s
  · exact .failAttempt _ _ s

theorem Keeps.advertiseEnded (p : SpanPort) (s : State) : Keeps s (Machine.advertiseEnded p s).1 := by
  unfold Machine.advertiseEnded
  dsimp only
  split
  · split
    · exact .failAttempt _ _ s
    · split
      · exact .failAttempt _ _ s
      · exact .parallelUp _ _ s
      · exact .parallelUp _ _ s
      · exact .failAttempt _ _ s
  · exact .refl s

theorem Keeps.endTest (p : SpanPort) (t : SpanTest) (ending : TestEnding) (next : Span → Span) (s : State) :
    Keeps s (Machine.endTest p t ending next s) :=
  (Keeps.setSpan s p _).trans (.post _ _)

theorem Keeps.stopTest (p : SpanPort) (ending : TestEnding) (cond : SpanTest → Bool) (s : State) :
    Keeps s (Machine.stopTest p ending cond s) := by
  unfold Machine.stopTest
  split
  · split
    · exact .endTest _ _ _ _ s
    · exact .refl s
  · exact .refl s

theorem Keeps.testLocked (p : SpanPort) (s : State) : Keeps s (Machine.testLocked p s) := by
  unfold Machine.testLocked
  dsimp only
  split
  · exact .setSpan s p _
  · exact .refl s

theorem Keeps.testError (p : SpanPort) (s : State) : Keeps s (Machine.testError p s) := by
  unfold Machine.testError
  dsimp only
  split
  · split
    · exact .setSpan s p _
    · exact .refl s
  · exact .refl s

theorem Keeps.signalLost (p : SpanPort) (s : State) : Keeps s (Machine.signalLost p s).1 := by
  unfold Machine.signalLost
  dsimp only
  split
  · exact (Keeps.setSpan s p _).trans (.leaveUp _ _ _ _)
  · exact (Keeps.setSpan s p _).trans (.stopTest _ _ _ _)
  · exact .setSpan s p _

theorem Keeps.handBeacon (q : Position) (b : Beacon) (s : State) : Keeps s (Machine.handBeacon q b s).1 := by
  unfold Machine.handBeacon
  dsimp only
  split
  · exact (Keeps.setBeacon s q _).trans <| (Keeps.postAll _ _).trans (.feedEvent _ _ _ _)
  · exact (Keeps.setBeacon s q _).trans (.postAll _ _)

theorem Keeps.beaconArrived (p : SpanPort) (b : Beacon) (s : State) : Keeps s (Machine.beaconArrived p b s).1 := by
  unfold Machine.beaconArrived
  dsimp only
  split
  · split
    · exact .handBeacon _ _ s
    · exact .setSpan s p _
  · exact .refl s

theorem Keeps.silenceEnded (q : Position) (s : State) : Keeps s (Machine.silenceEnded q s).1 := by
  unfold Machine.silenceEnded
  dsimp only
  split
  · exact (Keeps.setBeacon s q _).trans <| (Keeps.post _ _).trans (.feedEvent _ _ _ _)
  · exact .refl s

theorem Keeps.slipAt (p : SpanPort) (b : Buffer) (s : State) : Keeps s (Machine.slipAt p b s) := by
  unfold Machine.slipAt
  dsimp only
  split
  · exact (Keeps.setSpan s p _).trans (.post _ _)
  · exact .setSpan s p _

theorem Keeps.blockArrived (p : SpanPort) (block : UplinkBlock) (s : State) : Keeps s (Machine.blockArrived p block s) := by
  unfold Machine.blockArrived
  dsimp only
  split
  · split
    · split
      · exact .setSpan s p _
      · exact .slipAt _ _ s
    · exact .setSpan s p _
  · exact .refl s

theorem Keeps.portTick (p : SpanPort) (s : State) : Keeps s (Machine.portTick p s).1 := by
  unfold Machine.portTick
  dsimp only
  split
  · split
    · split
      · exact .setSpan s p _
      · exact .slipAt _ _ s
    · exact .refl s
  · exact .refl s

theorem Keeps.blockTicked (s : State) : Keeps s (Machine.blockTicked s).1 :=
  (Keeps.portTick _ s).trans <| (Keeps.portTick _ _).trans <| (Keeps.portTick _ _).trans (.portTick _ _)

theorem Keeps.thresholdChanged (p : SpanPort) (s : State) : Keeps s (Machine.thresholdChanged p s) := by
  unfold Machine.thresholdChanged
  dsimp only
  split
  · exact .setSpan s p _
  · exact .refl s

theorem Keeps.portRenegotiate (port : Nat) (s : State) : Keeps s (Machine.portRenegotiate port s).state := by
  unfold Machine.portRenegotiate
  split
  next => exact .refl s
  next p _ =>
    dsimp only
    split <;> simp only [refuse_state, done_state]
    · exact .refl s
    · exact .refl s
    · exact .setSpan s p _
    · exact .setSpan s p _
    · exact .leaveUp p _ _ s

theorem Keeps.portDisable (port : Nat) (s : State) : Keeps s (Machine.portDisable port s).state := by
  unfold Machine.portDisable
  split
  next => exact .refl s
  next p _ =>
    dsimp only
    split
    · exact .refl s
    · exact .setSpan s p _
    · exact .setSpan s p _
    · simp only [done_state]
      exact .leaveUp p _ _ s
    · split <;> simp only [done_state]
      · exact .endTest p _ _ _ s
      · exact .setSpan s p _

theorem Keeps.portEnable (port : Nat) (s : State) : Keeps s (Machine.portEnable port s).state := by
  unfold Machine.portEnable
  split
  · exact .refl s
  · dsimp only
    split
    · exact .setSpan s _ _
    · exact .refl s

theorem Keeps.portConfig (a : PortConfigArgs) (s : State) : Keeps s (Machine.portConfig a s).state := by
  have settings (r : Ring) (x : RingSettings) : Keeps s (s.setSettings r x) := .of_same rfl rfl rfl rfl rfl
  unfold Machine.portConfig
  split
  next => exact .refl s
  next p _ =>
    split
    · exact .refl s
    · split
      · exact .refl s
      · split
        · exact .refl s
        · dsimp only [written_state]
          have threshold (c : Prop) [Decidable c] (u : State) : Keeps u (if c then u else Machine.thresholdChanged p u) :=
            .ite (.refl u) (.thresholdChanged p u)
          split
          · exact (settings _ _).trans (threshold _ _)
          · exact (settings _ _).trans ((threshold _ _).trans (.restoreTimeChanged _ _))

theorem Keeps.spanTestStart (a : SpanTestArgs) (s : State) : Keeps s (Machine.spanTestStart a s).state := by
  unfold Machine.spanTestStart
  split
  next => exact .refl s
  next p _ =>
    split
    · dsimp only
      split
      · exact .refl s
      · split
        · exact .refl s
        · rw [done_state]
          split
          · exact .leaveUp p _ _ s
          · exact .setSpan s p _
    · exact .refl s

theorem Keeps.spanTestStop (port : Nat) (s : State) : Keeps s (Machine.spanTestStop port s).state := by
  unfold Machine.spanTestStop
  split
  next => exact .refl s
  next p _ =>
    split
    · exact .refl s
    · simp only [done_state]
      exact .endTest p _ _ _ s

end Sys2Proof.Machine
end

section
/-! SUPPORT. What the operations of the reference unit, the voters, the break-in unit, the plan unit and the contacts keep
of the invariants of ports, clip store, tables and plan state. -/

namespace Sys2Proof.Machine

open Sys2Proof

/-! ### The reference unit (chapter 4) -/

theorem Keeps.enterRef (new : RefRec) (cause : RefCause) (s : State) : Keeps s (Machine.enterRef new cause s).1 :=
  (Keeps.setReference s new).trans (.post _ _)

theorem Keeps.passOnFree (s : State) : Keeps s (Machine.passOnFree s).1 := by
  unfold Machine.passOnFree
  split
  · exact .enterRef _ _ s
  · exact .refl s

theorem Keeps.enterFree (cause : RefCause) (s : State) : Keeps s (Machine.enterFree cause s).1 :=
  (Keeps.enterRef _ _ s).andThen .passOnFree

theorem Keeps.passOnHoldover (cause : RefCause) (s : State) : Keeps s (Machine.passOnHoldover cause s).1 := by
  unfold Machine.passOnHoldover
  split
  · split
    · exact .refl s
    · exact .enterRef _ _ s
  · exact .refl s

theorem Keeps.enterHoldover (forced : Bool) (cause : RefCause) (s : State) :
    Keeps s (Machine.enterHoldover forced cause s).1 :=
  (Keeps.enterRef _ _ s).andThen (.passOnHoldover _)

theorem Keeps.sourceSignal (src : Source) (valid : Bool) (s : State) : Keeps s (Machine.sourceSignal src valid s) :=
  .ite (.refl s) (.setReference s _)

theorem Keeps.warmupEnded (s : State) : Keeps s (Machine.warmupEnded s).1 := by
  unfold Machine.warmupEnded
  split
  · split <;> exact .enterRef _ _ s
  · exact .refl s

theorem Keeps.appeared (src : Source) (s : State) : Keeps s (Machine.appeared src s).1 := by
  have alternate : Keeps s (if src = s.preferred ∧ s.reference.selected = some (Source.other src) then
      Machine.enterRef (s.reference.toMeasuring .acquire src s.now) .switch s else (s, [])).1 := by
    split
    · exact .enterRef _ _ s
    · exact .refl s
  unfold Machine.appeared
  split
  · exact .refl s
  · exact .passOnFree s
  · exact alternate
  · exact alternate
  · exact .setReference s _
  · exact .passOnHoldover _ s

theorem Keeps.sourceAppears (src : Source) (s : State) : Keeps s (Machine.sourceAppears src s).1 := by
  unfold Machine.sourceAppears
  dsimp only
  split
  · exact .sourceSignal _ _ s
  · exact (Keeps.sourceSignal _ _ s).trans <| (Keeps.setReference _ _).trans (.appeared _ _)

theorem Keeps.vanished (src : Source) (s : State) : Keeps s (Machine.vanished src s).1 := by
  have lost : Keeps s (if s.reference.selected = some src then Machine.enterFree .sourceLost s else (s, [])).1 := by
    split
    · exact .enterFree _ s
    · exact .refl s
  unfold Machine.vanished
  split
  · exact .refl s
  · exact .refl s
  · exact .refl s
  · exact lost
  · exact lost
  · split
    · exact .enterHoldover _ _ s
    · exact .setReference s _

theorem Keeps.sourceVanishes (src : Source) (s : State) : Keeps s (Machine.sourceVanishes src s).1 := by
  unfold Machine.sourceVanishes
  dsimp only
  split
  · exact (Keeps.sourceSignal _ _ s).trans <| (Keeps.setReference _ _).trans (.vanished _ _)
  · exact .sourceSignal _ _ s

theorem Keeps.measured (e : Int) (s : State) : Keeps s (Machine.measured e s).1 := by
  have move (new : RefRec) (r : RefRec) (c : Prop) [Decidable c] :
      Keeps s (if c then Machine.enterRef new .measure s else ({ s with reference := r }, [])).1 := by
    split
    · exact .enterRef _ _ s
    · exact .setReference s _
  unfold Machine.measured
  split
  · exact .refl s
  · dsimp only
    split
    · split
      · exact move _ _ _
      · exact .setReference s _
    · split
      · exact move _ _ _
      · split
        · exact .setReference s _
        · exact move _ _ _
    · split
      · exact .setReference s _
      · exact move _ _ _
    · exact .refl s

theorem Keeps.switchEnded (s : State) : Keeps s (Machine.switchEnded s).1 := by
  unfold Machine.switchEnded
  split
  · exact .enterRef _ _ s
  · exact .refl s

theorem Keeps.holdoverEnded (s : State) : Keeps s (Machine.holdoverEnded s).1 := by
  unfold Machine.holdoverEnded
  split
  · exact .enterFree _ s
  · exact .refl s

theorem Keeps.settingsEvent (preferred limit : Bool) (s : State) : Keeps s (Machine.settingsEvent preferred limit s).1 :=
  .of_logs (settingsEvent_logs preferred limit s) (settingsEvent_sameBut preferred limit s) (by simp) (by simp) (by simp)
    (by simp) (by simp)

theorem Keeps.refConfig (a : RefConfigArgs) (s : State) : Keeps s (Machine.refConfig a s).state := by
  have settings (x : RefSettings) : Keeps s { s with work := { s.work with reference := x } } := .of_same rfl rfl rfl rfl rfl
  unfold Machine.refConfig
  split
  · exact .refl s
  · split
    · exact .refl s
    · exact (settings _).trans (.settingsEvent _ _ _)

theorem Keeps.refForceHoldover (s : State) : Keeps s (Machine.refForceHoldover s).state := by
  unfold Machine.refForceHoldover
  split
  · exact .enterHoldover _ _ s
  · exact .refl s

theorem Keeps.refResume (s : State) : Keeps s (Machine.refResume s).state := by
  unfold Machine.refResume
  split
  · exact (Keeps.setReference s _).trans (.passOnHoldover _ _)
  · exact .refl s

/-! ### Voters (chapter 7) -/

theorem Keeps.setVoterState (ch : ChannelNo) (new : VoterRec) (cause : TalkCause) (s : State) :
    Keeps s (Machine.setVoterState ch new cause s).1 :=
  .of_logs (setVoterState_logs ch new cause s) (setVoterState_sameBut ch new cause s) (by simp) (by simp) (by simp)
    (by simp) (by simp)

theorem Keeps.baseKeyed (ch : ChannelNo) (asserted : Bool) (s : State) : Keeps s (Machine.baseKeyed ch asserted s).1 :=
  .of_logs (baseKeyed_logs ch asserted s) (baseKeyed_sameBut ch asserted s) (by simp) (by simp) (by simp)
    (by simp) (by simp)

theorem Keeps.hangEnd (ch : ChannelNo) (s : State) : Keeps s (Machine.hangEnd ch s).1 := by
  unfold Machine.hangEnd
  dsimp only
  split
  · exact .setVoterState _ _ _ s
  · exact .refl s

theorem Keeps.keyLimit (ch : ChannelNo) (s : State) : Keeps s (Machine.keyLimit ch s).1 := by
  unfold Machine.keyLimit
  dsimp only
  split
  · exact (Keeps.post s _).trans (.setVoterState _ _ _ _)
  · exact .refl s

theorem Keeps.consoleKeyed (ch : ChannelNo) (s : State) : Keeps s (Machine.consoleKeyed ch s).2.1 := by
  unfold Machine.consoleKeyed
  dsimp only
  split
  · exact .refl s
  · exact .setVoterState _ _ _ s

theorem Keeps.consoleUnkeyed (ch : ChannelNo) (s : State) : Keeps s (Machine.consoleUnkeyed ch s).2.1 := by
  unfold Machine.consoleUnkeyed
  dsimp only
  split
  · exact .setVoterState _ _ _ s
  · exact .refl s

theorem Keeps.portalTalk (port : MgmtPort) (channel : Nat) (s : State) (act : ChannelNo → State → Answer × Handed)
    (h : ∀ ch, Keeps s (act ch s).2.1) : Keeps s (Machine.portalTalk port channel s act).state := by
  unfold Machine.portalTalk
  split
  · exact .refl s
  · exact .refl s
  · exact h _

theorem Keeps.voterConfig (a : VoterConfigArgs) (s : State) : Keeps s (Machine.voterConfig a s).state := by
  unfold Machine.voterConfig
  split
  · exact .refl s
  · split
    · exact .refl s
    · exact .of_same rfl rfl rfl rfl rfl

/-! ### The break-in unit (chapter 8) -/

theorem Keeps.setBreakin (s : State) (b : BreakInUnit) : Keeps s { s with breakin := b } := .of_same rfl rfl rfl rfl rfl

theorem Keeps.settlement (removals : List Note) (q : List BreakIn) (s : State) :
    Keeps s (Machine.settlement removals q s).1 := .setBreakin s _

theorem Keeps.pageEnded (p : PlayerNo) (s : State) : Keeps s (Machine.pageEnded p s).1 := by
  unfold Machine.pageEnded
  split
  · exact .refl s
  · split
    · exact .refl s
    · dsimp only
      split
      · exact .settlement _ _ s
      · exact .setBreakin s _

theorem Keeps.breakinPost (port : MgmtPort) (a : BreakInArgs) (s : State) : Keeps s (Machine.breakinPost port a s).state := by
  unfold Machine.breakinPost
  split
  · exact .refl s
  · split
    · exact .refl s
    · split
      · exact .refl s
      · exact .setBreakin s _

theorem Keeps.breakinWithdraw (authority : Authority) (id : Nat) (s : State) :
    Keeps s (Machine.breakinWithdraw authority id s).state := by
  unfold Machine.breakinWithdraw
  split
  · exact .refl s
  · split
    · exact .refl s
    · split
      · exact .refl s
      · exact .setBreakin s _

/-! ### The plan state (R148, R150, R152, R159) -/

/-- A plan state that keeps R148 where its plans are loaded. -/
structure PlanState.Sound (x : PlanState) : Prop where
  distinct : (x.active :: x.stack).Nodup
  depth : x.stack.length ≤ 4
  standing : x.active = 0 → x.stack = []
  bottom : (0 : PlanNo) ∈ x.stack → x.stack.getLast? = some 0

theorem PlansSound.state {s : State} (h : PlansSound s) : s.plans.Sound := ⟨h.distinct, h.depth, h.standing, h.bottom⟩

/-- Another plan state that keeps R148, of loaded plans. -/
theorem PlansSound.setPlans {s : State} {x : PlanState} (h : PlansSound s) (hx : x.Sound)
    (loaded : ∀ p ∈ x.active :: x.stack, (s.work.plans[p]).isSome = true) : PlansSound { s with plans := x } :=
  ⟨hx.distinct, hx.depth, hx.standing, hx.bottom, loaded, h.plan0, h.triggers, h.templates⟩

theorem Keeps.setPlans {s : State} {x : PlanState}
    (h : PlansSound s → x.Sound ∧ ∀ p ∈ x.active :: x.stack, (s.work.plans[p]).isSome = true) :
    Keeps s { s with plans := x } :=
  .of_tables rfl rfl id (.congr rfl rfl) fun k => k.setPlans (h k).1 (h k).2

theorem Keeps.activate (p : PlanNo) (stack : List PlanNo) (cause : ActivationCause) (source : ActivationSource)
    (trigger : Option TriggerNo) (s : State)
    (h : ∀ a, PlansSound s → PlanState.Sound ⟨p, a, stack⟩ ∧ ∀ q ∈ p :: stack, (s.work.plans[q]).isSome = true) :
    Keeps s (Machine.activate p stack cause source trigger s).1 :=
  (Keeps.setPlans (h _)).trans (.post _ _)

/-- What an accepted invocation has passed (R149). -/
theorem invocationOutcome_accepted {s : State} {t : TriggerNo} {a : Authority} (h : invocationOutcome s t a = .accepted) :
    let e := s.work.triggers[t]
    (s.work.plans[e.plan]).isSome = true ∧ e.plan ≠ s.plans.active ∧ e.plan ∉ s.plans.stack ∧
      (e.mode = .nest → s.plans.stack.length < 4) := by
  simp only [invocationOutcome] at h
  split at h <;> try contradiction
  split at h <;> try contradiction
  split at h <;> try contradiction
  next x hx =>
    split at h <;> try contradiction
    split at h <;> try contradiction
    split at h <;> try contradiction
    next hactive =>
      split at h <;> try contradiction
      next hstack =>
        split at h <;> try contradiction
        next hdepth => exact ⟨by rw [hx]; rfl, hactive, hstack, fun hm => Nat.lt_of_not_le fun hl => hdepth ⟨hm, hl⟩⟩

/-- An accepted invocation keeps R148: a trigger never names plan 0 (R147, R150). -/
theorem Keeps.carryOut {s : State} {t : TriggerNo} {a : Authority} (source : ActivationSource)
    (h : invocationOutcome s t a = .accepted) : Keeps s (Machine.carryOut s t source).1 := by
  obtain ⟨loaded, notActive, notStacked, deep⟩ := invocationOutcome_accepted h
  have standing (k : PlansSound s) (stack : List PlanNo) : s.work.triggers[t].plan = 0 → stack = [] :=
    fun he => absurd he (k.triggers t).1
  unfold Machine.carryOut
  refine .activate _ _ _ _ _ s fun _ k => ?_
  cases hm : s.work.triggers[t].mode with
  | nest =>
    refine ⟨⟨?_, deep hm, standing k _, fun h0 => ?_⟩, ?_⟩
    · exact List.nodup_cons.2 ⟨by simpa using ⟨notActive, notStacked⟩, k.distinct⟩
    · rcases List.mem_cons.1 h0 with h0 | h0
      · simp [k.standing h0.symm, ← h0]
      · rw [List.getLast?_cons, k.bottom h0]
        rfl
    · rintro q (_ | ⟨_, hq⟩)
      · exact loaded
      · exact k.loaded q hq
  | replace =>
    refine ⟨⟨?_, k.depth, standing k _, k.bottom⟩, ?_⟩
    · exact List.nodup_cons.2 ⟨notStacked, (List.nodup_cons.1 k.distinct).2⟩
    · rintro q (_ | ⟨_, hq⟩)
      · exact loaded
      · exact k.loaded q (.tail _ hq)

/-- A stand-down leaves a plan state that keeps R148 (R152). -/
theorem standDownTo_sound {s : State} {p : PlanNo} {stack : List PlanNo} (h : standDownTo s.plans = some (p, stack))
    (a : Activation) (k : PlansSound s) :
    PlanState.Sound ⟨p, a, stack⟩ ∧ ∀ q ∈ p :: stack, (s.work.plans[q]).isSome = true := by
  unfold standDownTo at h
  split at h
  next top rest hstack =>
    cases h
    obtain ⟨hactive, hnodup⟩ := List.nodup_cons.1 k.distinct
    rw [hstack] at hnodup
    have last (x : PlanNo) (xs : List PlanNo) (hr : stack = x :: xs) (h0 : (0 : PlanNo) ∈ p :: stack) :
        stack.getLast? = some 0 := by
      have := k.bottom (hstack ▸ h0)
      rwa [hstack, List.getLast?_cons, hr, List.getLast?_cons, Option.getD_some, ← List.getLast?_cons, ← hr] at this
    refine ⟨⟨hnodup, ?_, fun h0 => ?_, fun h0 => ?_⟩, fun q hq => k.loaded q (.tail _ (hstack ▸ hq))⟩
    · have := k.depth
      rw [hstack, List.length_cons] at this
      exact Nat.le_of_succ_le this
    · simp only at h0
      subst h0
      cases hr : stack with
      | nil => rfl
      | cons x xs =>
        exact absurd (List.mem_of_getLast? (last x xs hr (List.mem_cons_self ..))) (List.nodup_cons.1 hnodup).1
    · simp only at h0
      cases hr : stack with
      | nil => simp [hr] at h0
      | cons x xs => exact hr ▸ last x xs hr (.tail _ h0)
  next =>
    split at h
    next => cases h
    next =>
      cases h
      refine ⟨⟨by simp, by simp, fun _ => rfl, by simp⟩, fun q hq => ?_⟩
      obtain rfl := List.mem_singleton.1 hq
      exact k.plan0.1

/-- Plan 0 alone keeps R148. -/
theorem plan0_sound {s : State} (a : Activation) (k : PlansSound s) :
    PlanState.Sound ⟨0, a, []⟩ ∧ ∀ q ∈ (0 : PlanNo) :: [], (s.work.plans[q]).isSome = true := by
  refine ⟨⟨by simp, by simp, fun _ => rfl, by simp⟩, fun q hq => ?_⟩
  obtain rfl := List.mem_singleton.1 hq
  exact k.plan0.1

/-- A stack that loses a plan keeps R148 (R159). -/
theorem erase_sound {s : State} (p : PlanNo) (k : PlansSound s) :
    PlanState.Sound { s.plans with stack := s.plans.stack.erase p } ∧
      ∀ q ∈ s.plans.active :: s.plans.stack.erase p, (s.work.plans[q]).isSome = true := by
  obtain ⟨hactive, hnodup⟩ := List.nodup_cons.1 k.distinct
  refine ⟨⟨?_, (List.length_erase_le ..).trans k.depth, fun h0 => ?_, fun h0 => ?_⟩, ?_⟩
  · exact List.nodup_cons.2 ⟨fun hm => hactive (List.mem_of_mem_erase hm), hnodup.erase p⟩
  · simp [k.standing h0]
  · simp only at h0 ⊢
    obtain ⟨hne, hmem⟩ := (hnodup.mem_erase_iff).1 h0
    obtain ⟨init, hinit⟩ : ∃ init, s.plans.stack = init ++ [0] :=
      ⟨_, (List.dropLast_append_getLast? _ (k.bottom hmem)).symm⟩
    have h0p : (0 : PlanNo) ≠ p := hne
    rw [hinit, List.erase_append]
    split
    · simp
    · simp [h0p]
  · rintro q (_ | ⟨_, hq⟩)
    · exact k.loaded _ (List.mem_cons_self ..)
    · exact k.loaded q (.tail _ (List.mem_of_mem_erase hq))

theorem Keeps.invokeFrom (s : State) (t : TriggerNo) (by_ : Invoker) : Keeps s (Machine.invokeFrom s t by_).2.1 := by
  obtain ⟨ha, ⟨hacc, h⟩ | ⟨-, h⟩ | ⟨-, -, h⟩⟩ := invokeFrom_cases s t by_
  · rw [h]
    exact .carryOut _ (ha.symm.trans hacc)
  · rw [h]
    exact .refl s
  · rw [h]
    exact .post s _

theorem Keeps.invoke (port : MgmtPort) (authority : Authority) (trigger : Nat) (s : State) :
    Keeps s (Machine.invoke port authority trigger s).state := by
  unfold Machine.invoke
  split
  · exact .refl s
  · split
    next h => exact .carryOut _ h
    next => exact .refl s
    next => exact .refl s

theorem Keeps.standDown (port : MgmtPort) (authority : Authority) (s : State) :
    Keeps s (Machine.standDown port authority s).state := by
  unfold Machine.standDown
  split
  · exact .refl s
  · split
    next => exact .refl s
    next h => exact .activate _ _ _ _ _ s (standDownTo_sound h)

theorem Keeps.standDownAll (port : MgmtPort) (s : State) : Keeps s (Machine.standDownAll port s).state := by
  unfold Machine.standDownAll
  split
  · exact .refl s
  · exact .activate _ _ _ _ _ s plan0_sound

/-! ### Contacts and the control watch (R157 to R160, R175) -/

theorem Keeps.contactActivated (c : ContactNo) (s : State) : Keeps s (Machine.contactActivated c s).1 := by
  unfold Machine.contactActivated
  split
  · exact .refl s
  · exact .invokeFrom s _ _

theorem Keeps.withdrawPlan (c : ContactNo) (t : TriggerNo) (p : PlanNo) (s : State) :
    Keeps s (Machine.withdrawPlan c t p s).2.1 := by
  unfold Machine.withdrawPlan
  split
  · split
    next h => exact .activate _ _ _ _ _ s (standDownTo_sound h)
    next => exact .refl s
  · split
    · exact .setPlans (erase_sound p)
    · exact .refl s

theorem Keeps.contactReleased (c : ContactNo) (s : State) : Keeps s (Machine.contactReleased c s).1 := by
  unfold Machine.contactReleased
  dsimp only
  split
  · split
    · exact .withdrawPlan _ _ _ s
    · exact .refl s
  · exact .refl s

theorem Keeps.judgeContact (c : ContactNo) (s : State) : Keeps s (Machine.judgeContact c s).1 := by
  unfold Machine.judgeContact
  dsimp only
  split
  · exact (Keeps.setContact s c _).trans (.contactActivated _ _)
  · exact (Keeps.setContact s c _).trans (.contactActivated _ _)
  · exact (Keeps.setContact s c _).trans (.contactReleased _ _)
  · exact .setContact s c _

theorem Keeps.rawLevel (c : ContactNo) (level : Level) (s : State) : Keeps s (Machine.rawLevel c level s) :=
  .ite (.refl s) (.setContact s c _)

theorem Keeps.debounced (c : ContactNo) (s : State) : Keeps s (Machine.debounced c s).1 := by
  unfold Machine.debounced
  dsimp only
  split
  · exact (Keeps.setContact s c _).trans (.judgeContact _ _)
  · exact .refl s

theorem Keeps.contactSet (a : ContactSetArgs) (s : State) : Keeps s (Machine.contactSet a s).state := by
  have entry (c : ContactNo) (x : ContactEntry) : Keeps s (s.setContactEntry c x) := .of_same rfl rfl rfl rfl rfl
  unfold Machine.contactSet
  split
  · split
    · exact .refl s
    · split
      · rw [written_state]
        split
        · exact entry _ _
        · exact (entry _ _).trans (.judgeContact _ _)
      · exact .refl s
  · exact .refl s

theorem Keeps.setWatch (s : State) (x : Watch) : Keeps s { s with watch := x } := .of_same rfl rfl rfl rfl rfl

theorem Keeps.watchFrame (port : MgmtPort) (s : State) : Keeps s (Machine.watchFrame port s) := by
  unfold Machine.watchFrame
  split
  · exact .setWatch s _
  · exact (Keeps.setWatch s _).trans (.post _ _)
  · exact .refl s

theorem Keeps.watchExpired (s : State) : Keeps s (Machine.watchExpired s).1 := by
  unfold Machine.watchExpired
  split
  · split
    · exact .refl s
    · dsimp only
      split
      · exact (Keeps.setWatch s _).trans (.invokeFrom _ _ _)
      · exact .setWatch s _
  · exact .refl s

end Sys2Proof.Machine
end

section
/-! SUPPORT. What the requests of the groups MODEL, CLIPS, PLANS and MANAGEMENT, a store write and a reset keep of the
invariants of ports, clip store, tables and plan state; and so every step. -/

namespace Sys2Proof.Machine

open Sys2Proof

/-! ### Carriers and remote units (R4, R5, R9, R10) -/

theorem Keeps.setCatalogue {s : State} {x : Vector (Option Carrier) 24}
    (h : catalogueOk s.work.catalogue = true → catalogueOk x = true) : Keeps s (s.setCatalogue x) :=
  .of_tables rfl rfl id (fun k => ⟨h k.catalogue, k.run, k.zones, k.first, k.clips, k.disjoint⟩)
    fun k => ⟨k.distinct, k.depth, k.standing, k.bottom, k.loaded, k.plan0, k.triggers, k.templates⟩

theorem Keeps.carrierSet (a : CarrierSetArgs) (s : State) : Keeps s (Machine.carrierSet a s).state := by
  unfold Machine.carrierSet
  split
  · split
    · exact .refl s
    · split
      · exact .refl s
      · split
        · exact .refl s
        · split
          · exact .refl s
          · dsimp only
            split
            · exact .refl s
            · split
              next => exact .refl s
              next h => exact .setCatalogue fun _ => by simpa using h
  · exact .refl s

theorem Keeps.carrierClear (carrier : Nat) (s : State) : Keeps s (Machine.carrierClear carrier s).state := by
  unfold Machine.carrierClear
  split
  · exact .refl s
  · split
    · exact .refl s
    · split
      · exact .refl s
      · split
        · exact .refl s
        · exact .setCatalogue (catalogueOk_of_fewer (set_none_fewer _ _))

theorem Keeps.setUnit {s : State} {p : Position} {x : RuRecord}
    (h : runOk ((s.work.units.get p.ring).set p.unit x) = true) : Keeps s (s.setUnit p x) where
  quiet _ := rfl
  straps := rfl
  queues _ := id
  memory := id
  tables k := by
    refine ⟨k.catalogue, fun r => ?_, k.zones, k.first, k.clips, k.disjoint⟩
    simp only [State.setUnit, posSet, PerRing.get_set]
    split
    · exact h
    · exact k.run r
  plans k := ⟨k.distinct, k.depth, k.standing, k.bottom, k.loaded, k.plan0, k.triggers, k.templates⟩

theorem Keeps.recommission (p : Position) (old new : RuRecord) (s : State) :
    Keeps s (Machine.recommission p old new s) := by
  unfold Machine.recommission
  split
  · exact .setBeacon s p _
  · exact .setBeacon s p _
  · exact .refl s

theorem Keeps.unitFed (p : Position) (old new : RuRecord) (before : Bool) (s : State) :
    Keeps s (Machine.unitFed p old new before s).1 := by
  have judged (c : Prop) [Decidable c] (e : Note) : Keeps s (if c then s.post e else s) := .ite (.post s e) (.refl s)
  unfold Machine.unitFed
  dsimp only
  split
  · exact (judged _ _).trans (.feedEvent _ _ _ _)
  · exact judged _ _

theorem Keeps.ruSet (a : RuSetArgs) (s : State) : Keeps s (Machine.ruSet a s).state := by
  unfold Machine.ruSet
  split
  · exact .refl s
  · split
    · exact .refl s
    · dsimp only
      split
      next => exact .refl s
      next h =>
        refine (Keeps.setUnit ?_).trans ((Keeps.recommission _ _ _ _).trans (.unitFed _ _ _ _ _))
        simpa using h

/-! ### Zones (R13) -/

theorem mem_allPositions (p : Position) : p ∈ allPositions := by
  obtain ⟨r, u⟩ := p
  cases r <;> simp [allPositions]

theorem mem_positionSet (ps : List Position) (p : Position) : p ∈ positionSet ps ↔ p ∈ ps := by
  simp [positionSet, mem_allPositions]

/-- No conflict: no other zone holds a member (R13). -/
theorem zoneConflict_eq_none_iff (s : State) (z : ZoneNo) (members : List Position) :
    zoneConflict s z members = none ↔ ∀ y : ZoneNo, y ≠ z → ∀ p ∈ members, p ∉ s.work.zones[y] := by
  simp only [zoneConflict, List.findSome?_eq_none_iff, List.mem_finRange, forall_true_left]
  refine forall_congr' fun y => ?_
  by_cases hy : y = z <;> simp [hy, List.find?_eq_none]

theorem Keeps.changeZone {z : ZoneNo} {members : List Position} {s : State} (h : zoneConflict s z members = none) :
    Keeps s (Machine.changeZone z members s).1 := by
  rw [zoneConflict_eq_none_iff] at h
  have replaced : Keeps s { s with work := { s.work with zones := s.work.zones.set z members } } := by
    refine .of_tables rfl rfl id (fun k => ⟨k.catalogue, k.run, fun x y hxy p => ?_, k.first, k.clips, k.disjoint⟩)
      fun k => ⟨k.distinct, k.depth, k.standing, k.bottom, k.loaded, k.plan0, k.triggers, k.templates⟩
    simp only [vector_get_set]
    split <;> split
    next hx hy => exact absurd (hx.trans hy.symm) hxy
    next hx hy => exact h y hy p
    next hx hy => exact fun hp hm => h x hx p hm hp
    next => exact k.zones x y hxy p
  unfold Machine.changeZone
  dsimp only
  split
  · exact replaced.trans (.setBreakin _ _)
  · exact replaced

theorem Keeps.zoneSet (a : ZoneSetArgs) (s : State) : Keeps s (Machine.zoneSet a s).state := by
  unfold Machine.zoneSet
  split
  · dsimp only
    split
    · exact .refl s
    · split
      next => exact .refl s
      next h => exact .changeZone h
  · exact .refl s

/-! ### Clips (R125 to R128) -/

/-- A clip's record replaced by a sound one that meets no other clip. -/
theorem Keeps.setClip {s : State} {c : ClipNo} {x : Clip} (h : TablesSound s → x.sound ∧
    (x.state ≠ .empty → ∀ d : ClipNo, d ≠ c → s.work.clips[d].state ≠ .empty → x.apart s.work.clips[d])) :
    Keeps s (s.setClip c x) := by
  refine .of_tables rfl rfl id (fun k => ?_)
    fun k => ⟨k.distinct, k.depth, k.standing, k.bottom, k.loaded, k.plan0, k.triggers, k.templates⟩
  obtain ⟨hsound, hapart⟩ := h k
  refine ⟨k.catalogue, k.run, k.zones, k.first, fun d => ⟨?_, (k.clips d).2⟩, fun d e hne hd he => ?_⟩
  · simp only [State.setClip, vector_get_set]
    split
    · exact hsound
    · exact (k.clips d).1
  · simp only [State.setClip, vector_get_set] at hd he ⊢
    by_cases hdc : d = c <;> by_cases hec : e = c <;> simp only [hdc, hec, if_true, if_false] at hd he ⊢
    · exact absurd (hdc.trans hec.symm) hne
    · exact hapart hd e hec he
    · exact (hapart he d hdc hd).symm
    · exact k.disjoint d e hne hd he

theorem Keeps.clipOpen (clip pages : Nat) (s : State) : Keeps s (Machine.clipOpen clip pages s).state := by
  unfold Machine.clipOpen
  split
  · exact .refl s
  · split
    · exact .refl s
    · split
      next => exact .refl s
      next hpages =>
        split
        · exact .refl s
        · dsimp only
          split
          next => exact .refl s
          next first n hfind =>
            refine .setClip fun k => ?_
            obtain ⟨hend, hfree⟩ := freeRuns_free (fun d => (k.clips d).1) (List.mem_of_find?_eq_some hfind)
            have hn : pages ≤ n := by simpa using List.find?_some hfind
            simp only [storePages] at hend hfree
            refine ⟨fun _ => ⟨by simp only; omega, by simp only; omega, Nat.zero_le _, nofun⟩, fun _ d _ hd => ?_⟩
            rcases hfree d hd with hle | hle
            · exact .inl (by simp only; omega)
            · exact .inr hle

theorem Keeps.clipPage (clip index : Nat) (payload : List Byte) (s : State) :
    Keeps s (Machine.clipPage clip index payload s).state := by
  have pages (u : State) (page : Nat) :
      Keeps u { u with work := { u.work with pages := pageWrite u.work.pages page payload } } :=
    .of_tables rfl rfl (fun k => ⟨pageWrite_wf _ _ _ k.1, k.2⟩)
      (fun k => ⟨k.catalogue, k.run, k.zones, k.first, k.clips, k.disjoint⟩)
      fun k => ⟨k.distinct, k.depth, k.standing, k.bottom, k.loaded, k.plan0, k.triggers, k.templates⟩
  unfold Machine.clipPage
  split
  · exact .refl s
  next c _ =>
    split
    · exact .refl s
    · dsimp only
      split
      next => exact .refl s
      next => split <;> exact .refl s
      next hstate =>
        split
        next hnext =>
          refine (Keeps.setClip fun k => ⟨fun _ => ?_, fun _ d hd hs => ?_⟩).trans (pages _ _)
          · obtain ⟨hp, hf, -, -⟩ := (k.clips c).1 (by rw [hstate]; nofun)
            exact ⟨hp, hf, hnext.2, fun hr => by rw [hstate] at hr; cases hr⟩
          · exact k.disjoint c d hd.symm (by rw [hstate]; nofun) hs
        next => split <;> exact .refl s

theorem Keeps.clipDelete (clip : Nat) (s : State) : Keeps s (Machine.clipDelete clip s).state := by
  unfold Machine.clipDelete
  split
  · exact .refl s
  · split
    · exact .refl s
    · split
      · exact .refl s
      · split
        · exact .refl s
        · exact .setClip fun _ => ⟨Clip.vacant_sound, fun h => absurd rfl h⟩

/-! ### Plans and triggers (R144, R145, R147) -/

/-- A plan that does not stand, replaced by a record that keeps R144, plan 0 by a present one. -/
theorem Keeps.setPlan {s : State} {p : PlanNo} {x : Option PlanRecord} (hactive : s.plans.active ≠ p)
    (hstack : p ∉ s.plans.stack) (h0 : p = 0 → x.isSome = true) (hx : ∀ y, x = some y → y.templates.length ≤ 4) :
    Keeps s (s.setPlan p x) := by
  refine .of_tables rfl rfl id (fun k => ⟨k.catalogue, k.run, k.zones, k.first, k.clips, k.disjoint⟩) fun k => ?_
  refine ⟨k.distinct, k.depth, k.standing, k.bottom, fun q hq => ?_, ⟨?_, k.plan0.2⟩, k.triggers, fun q y hy => ?_⟩
  · have hne : q ≠ p := by
      rintro rfl
      rcases List.mem_cons.1 hq with he | hm
      · exact hactive he.symm
      · exact hstack hm
    simp only [State.setPlan, vector_get_set, hne, if_false]
    exact k.loaded q hq
  · simp only [State.setPlan, vector_get_set]
    split
    next he => exact h0 he.symm
    next => exact k.plan0.1
  · simp only [State.setPlan, vector_get_set] at hy
    rcases hy with hy | hy
    · split at hy
      · exact hx y hy
      · exact k.templates q y (.inl hy)
    · exact k.templates q y (.inr hy)

/-- No entry of a list offends. -/
theorem firstOffence_eq_none_iff {α : Type} (bad : Nat → α → Bool) (i : Nat) (xs : List α) :
    firstOffence bad i xs = none ↔ ∀ j x, xs[j]? = some x → bad (i + j) x = false := by
  induction xs generalizing i with
  | nil => simp [firstOffence]
  | cons x xs ih =>
    have shift (j : Nat) : i + (j + 1) = i + 1 + j := by omega
    simp only [firstOffence]
    split
    next h =>
      simp only [reduceCtorEq, false_iff]
      exact fun hall => by simpa [h] using hall 0 x rfl
    next h =>
      rw [ih]
      refine ⟨fun hall j y hy => ?_, fun hall j y hy => shift j ▸ hall (j + 1) y hy⟩
      cases j with
      | zero =>
        obtain rfl := Option.some.inj hy
        simpa using h
      | succ j => exact shift j ▸ hall j y hy

theorem offenceOf_eq_none_iff (a : PlanArgs) (entry : List (Nat × Int) → Nat → Nat × Int → Bool)
    (template : Nat → BreakInArgs → Bool) (rest : Option Nat) : offenceOf a entry template rest = none ↔
      firstOffence (entry a.listN) 0 a.listN = none ∧ firstOffence (entry a.listS) 0 a.listS = none ∧
      firstOffence template 0 a.templates = none ∧ rest = none := by
  unfold offenceOf
  split <;> simp_all

/-- A record that passes check 6 has at most four templates (R144, R145). -/
theorem recordOf_templates {a : PlanArgs} (h : offence6 a = none) : (recordOf a).templates.length ≤ 4 := by
  obtain ⟨-, -, ht, -⟩ := (offenceOf_eq_none_iff a _ _ _).1 h
  refine (List.length_filterMap_le ..).trans (Nat.le_of_not_lt fun hlt => ?_)
  have := (firstOffence_eq_none_iff _ _ _).1 ht 4 _ (List.getElem?_eq_getElem hlt)
  simp at this

theorem Keeps.planLoad (plan : Nat) (record : Option PlanArgs) (s : State) :
    Keeps s (Machine.planLoad plan record s).state := by
  unfold Machine.planLoad
  split
  · exact .refl s
  · split
    · exact .refl s
    · split
      next => exact .refl s
      next hstands =>
        obtain ⟨hactive, hstack⟩ := not_or.1 hstands
        split
        · split
          next => exact .refl s
          next h0 => exact .setPlan hactive hstack (fun he => absurd he h0) nofun
        · split
          next => exact .refl s
          next => exact .refl s
          next => exact .refl s
          next h6 _ =>
            exact .setPlan hactive hstack (fun _ => rfl) fun y hy => Option.some.inj hy ▸ recordOf_templates h6

theorem Keeps.triggerSet (a : TriggerSetArgs) (s : State) : Keeps s (Machine.triggerSet a s).state := by
  unfold Machine.triggerSet
  split
  · split
    · exact .refl s
    · split
      · split
        next => exact .refl s
        next hp =>
          refine .of_tables rfl rfl id (fun k => ⟨k.catalogue, k.run, k.zones, k.first, k.clips, k.disjoint⟩) fun k =>
            ⟨k.distinct, k.depth, k.standing, k.bottom, k.loaded, k.plan0, fun t => ⟨?_, (k.triggers t).2⟩, k.templates⟩
          simp only [written_state, State.setTrigger, vector_get_set]
          split
          · exact hp
          · exact (k.triggers t).1
      · exact .refl s
  · exact .refl s

/-! ### Ports (R170, R174, R176) -/

theorem Keeps.permitSet (port : MgmtPort) (target : Nat) (groups : List Nat) (s : State) :
    Keeps s (Machine.permitSet port target groups s).state := by
  unfold Machine.permitSet
  split
  · split
    · exact .refl s
    · split
      · exact .refl s
      · exact .of_same rfl rfl rfl rfl rfl
  · exact .refl s

theorem Keeps.watchSet (window : Int) (s : State) : Keeps s (Machine.watchSet window s).state := by
  unfold Machine.watchSet
  split
  · exact .refl s
  · exact .of_same rfl rfl rfl rfl rfl

theorem Keeps.readEvents (port : MgmtPort) (s : State) : Keeps s (Machine.readEvents port s).state where
  quiet q := by
    simp only [Machine.readEvents, done_state, State.setMgmt, PerMgmt.get_set]
    split
    next h => rw [h]; rfl
    next => rfl
  straps := rfl
  queues q h := by
    simp only [Machine.readEvents, done_state, State.setMgmt, PerMgmt.get_set]
    split
    next hq => rw [hq] at h; simp; omega
    next => exact h
  memory := id
  tables := .congr rfl rfl
  plans := .congr rfl rfl rfl

/-! ### Requests -/

/-- A result that answers at once leaves the state as it was. -/
theorem Keeps.of_state_eq {s : State} {x : Result} (h : x.state = s) : Keeps s x.state := h ▸ .refl s

theorem carrierGet_state (c : Nat) (s : State) : (carrierGet c s).state = s := by
  unfold carrierGet
  split
  · rfl
  · split
    · rfl
    · split <;> rfl

theorem ruGet_state (p : Nat) (s : State) : (ruGet p s).state = s := by
  unfold ruGet
  split
  · rfl
  · split
    · split <;> rfl
    · rfl

theorem zoneGet_state (z : Nat) (s : State) : (zoneGet z s).state = s := by
  unfold zoneGet
  split
  · rfl
  · split <;> rfl

theorem ruAllocation_state (p : Nat) (s : State) : (ruAllocation p s).state = s := by
  unfold ruAllocation
  split <;> rfl

theorem portStatus_state (p : Nat) (s : State) : (portStatus p s).state = s := by
  unfold portStatus
  split
  · rfl
  · split <;> rfl

theorem ringStatus_state (r : Nat) (s : State) : (ringStatus r s).state = s := by
  unfold ringStatus
  split
  · rfl
  · split <;> rfl

theorem rescueStatus_state (c : Nat) (s : State) : (rescueStatus c s).state = s := by
  unfold rescueStatus
  split
  · rfl
  · split <;> rfl

theorem clipList_state (c : Nat) (s : State) : (clipList c s).state = s := by
  unfold clipList
  split
  · rfl
  · split <;> rfl

theorem planRead_state (x : Nat) (s : State) : (planRead x s).state = s := by
  unfold planRead
  split
  · rfl
  · split
    · rfl
    · split <;> rfl

/-- A request's kind-specific part keeps the ports' replies and the invariants. -/
theorem Keeps.carry (port : MgmtPort) (authority : Authority) (r : Request) (s : State) :
    Keeps s (Machine.carry port authority r s).state := by
  cases r with
  | hello | status | keepalive | restart | refStatus | breakinList | stackRead => exact .refl s
  | readEvents => exact .readEvents port s
  | permitSet target groups => exact .permitSet port target groups s
  | watchSet w => exact .watchSet w s
  | carrierGet c => exact .of_state_eq (carrierGet_state c s)
  | ruGet p => exact .of_state_eq (ruGet_state p s)
  | zoneGet z => exact .of_state_eq (zoneGet_state z s)
  | ruAllocation p => exact .of_state_eq (ruAllocation_state p s)
  | carrierSet a => exact .carrierSet a s
  | carrierClear c => exact .carrierClear c s
  | ruSet a => exact .ruSet a s
  | zoneSet a => exact .zoneSet a s
  | portStatus p => exact .of_state_eq (portStatus_state p s)
  | ringStatus r => exact .of_state_eq (ringStatus_state r s)
  | portRenegotiate p => exact .portRenegotiate p s
  | portConfig a => exact .portConfig a s
  | portEnable p => exact .portEnable p s
  | portDisable p => exact .portDisable p s
  | spanTestStart a => exact .spanTestStart a s
  | spanTestStop p => exact .spanTestStop p s
  | ringRevert r => exact .ringRevert r s
  | refConfig a => exact .refConfig a s
  | refForceHoldover => exact .refForceHoldover s
  | refResume => exact .refResume s
  | rescueStatus c => exact .of_state_eq (rescueStatus_state c s)
  | consoleKey c => exact .portalTalk port c s _ fun ch => .consoleKeyed ch s
  | consoleUnkey c => exact .portalTalk port c s _ fun ch => .consoleUnkeyed ch s
  | voterConfig a => exact .voterConfig a s
  | breakinPost a => exact .breakinPost port a s
  | breakinWithdraw n => exact .breakinWithdraw authority n s
  | clipList c => exact .of_state_eq (clipList_state c s)
  | clipOpen c n => exact .clipOpen c n s
  | clipPage c i payload => exact .clipPage c i payload s
  | clipDelete c => exact .clipDelete c s
  | planRead x => exact .of_state_eq (planRead_state x s)
  | invoke t => exact .invoke port authority t s
  | standDown => exact .standDown port authority s
  | standDownAll => exact .standDownAll port s
  | planLoad p x => exact .planLoad p x s
  | triggerSet a => exact .triggerSet a s
  | contactSet a => exact .contactSet a s

/-! ### Port records -/

/-- A port's record replaced by one that keeps its authority and the bounds. -/
theorem Preserves.setMgmt {s : State} {port : MgmtPort} {x : MgmtRec}
    (authority : x.authority = (s.mgmt.get port).authority)
    (bounds : (s.mgmt.get port).events.length ≤ 48 → (s.mgmt.get port).outstanding ≤ 2 →
      x.events.length ≤ 48 ∧ x.outstanding ≤ 2) : Preserves s (s.setMgmt port x) where
  ports := by
    rintro ⟨hb, hcontrol, hconsole⟩
    have kept (q : MgmtPort) : ((s.setMgmt port x).mgmt.get q).authority = (s.mgmt.get q).authority := by
      simp only [State.setMgmt, PerMgmt.get_set]
      split
      next h => rw [authority, h]
      next => rfl
    refine ⟨fun q => ?_, (kept .control).trans hcontrol, (kept .console).trans hconsole⟩
    simp only [State.setMgmt, PerMgmt.get_set]
    split
    · exact bounds (hb port).1 (hb port).2
    · exact hb q
  memory := id
  tables := .congr rfl rfl
  plans := .congr rfl rfl rfl

/-- A port that has room takes one reply more (R168). -/
theorem Preserves.conclude (port : MgmtPort) (tag kind : Byte) {s : State} {x : Result} (h : Keeps s x.state)
    (room : (s.mgmt.get port).outstanding < 2) : Preserves s (Machine.conclude port tag kind x).1 := by
  have hroom : (x.state.mgmt.get port).outstanding < 2 := outstanding_of_quiet (h.quiet port) ▸ room
  have begun : Keeps x.state { x.state with inFlight := x.state.inFlight ++ x.writes.toList } :=
    .of_same rfl rfl rfl rfl rfl
  refine (h.trans begun).preserves.trans (.setMgmt ?_ fun he _ => ?_)
  · cases x.writes <;> rfl
  · cases x.writes with
    | none => exact ⟨he, by simp only [MgmtRec.reply, MgmtRec.outstanding, List.length_append] at hroom ⊢; simp; omega⟩
    | some key => exact ⟨he, by simp only [MgmtRec.reply, MgmtRec.outstanding, List.length_append] at hroom ⊢; simp; omega⟩

/-! ### Store writes (R15, R127, R171) -/

/-- The stored form replaced by one that keeps what the invariants ask of it. -/
theorem Keeps.setStored {s : State} {x : Store}
    (pages : memoryCanonical s → memWf x.pages = true)
    (first : TablesSound s → ∀ r, (x.units.get r)[(0 : UnitNo)].commissioned = true)
    (clips : TablesSound s → ∀ c : ClipNo, x.clips[c].sound)
    (plan0 : PlansSound s → (x.plans[(0 : PlanNo)]).isSome = true)
    (triggers : PlansSound s → ∀ t : TriggerNo, x.triggers[t].plan ≠ 0)
    (templates : PlansSound s → ∀ (p : PlanNo) y, x.plans[p] = some y → y.templates.length ≤ 4) :
    Keeps s { s with stored := x } :=
  .of_tables rfl rfl (fun k => ⟨k.1, pages k⟩)
    (fun k => ⟨k.catalogue, k.run, k.zones, first k, fun c => ⟨(k.clips c).1, clips k c⟩, k.disjoint⟩)
    fun k => ⟨k.distinct, k.depth, k.standing, k.bottom, k.loaded, ⟨k.plan0.1, plan0 k⟩,
      fun t => ⟨(k.triggers t).1, triggers k t⟩,
      fun p y hy => hy.elim (fun h => k.templates p y (.inl h)) (templates k p y)⟩

/-- A clip's record as its write completes (R127). -/
theorem Keeps.finishClip (key : StoreKey) (s : State) : Keeps s { s with work := Machine.finishClip key s.work } := by
  cases key with
  | clip c =>
    refine .setClip fun k => ⟨Clip.finished_sound (k.clips c).1, fun hne d hd hs => ?_⟩
    rw [Ne, Clip.finished_empty_iff] at hne
    simpa only [Clip.apart, Clip.finished_first, Clip.finished_pages] using k.disjoint c d hd.symm hne hs
  | carrier | unit | zone | ring | reference | voter | plan | trigger | contact | denyMap | watch => exact .refl s

/-- A record of the working form taken into the stored form (R15). -/
theorem Keeps.commit (key : StoreKey) (s : State) : Keeps s { s with stored := s.stored.commit s.work key } := by
  have pages (k : memoryCanonical s) : memWf s.stored.pages = true := k.2
  have clips (k : TablesSound s) (c : ClipNo) : s.stored.clips[c].sound := (k.clips c).2
  have plan0 (k : PlansSound s) : (s.stored.plans[(0 : PlanNo)]).isSome = true := k.plan0.2
  have triggers (k : PlansSound s) (t : TriggerNo) : s.stored.triggers[t].plan ≠ 0 := (k.triggers t).2
  have templates (k : PlansSound s) (p : PlanNo) (y) (h : s.stored.plans[p] = some y) : y.templates.length ≤ 4 :=
    k.templates p y (.inr h)
  cases key with
  | unit p =>
    refine .setStored pages (fun k r => ?_) clips plan0 triggers templates
    have worked (r : Ring) : (s.work.units.get r)[(0 : UnitNo)].commissioned = true := ((runOk_iff _).1 (k.run r)).1
    simp only [Store.commit, posSet, PerRing.get_set]
    split
    next hr =>
      subst hr
      rw [vector_get_set]
      split
      next h0 => exact (congrArg (fun u => (s.work.units.get p.ring)[u].commissioned) h0).symm.trans (worked _)
      next => exact k.first _
    next => exact k.first r
  | clip c =>
    refine .setStored (fun k => ?_) TablesSound.first (fun k d => ?_) plan0 triggers templates
    · simp only [Store.commit]
      split
      · exact pageWrite_wf _ _ _ k.2
      · exact k.2
    · simp only [Store.commit, vector_get_set]
      split
      · exact (k.clips c).1
      · exact clips k d
  | plan p =>
    refine .setStored pages TablesSound.first clips (fun k => ?_) triggers (fun k q y hy => ?_)
    · simp only [Store.commit, vector_get_set]
      split
      next h0 => exact h0 ▸ k.plan0.1
      next => exact plan0 k
    · simp only [Store.commit, vector_get_set] at hy
      split at hy
      · exact k.templates p y (.inl hy)
      · exact templates k q y hy
  | trigger t =>
    refine .setStored pages TablesSound.first clips plan0 (fun k u => ?_) templates
    simp only [Store.commit, vector_get_set]
    split
    · exact (k.triggers t).1
    · exact triggers k u
  | carrier | zone | ring | reference | voter | contact | denyMap | watch =>
    exact .setStored pages TablesSound.first clips plan0 triggers templates

theorem Keeps.completeWrite (key : StoreKey) (s : State) : Keeps s (Machine.completeWrite key s) :=
  have landed (u : State) : Keeps u { u with inFlight := u.inFlight.erase key } := .of_same rfl rfl rfl rfl rfl
  (Keeps.finishClip key s).trans <| (Keeps.commit key _).trans (landed _)

/-- A reply that was HELD becomes READY: as many are outstanding (R171). -/
theorem release_outstanding (m : MgmtRec) (key : StoreKey) : (m.release key).outstanding = m.outstanding := by
  have := List.length_eq_length_filter_add (l := m.held) fun h : StoreKey × Reply => decide (h.1 = key)
  simp only [MgmtRec.release, MgmtRec.outstanding, List.length_append, List.length_map, ne_eq, decide_not]
  omega

theorem Preserves.writeCompleted (key : StoreKey) (s : State) : Preserves s (Machine.writeCompleted key s) := by
  unfold Machine.writeCompleted
  split
  · have released (port : MgmtPort) (u : State) : Preserves u (u.setMgmt port ((u.mgmt.get port).release key)) :=
      .setMgmt rfl fun he ho => ⟨he, (release_outstanding _ key).trans_le ho⟩
    exact (Keeps.completeWrite key s).preserves.trans <| (released .control _).trans (released .console _)
  · exact .refl s

/-! ### Resets (R16 to R19, R177) -/

theorem Keeps.finished (written : List StoreKey) (s : State) : Keeps s (s.finished written) := by
  unfold State.finished
  induction written.filter (· ∈ s.inFlight) generalizing s with
  | nil => exact .refl s
  | cons key keys ih => exact (Keeps.completeWrite key s).trans (ih _)

/-- The tables that a reset loads keep every rule, and plan 0 stands alone (R16 to R18, R127, R162). -/
theorem Keeps.reload (written : List StoreKey) (s : State) : Keeps s (Machine.reload written s) := by
  refine (Keeps.finished written s).trans ?_
  generalize hu : s.finished written = u
  have he : Machine.reload written s =
      { u with work := u.stored.repaired, stored := u.stored.repaired, inFlight := [], plans := .start } := by
    rw [← hu]; rfl
  rw [he]
  refine .of_tables rfl rfl (fun k => ⟨k.2, k.2⟩) (fun k => ?_) fun k => ?_
  · have run (r : Ring) : runOk (u.stored.repaired.units.get r) = true := by
      cases r
      · exact repairRun_ok (k.first .n)
      · exact repairRun_ok (k.first .s)
    have clips := repairClips_sound fun c => (k.clips c).2
    exact ⟨repairCatalogue_restores _, run, repairZones_apart _, fun r => ((runOk_iff _).1 (run r)).1,
      fun c => ⟨clips c, clips c⟩, repairClips_apart _⟩
  · refine ⟨by simp [PlanState.start], by simp [PlanState.start], fun _ => rfl, by simp [PlanState.start], ?_,
      ⟨k.plan0.2, k.plan0.2⟩, fun t => ⟨(k.triggers t).2, (k.triggers t).2⟩,
      fun p y hy => k.templates p y (.inr (hy.elim id id))⟩
    intro q hq
    obtain rfl := List.mem_singleton.1 hq
    exact k.plan0.2

theorem Preserves.blocksReset (kind : ResetKind) (straps : Nat) (s : State) :
    Preserves s (Machine.blocksReset kind straps s) where
  ports _ := by
    refine ⟨fun port => ?_, rfl, rfl⟩
    cases port <;> exact ⟨(by decide : 1 ≤ 48), (by decide : 0 ≤ 2)⟩
  memory := id
  tables := .congr rfl rfl
  plans := .congr rfl rfl rfl

theorem Preserves.endReset (kind : ResetKind) (straps : Nat) (written : List StoreKey) (s : State) :
    Preserves s (settled (Machine.endReset kind straps written s)) :=
  (Keeps.reload written s).preserves.trans <| (Preserves.blocksReset kind straps _).trans
    (Keeps.settled (Machine.endReset kind straps written s)).preserves

/-! ### Every step -/

theorem Preserves.takeRequestOn (port : MgmtPort) (tag kind : Byte) (d : Decoded) {s : State}
    (room : (s.mgmt.get port).outstanding < 2) : Preserves s (settled (Machine.takeRequestOn port tag kind d s)) := by
  have concluded {x : Result} (h : Keeps s x.state) : Preserves s (settled (Machine.conclude port tag kind x)) :=
    (Preserves.conclude port tag kind h room).trans (Keeps.settled _).preserves
  have begun : Keeps s (beginReset .restart { s with restarts := s.restarts + 1 }) := .of_same rfl rfl rfl rfl rfl
  unfold Machine.takeRequestOn
  split
  · exact concluded (.refl s)
  · exact concluded (.refl s)
  · split
    · exact concluded (.refl s)
    · split
      · exact begun.preserves.trans (.endReset _ _ _ _)
      · exact concluded (.carry _ _ _ s)

theorem Preserves.receiveFrame (port : MgmtPort) (tag kind : Byte) (d : Decoded) (s : State) :
    Preserves s (Machine.receiveFrame port tag kind d s) := by
  unfold Machine.receiveFrame
  split
  next =>
    unfold Machine.frameTaken
    dsimp only
    split
    next room => exact (Keeps.watchFrame port s).preserves.trans (.takeRequestOn port tag kind d room)
    next => exact (Keeps.watchFrame port s).preserves.trans (.setMgmt rfl fun he ho => ⟨he, ho⟩)
  next => exact .refl s

/-- The command of a request is the receipt of its frame. -/
theorem exec_request {i : Instr} {port : MgmtPort} {tag : Byte} {r : Request} (h : i.request? = some (port, tag, r))
    (s : State) : exec i s = .next (receive port tag r s) := by
  cases i <;> cases h <;> rfl

theorem Preserves.request {i : Instr} {port : MgmtPort} {tag : Byte} {r : Request} (h : i.request? = some (port, tag, r))
    {s t : State} (ht : exec i s = .next t) : Preserves s t := by
  rw [exec_request h] at ht
  cases ht
  exact .receiveFrame _ _ _ _ s

theorem Preserves.inService {f : State → State} (h : ∀ s, Preserves s (f s)) (s : State) :
    Preserves s (Machine.inService f s) := by
  unfold Machine.inService
  split
  · exact .refl s
  · exact h s

theorem Preserves.settledOf {f : State → Handed} (h : ∀ s, Keeps s (f s).1) (s : State) : Preserves s (settled (f s)) :=
  ((h s).trans (.settled _)).preserves

theorem Preserves.faulted (port : MgmtPort) (s : State) : Preserves s (s.setMgmt port (s.mgmt.get port).faulted) := by
  have same : (s.mgmt.get port).faulted = { s.mgmt.get port with
      synced := (s.mgmt.get port).faulted.synced, syncCount := (s.mgmt.get port).faulted.syncCount,
      framing := (s.mgmt.get port).faulted.framing } := by
    unfold MgmtRec.faulted
    split <;> rfl
  rw [same]
  exact .setMgmt rfl fun he ho => ⟨he, ho⟩

theorem Preserves.closeExchange (port : MgmtPort) (midFrame : Bool) (s : State) :
    Preserves s (Machine.closeExchange port midFrame s) := by
  have closed (u : State) : Preserves u (u.setMgmt port { u.mgmt.get port with exchange := none, syncCount := 0 }) :=
    .setMgmt rfl fun he ho => ⟨he, ho⟩
  cases midFrame with
  | false => exact closed s
  | true =>
    have := (Preserves.faulted port s).trans (closed _)
    cases port <;> exact this

theorem Preserves.replySent (port : MgmtPort) (s : State) : Preserves s (Machine.replySent port s) := by
  unfold Machine.replySent
  dsimp only
  split
  · refine .setMgmt rfl fun he ho => ⟨he, ?_⟩
    simp only [MgmtRec.outstanding, List.length_drop] at ho ⊢
    omega
  · exact .refl s

/-- Every command that is no request keeps the invariants. -/
theorem Preserves.event {c : Instr} (h : c.request? = none) (s : State) : ∃ t, exec c s = .next t ∧ Preserves s t := by
  have caused (kind : ResetKind) : Preserves s (beginReset kind s) :=
    Keeps.preserves (t := beginReset kind s) (.of_same rfl rfl rfl rfl rfl)
  have inserted {f : State → State} (h : ∀ u, Keeps u (f u)) : Preserves s (Machine.inService f s) :=
    .inService (fun u => (h u).preserves) s
  have handed {f : State → Handed} (h : ∀ u, Keeps u (f u).1) :
      Preserves s (Machine.inService (fun u => settled (f u)) s) := .inService (.settledOf h) s
  have port (q : MgmtPort) (u : State) (x : MgmtRec) (ha : x.authority = (u.mgmt.get q).authority)
      (he : x.events = (u.mgmt.get q).events) (ho : x.outstanding = (u.mgmt.get q).outstanding) :
      Preserves u (u.setMgmt q x) := .setMgmt ha fun h1 h2 => ⟨he ▸ h1, ho ▸ h2⟩
  cases c with
  | powerOn => exact ⟨_, rfl, caused _⟩
  | resetLine => exact ⟨_, rfl, caused _⟩
  | supplyDip => exact ⟨_, rfl, caused _⟩
  | resetEnd straps written =>
    refine ⟨_, rfl, ?_⟩
    split
    · exact .endReset _ _ _ s
    · exact .refl s
  | exchangeOpen q => exact ⟨_, rfl, port q s _ rfl rfl rfl⟩
  | portSync q =>
    have synced (u : State) : Preserves u (syncPort q u) := port q u _ rfl rfl rfl
    exact ⟨_, rfl, .inService synced s⟩
  | exchangeEnd q midFrame => exact ⟨_, rfl, .closeExchange q midFrame s⟩
  | framingFault q cause => exact ⟨_, rfl, .inService (.faulted q) s⟩
  | requestFrameReceived q kind tag payload => exact ⟨_, rfl, .receiveFrame q tag kind _ s⟩
  | replyClockedOut q => exact ⟨_, rfl, .inService (.replySent q) s⟩
  | storeWriteComplete key => exact ⟨_, rfl, .inService (.writeCompleted key) s⟩
  | pageEnd player => exact ⟨_, rfl, handed (.pageEnded player)⟩
  | breakTimerExpiry p => exact ⟨_, rfl, inserted (.breakEnded p)⟩
  | advertisementReceived p grades ack identity => exact ⟨_, rfl, handed (.advertised p grades ack identity)⟩
  | idlePatternReceived p pattern => exact ⟨_, rfl, handed (.patternSeen p pattern)⟩
  | advertiseTimerExpiry p => exact ⟨_, rfl, handed (.advertiseEnded p)⟩
  | lossOfSignal p => exact ⟨_, rfl, handed (.signalLost p)⟩
  | signalRestored p => exact ⟨_, rfl, inserted fun u => .setSpan u p _⟩
  | beaconReceived p b => exact ⟨_, rfl, handed (.beaconArrived p b)⟩
  | silenceTimerExpiry q => exact ⟨_, rfl, handed (.silenceEnded q)⟩
  | waitToRestoreExpiry r => exact ⟨_, rfl, handed (.restoreEvent r _)⟩
  | uplinkBlockArrival p block => exact ⟨_, rfl, inserted (.blockArrived p block)⟩
  | blockTick => exact ⟨_, rfl, handed .blockTicked⟩
  | slipBurstClear p => exact ⟨_, rfl, inserted fun u => .setSpan u p _⟩
  | hangExpiry ch => exact ⟨_, rfl, handed (.hangEnd ch)⟩
  | keyLimitExpiry ch => exact ⟨_, rfl, handed (.keyLimit ch)⟩
  | baseKeyChange ch asserted =>
    have lane : Keeps s { s with baseLane := s.baseLane.set ch asserted } := .of_same rfl rfl rfl rfl rfl
    exact ⟨_, rfl, lane.preserves.trans (.inService (.settledOf (.baseKeyed ch asserted)) _)⟩
  | testLock p => exact ⟨_, rfl, inserted (.testLocked p)⟩
  | testLockTimeout p => exact ⟨_, rfl, inserted (.stopTest p _ _)⟩
  | spanTestTimerExpiry p => exact ⟨_, rfl, inserted (.stopTest p _ _)⟩
  | testBitError p => exact ⟨_, rfl, inserted (.testError p)⟩
  | sourceSignalChange src valid => exact ⟨_, rfl, (Keeps.sourceSignal src valid s).preserves⟩
  | sourcePresent src => exact ⟨_, rfl, .settledOf (.sourceAppears src) s⟩
  | sourceAbsent src => exact ⟨_, rfl, .settledOf (.sourceVanishes src) s⟩
  | warmupEnd => exact ⟨_, rfl, .settledOf .warmupEnded s⟩
  | measurement offset => exact ⟨_, rfl, .settledOf (.measured offset) s⟩
  | switchTimerExpiry => exact ⟨_, rfl, .settledOf .switchEnded s⟩
  | holdoverExpiry => exact ⟨_, rfl, .settledOf .holdoverEnded s⟩
  | contactLevelChange c level =>
    refine ⟨_, rfl, ?_⟩
    split
    · exact (Keeps.setContact s c _).preserves
    · exact (Keeps.rawLevel c level s).preserves
  | debounceTimerExpiry c => exact ⟨_, rfl, handed (.debounced c)⟩
  | watchExpiry => exact ⟨_, rfl, handed .watchExpired⟩
  | _ => cases h

theorem Preserves.exec {c : Instr} {s t : State} (h : Machine.exec c s = .next t) : Preserves s t := by
  cases hr : c.request? with
  | some x => exact .request hr h
  | none =>
    obtain ⟨u, hu, k⟩ := Preserves.event hr s
    cases hu.symm.trans h
    exact k

theorem Preserves.step {s t : State} (h : Machine.step s = .next t) : Preserves s t := by
  unfold Machine.step at h
  split at h
  next =>
    cases h
    exact Keeps.preserves (t := { s with now := s.now + 1 }) (.of_same rfl rfl rfl rfl rfl)
  next c rest _ =>
    have taken : Keeps s { s with pending := rest } := .of_same rfl rfl rfl rfl rfl
    exact taken.preserves.trans (.exec h)

end Sys2Proof.Machine
end

section
open Sys2Proof Sys2Proof.Machine

/-- Settles O58: each operation of a block keeps the four invariants (`Keeps`), a reply keeps its port's bounds, and a reset
loads repaired tables with plan 0 alone. -/
theorem stepsKeepTablesAndPlans : Obligations.StepsKeepTablesAndPlans := by
  intro s t h
  obtain ⟨ports, memory, tables, plans⟩ := Preserves.step h
  exact ⟨ports, memory, tables, plans⟩

end

section
/-! SUPPORT. A request that its port serves, from its row to its result: what the frame's arrival at the control watch
leaves alone, and the reply of a refusal or an answer. -/

namespace Sys2Proof.Machine

open Sys2Proof

/-! ### The frame at the control watch (R175) -/

section
variable (port : MgmtPort) (s : State)

@[simp] theorem watchFrame_now : (watchFrame port s).now = s.now := watchFrame_sameBut port s .clock (by simp)
@[simp] theorem watchFrame_resetAt : (watchFrame port s).resetAt = s.resetAt := (watchFrame_sameBut port s .resets (by simp)).1
@[simp] theorem watchFrame_causes : (watchFrame port s).causes = s.causes :=
  (watchFrame_sameBut port s .resets (by simp)).2.2.1
@[simp] theorem watchFrame_restarts : (watchFrame port s).restarts = s.restarts :=
  (watchFrame_sameBut port s .resets (by simp)).2.2.2
@[simp] theorem watchFrame_baseLane : (watchFrame port s).baseLane = s.baseLane :=
  watchFrame_sameBut port s .baseLane (by simp)
@[simp] theorem watchFrame_work : (watchFrame port s).work = s.work := watchFrame_sameBut port s .work (by simp)
@[simp] theorem watchFrame_stored : (watchFrame port s).stored = s.stored := watchFrame_sameBut port s .stored (by simp)
@[simp] theorem watchFrame_inFlight : (watchFrame port s).inFlight = s.inFlight :=
  watchFrame_sameBut port s .inFlight (by simp)
@[simp] theorem watchFrame_spans : (watchFrame port s).spans = s.spans := watchFrame_sameBut port s .spans (by simp)
@[simp] theorem watchFrame_beacons : (watchFrame port s).beacons = s.beacons := watchFrame_sameBut port s .beacons (by simp)
@[simp] theorem watchFrame_rings : (watchFrame port s).rings = s.rings := watchFrame_sameBut port s .rings (by simp)
@[simp] theorem watchFrame_reference : (watchFrame port s).reference = s.reference :=
  watchFrame_sameBut port s .reference (by simp)
@[simp] theorem watchFrame_carriage : (watchFrame port s).carriage = s.carriage :=
  watchFrame_sameBut port s .carriage (by simp)
@[simp] theorem watchFrame_alloc : (watchFrame port s).alloc = s.alloc := watchFrame_sameBut port s .alloc (by simp)
@[simp] theorem watchFrame_voters : (watchFrame port s).voters = s.voters := watchFrame_sameBut port s .voters (by simp)
@[simp] theorem watchFrame_breakin : (watchFrame port s).breakin = s.breakin := watchFrame_sameBut port s .breakin (by simp)
@[simp] theorem watchFrame_plans : (watchFrame port s).plans = s.plans := watchFrame_sameBut port s .plans (by simp)
@[simp] theorem watchFrame_contacts : (watchFrame port s).contacts = s.contacts :=
  watchFrame_sameBut port s .contacts (by simp)
@[simp] theorem watchFrame_pending : (watchFrame port s).pending = s.pending := watchFrame_sameBut port s .pending (by simp)

@[simp] theorem watchFrame_writing (key : StoreKey) : (watchFrame port s).writing key = s.writing key := by
  simp [State.writing]
@[simp] theorem watchFrame_unit (p : Position) : (watchFrame port s).unit p = s.unit p := by simp [State.unit]
@[simp] theorem watchFrame_unitState (p : Position) : (watchFrame port s).unitState p = s.unitState p := by
  simp [State.unitState]
@[simp] theorem watchFrame_planNames (c : CarrierNo) : (watchFrame port s).planNames c = s.planNames c := by
  simp [State.planNames]
@[simp] theorem watchFrame_catalogued (es : List ListEntry) : (watchFrame port s).catalogued es = s.catalogued es := by
  simp [State.catalogued]

end

theorem writing_iff (s : State) (key : StoreKey) : s.writing key = true ↔ key ∈ s.inFlight := by
  simp [State.writing]

theorem writing_eq_false {s : State} {key : StoreKey} (h : key ∉ s.inFlight) : s.writing key = false :=
  Bool.eq_false_iff.2 fun hk => h ((writing_iff s key).1 hk)

/-! ### Served requests (R168, R169) -/

/-- The row of a request other than RESTART that its port serves. -/
theorem exec_serves {i : Instr} {port : MgmtPort} {tag : Byte} {r : Request} (hi : i.request? = some (port, tag, r))
    {s : State} (h : Serves s port r) (hd : Request.decoded r = .request r) (hr : r ≠ .restart) :
    exec i s = .next (settled (conclude port tag (BitVec.ofNat 8 (Request.kind r))
      (carry port (s.mgmt.get port).authority r (watchFrame port s)))) := by
  rw [exec_request hi, receive_serves h hd hr]

/-- A served request whose result hands nothing on and writes nothing: its reply is READY. -/
theorem exec_ready {i : Instr} {port : MgmtPort} {tag : Byte} {r : Request} (hi : i.request? = some (port, tag, r))
    {s : State} (h : Serves s port r) (hd : Request.decoded r = .request r) (hr : r ≠ .restart) {a : Answer}
    {p : List Field} (hc : carry port (s.mgmt.get port).authority r (watchFrame port s) =
      refuseWith (watchFrame port s) a p) :
    exec i s = .next ((watchFrame port s).withReply port ⟨BitVec.ofNat 8 (Request.kind r), tag, a, p⟩) := by
  rw [exec_serves hi h hd hr, hc, conclude_refuseWith, settled_nil]

/-- A served request whose result begins a write: its reply is HELD, and what it hands on is taken. -/
theorem exec_held {i : Instr} {port : MgmtPort} {tag : Byte} {r : Request} (hi : i.request? = some (port, tag, r))
    {s : State} (h : Serves s port r) (hd : Request.decoded r = .request r) (hr : r ≠ .restart) {key : StoreKey}
    {a : Answer} {p : List Field} {x : Handed} (hc : carry port (s.mgmt.get port).authority r (watchFrame port s) =
      written key a p x) :
    exec i s = .next (settled (x.1.withHeld port key ⟨BitVec.ofNat 8 (Request.kind r), tag, a, p⟩, x.2)) := by
  rw [exec_serves hi h hd hr, hc, conclude_written]

/-! ### Records in flight (R15, R171) -/

/-- A request whose record's write is in flight is refused, whatever else would be (R171). -/
theorem carry_busy {r : Request} {key : StoreKey} {s : State} (h : requestRecord r = some key) (hk : s.writing key = true)
    (port : MgmtPort) (authority : Authority) : carry port authority r s = refuse s .busy := by
  cases r with
  | carrierSet a =>
    simp only [requestRecord] at h
    split at h
    next c ch pr hc hch hpr =>
      split at h
      next hlane =>
        cases h
        have : ¬(a.lane < 1 ∨ 4 < a.lane) := by omega
        simp only [carry, carrierSet, hc, hch, hpr, this, hk, if_true, if_false]
      next => cases h
    next => cases h
  | carrierClear c =>
    obtain ⟨x, hx, rfl⟩ := Option.map_eq_some_iff.1 h
    simp only [carry, carrierClear, hx, hk, if_true]
  | ruSet a =>
    obtain ⟨x, hx, rfl⟩ := Option.map_eq_some_iff.1 h
    simp only [carry, ruSet, hx, hk, if_true]
  | zoneSet a =>
    simp only [requestRecord] at h
    split at h
    next z ps hz hps =>
      cases h
      simp only [carry, zoneSet, hz, hps, hk, if_true]
    next => cases h
  | portConfig a =>
    obtain ⟨x, hx, rfl⟩ := Option.map_eq_some_iff.1 h
    simp only [carry, portConfig, hx, hk, if_true]
  | refConfig a =>
    obtain ⟨x, hx, rfl⟩ := Option.map_eq_some_iff.1 h
    simp only [carry, refConfig, hx, hk, if_true]
  | voterConfig a =>
    obtain ⟨x, hx, rfl⟩ := Option.map_eq_some_iff.1 h
    simp only [carry, voterConfig, hx, hk, if_true]
  | clipOpen c n =>
    obtain ⟨x, hx, rfl⟩ := Option.map_eq_some_iff.1 h
    simp only [carry, clipOpen, hx, hk, if_true]
  | clipPage c i payload =>
    obtain ⟨x, hx, rfl⟩ := Option.map_eq_some_iff.1 h
    simp only [carry, clipPage, hx, hk, if_true]
  | clipDelete c =>
    obtain ⟨x, hx, rfl⟩ := Option.map_eq_some_iff.1 h
    simp only [carry, clipDelete, hx, hk, if_true]
  | planLoad p x =>
    obtain ⟨x, hx, rfl⟩ := Option.map_eq_some_iff.1 h
    simp only [carry, planLoad, hx, hk, if_true]
  | triggerSet a =>
    simp only [requestRecord] at h
    split at h
    next t p ht hp =>
      cases h
      simp only [carry, triggerSet, ht, hp, hk, if_true]
    next => cases h
  | contactSet a =>
    simp only [requestRecord] at h
    split at h
    next c t hc ht =>
      cases h
      simp only [carry, contactSet, hc, ht, hk, if_true]
    next => cases h
  | permitSet target groups =>
    simp only [requestRecord] at h
    split at h
    next p gs hp hgs =>
      cases h
      simp only [carry, permitSet, hp, hgs, hk, if_true]
    next => cases h
  | watchSet w =>
    cases h
    simp only [carry, watchSet, hk, if_true]
  | _ => cases h

/-- A well-formed request passes checks 1 and 2 of R169. -/
theorem decoded_of_wellFormed {r : Request} (h : r.WellFormed = true) : Request.decoded r = .request r := by
  cases r with
  | clipPage c i payload =>
    have fits : payload.length = pageBytes := by
      simp only [Request.WellFormed, Request.fieldsFit, Bool.and_eq_true, beq_iff_eq] at h
      exact h.1.2
    exact if_pos fits
  | _ => rfl

end Sys2Proof.Machine
end

section
open Sys2Proof Sys2Proof.Machine

/-- Settles O9: the record's write flag is the check that refuses (`carry_busy`), and a refusal changes nothing. -/
theorem busyRecordsRefuseWrites : Obligations.BusyRecordsRefuseWrites := by
  intro i port tag r key s hi hw h hrec hkey
  have hk : (watchFrame port s).writing key = true := by rw [watchFrame_writing, writing_iff]; exact hkey
  have hr : r ≠ .restart := by rintro rfl; cases hrec
  exact exec_ready hi h (decoded_of_wellFormed hw) hr (carry_busy hrec hk _ _)

end

section
/-! SUPPORT. A store write that completes (R15, R127, R171): the record in both forms, the page, the reply. -/

namespace Sys2Proof.Machine

open Sys2Proof

/-- The record of a key, taken from the working form. -/
theorem commit_agree (x y : Store) (key : StoreKey) : (x.commit y key).agree y key := by
  cases key <;> simp [Store.agree, Store.commit]

/-- The records of other keys, left as they were. -/
theorem commit_agree_other (x y : Store) {key k : StoreKey} (h : k ≠ key) : (x.commit y key).agree x k := by
  cases key with
  | carrier c => cases k with
    | carrier d => exact (vector_get_set ..).trans (if_neg (mt (congrArg StoreKey.carrier) h))
    | _ => exact rfl
  | unit p => cases k with
    | unit q => exact (posGet_posSet ..).trans (if_neg (mt (congrArg StoreKey.unit) h))
    | _ => exact rfl
  | zone z => cases k with
    | zone y => exact (vector_get_set ..).trans (if_neg (mt (congrArg StoreKey.zone) h))
    | _ => exact rfl
  | ring r => cases k with
    | ring q => exact (PerRing.get_set ..).trans (if_neg (mt (congrArg StoreKey.ring) h))
    | _ => exact rfl
  | reference => cases k with
    | reference => exact absurd rfl h
    | _ => exact rfl
  | voter ch => cases k with
    | voter d => exact (vector_get_set ..).trans (if_neg (mt (congrArg StoreKey.voter) h))
    | _ => exact rfl
  | clip c => cases k with
    | clip d => exact (vector_get_set ..).trans (if_neg (mt (congrArg StoreKey.clip) h))
    | _ => exact rfl
  | plan p => cases k with
    | plan q => exact (vector_get_set ..).trans (if_neg (mt (congrArg StoreKey.plan) h))
    | _ => exact rfl
  | trigger t => cases k with
    | trigger u => exact (vector_get_set ..).trans (if_neg (mt (congrArg StoreKey.trigger) h))
    | _ => exact rfl
  | contact c => cases k with
    | contact d => exact (vector_get_set ..).trans (if_neg (mt (congrArg StoreKey.contact) h))
    | _ => exact rfl
  | denyMap p => cases k with
    | denyMap q => exact (PerMgmt.get_set ..).trans (if_neg (mt (congrArg StoreKey.denyMap) h))
    | _ => exact rfl
  | watch => cases k with
    | watch => exact absurd rfl h
    | _ => exact rfl

theorem Store.agree_refl (x : Store) (k : StoreKey) : x.agree x k := by
  cases k <;> exact rfl

/-- As its write completes, a clip alone changes in working form (R127). -/
theorem finishClip_agree_other (x : Store) {key k : StoreKey} (h : k ≠ key) : (finishClip key x).agree x k := by
  cases key with
  | clip c => cases k with
    | clip d => exact (vector_get_set ..).trans (if_neg (mt (congrArg StoreKey.clip) h))
    | _ => exact rfl
  | _ => exact x.agree_refl k

theorem finishClip_of_not_clip (x : Store) {key : StoreKey} (h : ∀ c, key ≠ .clip c) : finishClip key x = x := by
  cases key with
  | clip c => exact absurd rfl (h c)
  | _ => rfl

theorem commit_pages_of_not_clip (x y : Store) {key : StoreKey} (h : ∀ c, key ≠ .clip c) :
    (x.commit y key).pages = x.pages := by
  cases key with
  | clip c => exact absurd rfl (h c)
  | _ => rfl

theorem finishClip_clip (x : Store) (c : ClipNo) : (finishClip (.clip c) x).clips[c] = x.clips[c].finished := by
  simp [finishClip]

/-- A page copied from one memory into another reads there as in the first, and no other byte is changed. -/
theorem memRead_copyPage (m m' : List Host.Cell) (page a : Nat) (h : memWf m = true) :
    memRead (pageWrite m page (pageRead m' page)) a = if a / 1536 = page then memRead m' a else memRead m a := by
  have hlen : (memReadBytes m' (page * pageBytes) pageBytes).length = pageBytes := by simp [memReadBytes]
  rw [pageWrite, pageRead, memRead_memWriteBytes _ _ _ _ h, hlen]
  have hin : page * pageBytes ≤ a ∧ a < page * pageBytes + pageBytes ↔ a / 1536 = page := by
    simp only [pageBytes]
    omega
  simp only [hin]
  split
  next hp =>
    have hlt : a - page * pageBytes < pageBytes := by have := hin.2 hp; omega
    have hge : page * pageBytes ≤ a := (hin.2 hp).1
    simp [memReadBytes, List.getD_eq_getElem?_getD, hlt, Nat.add_sub_of_le hge]
  next => rfl

/-- A clip takes with it the page it has written last (R127). -/
theorem commit_clip_pages (x y : Store) (c : ClipNo) (a : Nat) (h : memWf x.pages = true) :
    memRead (x.commit y (.clip c)).pages a =
      if 0 < y.clips[c].written ∧ a / 1536 = y.clips[c].first + y.clips[c].written - 1 then memRead y.pages a
      else memRead x.pages a := by
  simp only [Store.commit, Clip.lastPage]
  by_cases hw : y.clips[c].written = 0
  · simp [hw, -Fin.getElem_fin]
  · simp only [hw, if_false, memRead_copyPage _ _ _ _ h, Nat.pos_of_ne_zero hw, true_and]

/-- A completed write changes the store's two forms, the writes in flight and the ports' replies alone. -/
theorem writeCompleted_sameBut (key : StoreKey) (s : State) :
    SameBut [.work, .stored, .inFlight, .ports] s (writeCompleted key s) := by
  unfold writeCompleted
  split
  · intro x hx
    cases x with
    | events => rintro ⟨⟩ <;> exact ⟨rfl, rfl⟩
    | work | stored | inFlight | ports => simp at hx
    | resets => exact ⟨rfl, rfl, rfl, rfl⟩
    | _ => exact rfl
  · exact SameBut.refl _ s

theorem writeCompleted_eq {key : StoreKey} {s : State} (h : key ∈ s.inFlight) :
    writeCompleted key s = { completeWrite key s with
      mgmt := ⟨s.mgmt.control.release key, s.mgmt.console.release key⟩ } :=
  if_pos ((writing_iff s key).2 h)

theorem inService_eq {s : State} (h : s.causes = []) (f : State → State) : inService f s = f s := by
  simp [inService, State.inReset, h]

end Sys2Proof.Machine
end

section
open Sys2Proof Sys2Proof.Machine

/-- Settles O13, from what a completed write makes of the record (`commit_agree`), of the other records and of the page. -/
theorem storeWriteCompletes : Obligations.StoreWriteCompletes := by
  intro s key hc hk hmem
  have hexec : exec (.storeWriteComplete key) s = .next (writeCompleted key s) :=
    congrArg Host.Outcome.next (inService_eq hc _)
  refine ⟨writeCompleted key s, hexec, writeCompleted_sameBut key s, ?_⟩
  rw [writeCompleted_eq hk]
  refine ⟨rfl, commit_agree _ _ key, fun k hne => ⟨commit_agree_other _ _ hne, finishClip_agree_other _ hne⟩,
    fun hnot => ⟨finishClip_of_not_clip _ hnot, commit_pages_of_not_clip _ _ hnot⟩, ?_, ?_⟩
  · rintro c rfl
    refine ⟨finishClip_clip s.work c, rfl, fun a => ?_⟩
    have := commit_clip_pages s.stored (finishClip (.clip c) s.work) c a hmem.2
    rw [finishClip_clip, Clip.finished_first, Clip.finished_written] at this
    exact this
  · rintro ⟨⟩ <;> exact ⟨by simp [PerMgmt.get, MgmtRec.release], by simp [PerMgmt.get, MgmtRec.release], rfl, rfl⟩

end

section
/-! SUPPORT. States in which nothing has been heard, as after a reset: rings, carriage and allocation stand for empty
inputs (R43, R62, R89, R106). -/

namespace Sys2Proof.Machine

open Sys2Proof

/-- A statement of every position, by ring and unit. -/
theorem forall_position {P : Position → Prop} (h : ∀ r ∈ [Ring.n, .s], ∀ u : UnitNo, P ⟨r, u⟩) (p : Position) : P p :=
  h p.ring (by cases p.ring <;> decide) p.unit

theorem forall_ring {P : Ring → Prop} (h : ∀ r ∈ [Ring.n, .s], P r) (r : Ring) : P r := h r (by cases r <;> decide)

theorem mem_allSpans (p : SpanPort) : p ∈ allSpans := by
  obtain ⟨r, d⟩ := p
  cases r <;> cases d <;> decide

theorem forall_span {P : SpanPort → Prop} (h : ∀ p ∈ allSpans, P p) (p : SpanPort) : P p := h p (mem_allSpans p)

/-- Rings without a beacon heard, every commissioned unit UNREACHABLE, are sound. -/
theorem RingsSound.of_unheard {s : State}
    (beacons : ∀ p, posGet s.beacons p = if (s.unit p).commissioned then .awaited else .absent)
    (hops : ∀ r, (s.rings.get r).hops = List.replicate (s.ringLength r + 1) none ∧ (s.rings.get r).timer = none)
    (units : ∀ p, s.unitState p = (if (s.unit p).commissioned then .unreachable else .absent) ∧
      (s.rings.get p.ring).reachA[p.unit] = false ∧ (s.rings.get p.ring).reachB[p.unit] = false) : RingsSound s := by
  have status (p : Position) : (posGet s.beacons p).status ≠ some .present := by
    rw [beacons]; split <;> nofun
  have present (p : Position) : s.present p = false := decide_eq_false (status p)
  have identity (p : Position) : (posGet s.beacons p).identity = none := by
    rw [beacons]; split <;> rfl
  have mismatched (p : Position) : s.mismatched p = false := by
    unfold State.mismatched
    rw [identity]
    split
    next h => cases h
    next => rfl
  have passes (r : Ring) (u : UnitNo) : ¬PassesAt s r u := fun h => by rw [PassesAt, present] at h; simp at h
  have fed (p : Position) : s.unitState p ≠ .fedA ∧ s.unitState p ≠ .fedB ∧ s.unitState p ≠ .mismatch := by
    rw [(units p).1]; split <;> simp
  have down (r : Ring) (i : Nat) (h : i < s.ringLength r + 1) : (s.rings.get r).hops[i]? = some none := by
    rw [(hops r).1, List.getElem?_replicate, if_pos h]
  exact
    { hops := fun r => by rw [(hops r).1, List.length_replicate]
      first := fun r => by rw [down r 0 (by omega), present]; rfl
      last := fun r u h => by rw [down r _ (by omega), present]; rfl
      inner := fun r u v _ h => by
        dsimp only
        rw [down r _ (by omega), present]
        simp
      reachA := fun r u => by
        rw [(units ⟨r, u⟩).2.1]
        simpa using fun _ => ⟨u, le_rfl, fun h => absurd h (passes r u)⟩
      reachB := fun r u => by
        rw [(units ⟨r, u⟩).2.2]
        simpa using fun hu => ⟨u, le_rfl, hu, fun h => absurd h (passes r u)⟩
      absent := fun p => by rw [(units p).1]; cases (s.unit p).commissioned <;> simp
      beacon := fun p => by rw [beacons]; cases (s.unit p).commissioned <;> simp [BeaconRec.awaited, BeaconRec.absent]
      mismatch := fun p => by simp [mismatched p, (fed p).2.2]
      fed := fun p => by simp [(units p).2.1, (units p).2.2, (fed p).1, (fed p).2.1]
      fedA := fun p h => absurd h (fed p).1
      fedB := fun p h => absurd h (fed p).2.1
      before := fun r u _ _ h => absurd h (fed ⟨r, u⟩).1
      timer := fun r => by simpa [(hops r).2] using fun u h => absurd h (fed ⟨r, u⟩).2.1 }

/-- A break-in unit without requests is sound. -/
theorem QueueSound.of_empty {s : State} (queue : s.breakin.queue = [])
    (carrying : s.breakin.carrying = Vector.replicate 8 false) (heard : ∀ p, posGet s.breakin.heard p = none) :
    QueueSound s where
  size := by simp [queue]
  ids := by simp [queue]
  range := by simp [queue]
  order := by simp [queue]
  acceptances := by simp [queue]
  accepted := by simp [queue]
  settled := ⟨by simp [queue], by simp [queue], by simp [queue]⟩
  players := by simp [queue]
  carrying := by
    rw [queue, carrying]
    decide
  heard p n h := by rw [heard] at h; cases h

/-! ### The head-end as delivered (R19, R43, R62, R89, R106, R123, R143, R162) -/

/-- The head-end as delivered is what a POWER_ON reset leaves of it. -/
theorem resetEnd_reset : exec (.resetEnd 0 []) { State.reset with causes := [.powerOn] } = .next .reset :=
  congrArg Host.Outcome.next
    (by decide +kernel : settled (endReset .powerOn 0 [] { State.reset with causes := [.powerOn] }) = .reset)

theorem portsBounded_reset : portsBounded .reset := by
  refine ⟨?_, rfl, rfl⟩
  rintro ⟨⟩ <;> decide

theorem tablesSound_reset : TablesSound .reset := by
  have vacant (c : ClipNo) : State.reset.work.clips[c] = .vacant := by simp [State.reset, Store.delivered]
  have unzoned (z : ZoneNo) : State.reset.work.zones[z] = [] := by simp [State.reset, Store.delivered]
  exact
    { catalogue := by decide +kernel
      run := forall_ring (by decide +kernel)
      zones := fun y _ _ p h => by simp [unzoned y] at h
      first := forall_ring (by decide +kernel)
      clips := fun c => ⟨vacant c ▸ Clip.vacant_sound, vacant c ▸ Clip.vacant_sound⟩
      disjoint := fun c _ _ hc => absurd (congrArg Clip.state (vacant c)) hc }

theorem plansSound_reset : PlansSound .reset := by
  have few : ∀ p : PlanNo, ((State.reset.work.plans[p].map fun x => x.templates.length).getD 0) ≤ 4 := by decide +kernel
  exact
    { distinct := by decide
      depth := by decide
      standing := fun _ => rfl
      bottom := by decide
      loaded := by decide +kernel
      plan0 := by decide +kernel
      triggers := by decide +kernel
      templates := fun p x h => by
        have hx : State.reset.work.plans[p] = some x := h.elim id id
        simpa [hx, -Fin.getElem_fin] using few p }

theorem ringsSound_reset : RingsSound .reset :=
  .of_unheard (forall_position (by decide +kernel)) (forall_ring (by decide +kernel)) (forall_position (by decide +kernel))

theorem queueSound_reset : QueueSound .reset := .of_empty rfl rfl (forall_position (by decide +kernel))

/-- No allocation record of the delivered head-end is ACTIVE. -/
theorem alloc_reset_none (p : Position) (side : Side) : (posGet State.reset.alloc p).status ≠ .active side := by
  revert p
  cases side <;> exact forall_position (by decide +kernel)

theorem allocSound_reset : AllocSound .reset := by
  have barren (p : Position) : Barren (posGet State.reset.alloc p) := by
    unfold Barren
    revert p
    exact forall_position (by decide +kernel)
  exact
    { none := fun p _ _ => barren p
      active := fun p side h => absurd h (alloc_reset_none p side)
      cands := fun p c hc => by
        obtain ⟨-, hcands, -⟩ := barren p
        simp [hcands] at hc }

theorem allocFed_reset : AllocFed .reset where
  status := forall_position (by decide +kernel)
  carried p side h := absurd h (alloc_reset_none p side)
  announced := forall_position (by decide +kernel)
  gate := forall_position (by decide +kernel)
  override := forall_position (by decide +kernel)
  rescue := forall_position (by decide +kernel)

theorem carriageSound_reset : CarriageSound .reset := by
  have capacity : ∀ path, (State.reset.carriage.get path).capacity = none := forall_span (by decide +kernel)
  exact
    { list := forall_span (by decide +kernel)
      capacity := forall_span (by decide +kernel)
      units := forall_span (by decide +kernel)
      announcing := forall_span (by decide +kernel)
      wanted := fun path _ h => by simp [capacity path] at h
      empty := forall_span (by decide +kernel) }

theorem votersSound_reset : VotersSound .reset := by
  have source : ∀ ch : ChannelNo, State.reset.voters[ch].source = none := by decide +kernel
  exact
    { covers := by decide +kernel
      cands := by decide +kernel
      source := fun ch p h => by simp [source ch, -Fin.getElem_fin] at h }

end Sys2Proof.Machine
end

section
open Sys2Proof Sys2Proof.Machine

/-- Settles O60: each invariant is read off the delivered records, and the reset's end is evaluated. -/
theorem resetStateIsSound : Obligations.ResetStateIsSound :=
  ⟨portsBounded_reset, ⟨rfl, rfl⟩, tablesSound_reset, plansSound_reset, ringsSound_reset, queueSound_reset,
    allocSound_reset, allocFed_reset, carriageSound_reset, votersSound_reset, resetEnd_reset⟩

end

section
/-! SUPPORT. The end of a reset (R177): the tables that it loads, and what the hand-overs leave of them. -/

namespace Sys2Proof.Machine

open Sys2Proof

theorem exec_resetEnd {s : State} (h : s.causes ≠ []) (straps : Nat) (written : List StoreKey) :
    exec (.resetEnd straps written) s = .next (settled (endReset (recordedKind s.causes) straps written s)) := by
  have running : s.inReset = true := by
    cases hc : s.causes with
    | nil => exact absurd hc h
    | cons => simp [State.inReset, hc]
  exact congrArg Host.Outcome.next (if_pos running)

/-- A RESTART is a reset that begins and ends in one step (R178). -/
theorem exec_restart {port : MgmtPort} {tag : Byte} {s : State} (h : Serves s port .restart) (hf : s.inFlight = []) :
    exec (.restart port tag) s = .next (settled (restartReset (watchFrame port s))) :=
  congrArg Host.Outcome.next (receive_restart h hf)

/-- The tables that a reset leaves in working form: those of the store, once the writes it lets finish are done, corrected. -/
theorem settled_endReset_work (kind : ResetKind) (straps : Nat) (written : List StoreKey) (s : State) :
    (settled (endReset kind straps written s)).work = (s.finished written).stored.repaired :=
  settled_sameBut_handed (endReset kind straps written s) .work (by simp [handedParts])

theorem settled_endReset_stored (kind : ResetKind) (straps : Nat) (written : List StoreKey) (s : State) :
    (settled (endReset kind straps written s)).stored = (s.finished written).stored.repaired :=
  settled_sameBut_handed (endReset kind straps written s) .stored (by simp [handedParts])

theorem settled_restartReset_work (port : MgmtPort) (s : State) :
    (settled (restartReset (watchFrame port s))).work = s.stored.repaired := by
  rw [restartReset, settled_endReset_work]
  exact congrArg Store.repaired (watchFrame_stored port s)

theorem posGet_repaired_units (x : Store) (p : Position) : posGet x.repaired.units p = { posGet x.units p with
    commissioned := decide ((posGet x.units p).commissioned = true ∧
      ∀ v : UnitNo, v < p.unit → (posGet x.units ⟨p.ring, v⟩).commissioned = true) } := by
  obtain ⟨r, u⟩ := p
  cases r <;> exact repairRun_get _ u

/-- What holds of the corrected tables of any store, a reset's end and a RESTART make hold of the working form. -/
theorem resets_load {P : Store → State → Prop} (h : ∀ x t, t.work = x.repaired → P x t) (s : State) :
    (∀ (straps : Nat) (written : List StoreKey), s.causes ≠ [] →
      ∃ t, exec (.resetEnd straps written) s = .next t ∧ P (s.finished written).stored t) ∧
    ∀ (port : MgmtPort) (tag : Byte), Serves s port .restart → s.inFlight = [] →
      ∃ t, exec (.restart port tag) s = .next t ∧ P s.stored t :=
  ⟨fun straps written hc => ⟨_, exec_resetEnd hc straps written, h _ _ (settled_endReset_work _ _ _ _)⟩,
    fun port _ hs hf => ⟨_, exec_restart hs hf, h _ _ (settled_restartReset_work port s)⟩⟩

end Sys2Proof.Machine
end

section
open Sys2Proof Sys2Proof.Machine

/-- Settles O26: the loaded run is that of `repairRun`. -/
theorem resetRestoresTheRun : Obligations.ResetRestoresTheRun := by
  unfold Obligations.ResetRestoresTheRun
  intro restores s
  refine resets_load (P := restores) (fun x t ht p => ?_) s
  rw [State.unit, ht, posGet_repaired_units]

/-- Settles O27: the loaded zones are those of `repairZones`. -/
theorem resetRestoresTheZones : Obligations.ResetRestoresTheZones := by
  unfold Obligations.ResetRestoresTheZones
  intro restores s
  refine resets_load (P := restores) (fun x t ht z p => ?_) s
  rw [ht]
  exact mem_repairZones x.zones z p

/-- Settles O28: the loaded Catalogue is that of `repairCatalogue`, which ends with R1 kept, as each removal leaves a record
fewer. -/
theorem resetRestoresTheCatalogue : Obligations.ResetRestoresTheCatalogue := by
  refine ⟨fun s straps written hc => ⟨_, exec_resetEnd hc straps written, ?_⟩, fun t c => repairCatalogue_first⟩
  rw [settled_endReset_work]
  exact ⟨rfl, repairCatalogue_restores _, repairCatalogue_fewer 24 _, repairCatalogue_of_ok 24⟩

end

section
/-! SUPPORT. The numbers of a payload read back, and the replies of the reads of the tunnel model field by field. -/

namespace Sys2Proof.Machine

open Sys2Proof

/-! ### Identifiers (R164) -/

theorem identOf_eq_some {m first n : Nat} {i : Fin m} : identOf m first n = some i ↔ n = i.val + first := by
  unfold identOf
  split
  next h => simp only [Option.some.injEq, Fin.ext_iff]; omega
  next h => simp only [reduceCtorEq, false_iff]; omega

theorem identOf_eq_none {m first n : Nat} : identOf m first n = none ↔ n < first ∨ first + m ≤ n := by
  unfold identOf
  split
  next h => simp only [reduceCtorEq, false_iff]; omega
  next h => simp only [true_iff]; omega

theorem identOf_fin (m first : Nat) (i : Fin m) : identOf m first (i.val + first) = some i := identOf_eq_some.2 rfl

@[simp] theorem carrierOf_succ (c : CarrierNo) : carrierOf (c.val + 1) = some c := identOf_fin 24 1 c
@[simp] theorem zoneOf_succ (z : ZoneNo) : zoneOf (z.val + 1) = some z := identOf_fin 8 1 z

theorem carrierOf_eq_some {n : Nat} {c : CarrierNo} : carrierOf n = some c ↔ n = c.val + 1 := identOf_eq_some
theorem carrierOf_eq_none {n : Nat} : carrierOf n = none ↔ n < 1 ∨ 24 < n := identOf_eq_none.trans (by omega)
theorem zoneOf_eq_some {n : Nat} {z : ZoneNo} : zoneOf n = some z ↔ n = z.val + 1 := identOf_eq_some
theorem zoneOf_eq_none {n : Nat} : zoneOf n = none ↔ n < 1 ∨ 8 < n := identOf_eq_none.trans (by omega)

theorem ringOf_eq_some {n : Nat} {r : Ring} : ringOf n = some r ↔ ringNumber r = n := by
  unfold ringOf
  split <;> cases r <;> simp_all [ringNumber] <;> omega

theorem positionOf_eq_some {n : Nat} {p : Position} : positionOf n = some p ↔ positionNumber p = n := by
  obtain ⟨r, u⟩ := p
  have hr : 1 ≤ ringNumber r ∧ ringNumber r ≤ 2 := by cases r <;> decide
  have hu := u.isLt
  simp only [positionOf, Option.bind_eq_bind, Option.bind_eq_some_iff, ringOf_eq_some, identOf_eq_some,
    Option.pure_def, Option.some.injEq, Position.mk.injEq, positionNumber]
  constructor
  · rintro ⟨_, h, _, h', rfl, rfl⟩
    omega
  · rintro rfl
    exact ⟨r, by omega, u, by omega, rfl, rfl⟩

@[simp] theorem positionOf_positionNumber (p : Position) : positionOf (positionNumber p) = some p :=
  positionOf_eq_some.2 rfl

theorem positionOf_eq_none {n : Nat} : positionOf n = none ↔ ∀ p, positionNumber p ≠ n := by
  simp [Option.eq_none_iff_forall_ne_some, positionOf_eq_some]

/-- The byte that names a whole ring names no position (R12). -/
theorem positionOf_ring (r : Ring) : positionOf (16 * ringNumber r) = none := by
  cases r <;> decide

/-! ### What the fields say -/

theorem writing_eq_decide (s : State) (key : StoreKey) : s.writing key = decide (key ∈ s.inFlight) := by
  rw [Bool.eq_iff_iff, writing_iff, decide_eq_true_iff]

theorem backoffLimit_eq (k : Nat) :
    (backoffLimit k : Int) = if k = 0 then 0 else if k = 1 then 30 else if k = 2 then 60 else 150 := by
  unfold backoffLimit
  split <;> simp_all

theorem clamp_eq (lo hi v : Int) (h : lo ≤ hi) : clamp lo hi v = max lo (min hi v) := by
  unfold clamp
  split <;> [skip; split] <;> omega

theorem planNames_iff (s : State) (c : CarrierNo) : s.planNames c = true ↔
    ∃ (p : PlanNo) (r : PlanRecord), s.work.plans[p] = some r ∧ ∃ e ∈ r.listN ++ r.listS, e.1 = c := by
  simp only [State.planNames, List.any_eq_true, List.mem_finRange, true_and]
  refine exists_congr fun p => ?_
  cases s.work.plans[p] <;> simp [or_and_right, exists_or]

/-! ### The reads (R6, R12, R14, R105) -/

theorem carrierGet_badId {n : Nat} (h : 24 < n) (s : State) : carrierGet n s = refuse s .badId := by
  rw [carrierGet, if_neg (by omega), carrierOf_eq_none.2 (.inr h)]

theorem carrierGet_one (c : CarrierNo) (s : State) : carrierGet (c.val + 1) s = answered s
    (((s.work.catalogue[c]).map fun x => .present true :: carrierFields s c x).getD [.present false]) := by
  simp only [carrierGet, carrierOf_succ, Nat.add_one_ne_zero, if_false]
  cases s.work.catalogue[c] <;> rfl

theorem carrierGet_all (s : State) : carrierGet 0 s = answered s
    (.entries ((List.finRange 24).filter fun c => s.work.catalogue[c].isSome).length ::
      (List.finRange 24).flatMap fun c => (s.work.catalogue[c].map (carrierFields s c)).getD []) := by
  rw [carrierGet, if_pos rfl]
  refine congrArg (answered s) (congrArg₂ _ (congrArg _ ?_) ?_)
  · induction List.finRange 24 with
    | nil => rfl
    | cons c cs ih => cases h : s.work.catalogue[c] <;> simp_all [-Fin.getElem_fin]
  · induction List.finRange 24 with
    | nil => rfl
    | cons c cs ih => cases h : s.work.catalogue[c] <;> simp_all [-Fin.getElem_fin]

theorem ruGet_one (p : Position) (s : State) : ruGet (positionNumber p) s = answered s (ruGetFields s p) := by
  rw [ruGet, positionOf_positionNumber]

theorem ruGet_ring (r : Ring) (s : State) :
    ruGet (16 * ringNumber r) s = answered s ((List.finRange 12).flatMap fun u => ruGetFields s ⟨r, u⟩) := by
  rw [ruGet, positionOf_ring]
  cases r <;> rfl

theorem ruGet_badId {n : Nat} (hp : ∀ p, positionNumber p ≠ n) (hr : ∀ r, 16 * ringNumber r ≠ n) (s : State) :
    ruGet n s = refuse s .badId := by
  rw [ruGet, positionOf_eq_none.2 hp]
  by_cases h : n % 16 = 0
  · have none : ringOf (n / 16) = none := by
      simp only [Option.eq_none_iff_forall_ne_some, ne_eq, ringOf_eq_some]
      exact fun r hn => hr r (by omega)
    simp only [h, none, if_true]
  · simp only [h, if_false]

theorem zoneGet_badId {n : Nat} (h : 8 < n) (s : State) : zoneGet n s = refuse s .badId := by
  rw [zoneGet, if_neg (by omega), zoneOf_eq_none.2 (.inr h)]

theorem zoneGet_all (s : State) : zoneGet 0 s = answered s ((List.finRange 8).flatMap (zoneGetFields s)) := if_pos rfl

theorem ruAllocation_badId {n : Nat} (h : ∀ p, positionNumber p ≠ n) (s : State) : ruAllocation n s = refuse s .badId := by
  rw [ruAllocation, positionOf_eq_none.2 h]

theorem zoneGet_one (z : ZoneNo) (s : State) : zoneGet (z.val + 1) s = answered s (zoneGetFields s z) := by
  simp only [zoneGet, zoneOf_succ, Nat.add_one_ne_zero, if_false]

end Sys2Proof.Machine
end

section
open Sys2Proof Sys2Proof.Machine

/-- Settles O22: each read answers the fields of its record, which are those of the statement. -/
theorem modelReadsAnswer : Obligations.ModelReadsAnswer := by
  unfold Obligations.ModelReadsAnswer
  intro s port tag n w flag cls carrier unit zone allocated active path allocation
  have hcls : ∀ kind announced, classOf kind announced = cls kind announced := by
    intro kind announced
    cases kind <;> rfl
  have hflag : ∀ key, Field.flag (w.writing key) = flag key := fun key => by
    simp only [flag, w, writing_eq_decide, watchFrame_inFlight]
  have hcarrier : ∀ c x, carrierFields w c x = carrier c x := by
    intro c x
    have hnames : w.planNames c = decide (∃ p : PlanNo, ∃ e ∈ (match s.work.plans[p] with
        | some r => r.listN ++ r.listS
        | none => []), e.1 = c) := by
      rw [watchFrame_planNames, Bool.eq_iff_iff, planNames_iff, decide_eq_true_iff]
      refine exists_congr fun p => ?_
      cases s.work.plans[p] <;> simp
    simp only [carrierFields, hnames, hflag, List.flatten_cons, List.flatten_nil, List.append_nil, carrier,
      List.append_assoc]
    rfl
  have hunit : ∀ p, ruGetFields w p = unit p := by
    intro p
    simp only [ruGetFields, ruFields, hflag, State.zoneOfPosition, State.unit, w, watchFrame_work, watchFrame_beacons,
      watchFrame_unitState, List.flatten_cons, List.flatten_nil, List.append_nil, unit, List.append_assoc,
      List.cons_append, List.nil_append]
    rfl
  have hzone : ∀ z, zoneGetFields w z = zone z := by
    intro z
    simp only [zoneGetFields, hflag, listField, positionSet, w, watchFrame_work, zone]
  have hallocated : ∀ p r x, carriedFields w p r x = allocated p r x := by
    intro p r x
    have request : clamp (-300) 370 (x.level + (s.unit p).trim) = max (-300) (min 370 (x.level + (s.unit p).trim)) :=
      clamp_eq _ _ _ (by decide)
    simp only [carriedFields, candOf, lowered, backoffLimit_eq, hcls, request, w, watchFrame_unit, allocated]
    refine congrArg (List.append _) ?_
    rw [grantFields]
    cases r.grants.find? (·.1 = x.carrier) with
    | some e => rfl
    | none => cases r.excluded.find? (·.1 = x.carrier) with
      | none => rfl
      | some e =>
        obtain ⟨_, reason⟩ := e
        cases reason <;> rfl
  have hactive : ∀ p r, activeFields w p r = active p r := by
    intro p r
    have hending : endingFields r.ending = (match r.ending with
          | none => []
          | some .fit => [.named 0]
          | some (.backoff k d) => [.named 1, .ident k, .quantity d]
          | some (.rescueLimit d) => [.named 2, .quantity d]) := by
      cases r.ending with
      | none => rfl
      | some e => cases e <;> rfl
    simp only [activeFields, hending, gateField, AllocRec.limited, funext (hallocated p r), w, watchFrame_catalogued,
      List.flatten_cons, List.flatten_nil, List.append_nil, active, List.append_assoc, List.cons_append, List.nil_append]
      <;> rfl
  have hcarriage : ∀ p, carriageFields w p = (match s.unitState p with
      | .fedA => path p .a
      | .fedB => path p .b
      | _ => [.present false]) := by
    intro p
    have hwanted : ∀ x e, wantedFields x e =
          [.ident (e.carrier.val + 1), .named e.kind.ctorIdx, .quantity e.level, .ident (cls e.kind x.announcing)] ++
          optField (fun slot => .ident slot) ((x.carried.find? (·.1.carrier = e.carrier)).map (·.2)) := by
      intro x e
      rw [wantedFields, hcls]
      cases x.carried.find? (·.1.carrier = e.carrier) <;> rfl
    unfold carriageFields
    rw [watchFrame_unitState]
    cases s.unitState p <;> simp [UnitState.side, path, pathFields, w, funext (hwanted _)]
  have hallocation : ∀ p, ruAllocation (positionNumber p) w = answered w (allocation p) := by
    intro p
    rw [ruAllocation, positionOf_positionNumber]
    simp only [hactive, hcarriage, w, watchFrame_alloc, watchFrame_unit, allocation, budgetFields]
    refine congrArg _ ?_
    cases (posGet s.alloc p).status <;> cases (posGet s.alloc p).override <;>
      simp [statusFields, fromZero] <;> rfl
  refine ⟨fun h => ⟨fun hn => ?_, ?_, ?_⟩, fun h => ⟨?_, ?_, fun hp hr => ?_⟩, fun h => ⟨fun hn => ?_, ?_, ?_⟩,
    fun h => ⟨?_, fun hp => ?_⟩⟩
  · exact exec_ready rfl h rfl (by simp) (carrierGet_badId hn w)
  · rintro c rfl
    refine exec_ready rfl h rfl (by simp) ((carrierGet_one c w).trans ?_)
    simp only [hcarrier, w, watchFrame_work]
    cases s.work.catalogue[c] <;> rfl
  · rintro rfl
    refine exec_ready rfl h rfl (by simp) ((carrierGet_all w).trans ?_)
    simp only [funext (hcarrier _), w, watchFrame_work]
    rfl
  · rintro p rfl
    exact exec_ready rfl h rfl (by simp) ((ruGet_one p w).trans (by rw [hunit]; rfl))
  · rintro r rfl
    exact exec_ready rfl h rfl (by simp) ((ruGet_ring r w).trans (by simp only [hunit]; rfl))
  · exact exec_ready rfl h rfl (by simp) (ruGet_badId hp hr w)
  · exact exec_ready rfl h rfl (by simp) (zoneGet_badId hn w)
  · rintro z rfl
    exact exec_ready rfl h rfl (by simp) ((zoneGet_one z w).trans (by rw [hzone]; rfl))
  · rintro rfl
    exact exec_ready rfl h rfl (by simp) ((zoneGet_all w).trans (by rw [funext hzone]; rfl))
  · rintro p rfl
    exact exec_ready rfl h rfl (by simp) (hallocation p)
  · exact exec_ready rfl h rfl (by simp) (ruAllocation_badId hp w)

end

section
/-! SUPPORT. The checks of PLAN LOAD: the first offence of a record, and the record that passes them. -/

namespace Sys2Proof.Machine

open Sys2Proof

/-! ### Lists of numbers read as identifiers -/

@[simp] theorem planOf_val (p : PlanNo) : planOf p.val = some p := identOf_fin 16 0 p
@[simp] theorem triggerOf_val (t : TriggerNo) : triggerOf t.val = some t := identOf_fin 32 0 t

theorem planOf_eq_none {n : Nat} : planOf n = none ↔ 15 < n := identOf_eq_none.trans (by omega)
theorem triggerOf_eq_none {n : Nat} : triggerOf n = none ↔ 31 < n := identOf_eq_none.trans (by omega)
theorem planOf_eq_some {n : Nat} {p : PlanNo} : planOf n = some p ↔ n = p.val := identOf_eq_some
theorem clipOf_eq_some {n : Nat} {c : ClipNo} : clipOf n = some c ↔ n = c.val + 1 := identOf_eq_some
theorem clipOf_eq_none {n : Nat} : clipOf n = none ↔ n < 1 ∨ 64 < n := identOf_eq_none.trans (by omega)

theorem allOf_eq_some_iff {α : Type} {f : Nat → Option α} {ns : List Nat} {xs : List α} :
    allOf f ns = some xs ↔ ns.map f = xs.map some := by
  induction ns generalizing xs with
  | nil => cases xs <;> simp [allOf]
  | cons n ns ih => cases xs <;> simp [allOf, Option.bind_eq_some_iff, ih]

theorem allOf_isNone_iff {α : Type} {f : Nat → Option α} {ns : List Nat} :
    (allOf f ns).isNone = true ↔ ∃ n ∈ ns, f n = none := by
  induction ns with
  | nil => simp [allOf]
  | cons n ns ih => cases h : f n <;> cases h' : allOf f ns <;> simp_all [allOf]

theorem allOf_length {α : Type} {f : Nat → Option α} {ns : List Nat} {xs : List α} (h : allOf f ns = some xs) :
    xs.length = ns.length := by
  simpa using (congrArg List.length (allOf_eq_some_iff.1 h)).symm

/-- Identifiers read and written again are the numbers they were read from. -/
theorem allOf_numbers {m first : Nat} {ns : List Nat} {xs : List (Fin m)} (h : allOf (identOf m first) ns = some xs) :
    xs.map (·.val + first) = ns := by
  rw [allOf_eq_some_iff] at h
  induction xs generalizing ns with
  | nil => simpa using h.symm
  | cons x xs ih =>
    cases ns with
    | nil => simp at h
    | cons n ns =>
      simp only [List.map_cons, List.cons.injEq, identOf_eq_some] at h ⊢
      exact ⟨h.1.symm, ih h.2⟩

theorem authorityOf_eq_some {n : Nat} {a : Authority} : authorityOf n = some a ↔ n = a.rank := by
  unfold authorityOf
  split <;> cases a <;> simp_all [Authority.rank]

theorem authorityOf_eq_none {n : Nat} : authorityOf n = none ↔ 3 < n := by
  unfold authorityOf
  split <;> simp_all
  omega

/-! ### The first offence of a record (R145) -/

/-- A number is the least with a property, and no number is where none has it. -/
def IsFirst (P : Nat → Prop) : Option Nat → Prop
  | some i => P i ∧ ∀ j < i, ¬P j
  | none => ∀ i, ¬P i

theorem IsFirst.congr {P Q : Nat → Prop} {o : Option Nat} (h : IsFirst P o) (hPQ : ∀ i, P i ↔ Q i) : IsFirst Q o := by
  rwa [← show P = Q from funext fun i => propext (hPQ i)]

theorem firstOffence_isFirst {α : Type} (bad : Nat → α → Bool) (xs : List α) :
    IsFirst (fun i => ∃ x, xs[i]? = some x ∧ bad i x = true) (firstOffence bad 0 xs) := by
  suffices h : ∀ k, IsFirst (fun i => ∃ j x, i = k + j ∧ xs[j]? = some x ∧ bad i x = true) (firstOffence bad k xs) by
    exact (h 0).congr fun i => by simp
  intro k
  induction xs generalizing k with
  | nil => simp [firstOffence, IsFirst]
  | cons x xs ih =>
    unfold firstOffence
    split
    next hx =>
      refine ⟨⟨0, x, rfl, rfl, hx⟩, ?_⟩
      rintro j hj ⟨i, _, rfl, -⟩
      omega
    next hx =>
      refine (ih (k + 1)).congr fun i => ⟨?_, ?_⟩
      · rintro ⟨j, y, rfl, hy, hb⟩
        exact ⟨j + 1, y, by omega, hy, hb⟩
      · rintro ⟨j, y, rfl, hy, hb⟩
        cases j with
        | zero => cases hy; exact absurd hb hx
        | succ j => exact ⟨j, y, by omega, hy, hb⟩

/-- The first offence of a record: in its part no earlier index offends, and no earlier part does (R145). -/
def FirstOffence (bad : Nat → Nat → Prop) (part i : Nat) : Prop :=
  bad part i ∧ (∀ j < i, ¬bad part j) ∧ ∀ q < part, ∀ j, ¬bad q j

/-- What a check finds is the first offence, and it finds none where there is none. -/
def FindsFirst (bad : Nat → Nat → Prop) : Option (PlanPart × Nat) → Prop
  | some (part, i) => FirstOffence bad part.ctorIdx i
  | none => ∀ q j, ¬bad q j

theorem FirstOffence.unique {bad : Nat → Nat → Prop} {p i q j : Nat} (h : FirstOffence bad p i)
    (h' : FirstOffence bad q j) : p = q ∧ i = j := by
  obtain ⟨hb, hi, hp⟩ := h
  obtain ⟨hb', hj, hq⟩ := h'
  have hpq : p = q := Nat.le_antisymm (Nat.le_of_not_lt fun hlt => hp q hlt j hb') (Nat.le_of_not_lt fun hlt => hq p hlt i hb)
  subst hpq
  exact ⟨rfl, Nat.le_antisymm (Nat.le_of_not_lt fun hlt => hi j hlt hb') (Nat.le_of_not_lt fun hlt => hj i hlt hb)⟩

theorem FindsFirst.some {bad : Nat → Nat → Prop} {o : Option (PlanPart × Nat)} (h : FindsFirst bad o) {part i : Nat}
    (hf : FirstOffence bad part i) : ∃ x : PlanPart, x.ctorIdx = part ∧ o = some (x, i) := by
  cases o with
  | none => exact absurd hf.1 (h part i)
  | some e =>
    obtain ⟨x, j⟩ := e
    obtain ⟨hx, rfl⟩ := FirstOffence.unique h hf
    exact ⟨x, hx, rfl⟩

theorem FindsFirst.none {bad : Nat → Nat → Prop} {o : Option (PlanPart × Nat)} (h : FindsFirst bad o)
    (hn : ∀ q j, ¬bad q j) : o = none := by
  cases o with
  | none => rfl
  | some e => exact absurd h.1 (hn _ _)

/-- A check finds the first offence when it finds the first of each part (R145). -/
theorem offenceOf_findsFirst {a : PlanArgs} {entry : List (Nat × Int) → Nat → Nat × Int → Bool}
    {template : Nat → BreakInArgs → Bool} {rest : Option Nat} {bad : Nat → Nat → Prop}
    (hN : ∀ i, (∃ e, a.listN[i]? = some e ∧ entry a.listN i e = true) ↔ bad 0 i)
    (hS : ∀ i, (∃ e, a.listS[i]? = some e ∧ entry a.listS i e = true) ↔ bad 1 i)
    (hT : ∀ i, (∃ t, a.templates[i]? = some t ∧ template i t = true) ↔ bad 2 i)
    (hR : IsFirst (bad 3) rest) (hbeyond : ∀ q j, 3 < q → ¬bad q j) :
    FindsFirst bad (offenceOf a entry template rest) := by
  have hN := (firstOffence_isFirst _ _).congr hN
  have hS := (firstOffence_isFirst _ _).congr hS
  have hT := (firstOffence_isFirst _ _).congr hT
  unfold offenceOf
  cases eN : firstOffence (entry a.listN) 0 a.listN with
  | some i =>
    rw [eN] at hN
    exact ⟨hN.1, hN.2, fun q hq => absurd hq (Nat.not_lt_zero q)⟩
  | none =>
  rw [eN] at hN
  cases eS : firstOffence (entry a.listS) 0 a.listS with
  | some i =>
    rw [eS] at hS
    refine ⟨hS.1, hS.2, fun q hq => ?_⟩
    obtain rfl : q = 0 := Nat.lt_one_iff.1 hq
    exact hN
  | none =>
  rw [eS] at hS
  cases eT : firstOffence template 0 a.templates with
  | some i =>
    rw [eT] at hT
    refine ⟨hT.1, hT.2, fun q (hq : q < 2) => ?_⟩
    obtain rfl | rfl : q = 0 ∨ q = 1 := by omega
    · exact hN
    · exact hS
  | none =>
  rw [eT] at hT
  cases rest with
  | some i =>
    refine ⟨hR.1, hR.2, fun q (hq : q < 3) => ?_⟩
    obtain rfl | rfl | rfl : q = 0 ∨ q = 1 ∨ q = 2 := by omega
    · exact hN
    · exact hS
    · exact hT
  | none =>
    intro q
    obtain rfl | rfl | rfl | rfl | hq : q = 0 ∨ q = 1 ∨ q = 2 ∨ q = 3 ∨ 3 < q := by omega
    · exact hN
    · exact hS
    · exact hT
    · exact hR
    · exact fun j => hbeyond q j hq

/-! ### Checks 5 to 7 (R145) -/

/-- The carriage list of a part of a record: list N in part 0, list S in part 1. -/
def listOfPart (a : PlanArgs) (part : Nat) : List (Nat × Int) :=
  if part = 0 then a.listN else if part = 1 then a.listS else []

/-- An identifier out of its range. -/
def Offends5 (a : PlanArgs) (part i : Nat) : Prop :=
  (∃ e, (listOfPart a part)[i]? = some e ∧ ¬(1 ≤ e.1 ∧ e.1 ≤ 24)) ∨
    (part = 2 ∧ ∃ t, a.templates[i]? = some t ∧
      ((∃ z ∈ t.zones, ¬(1 ≤ z ∧ z ≤ 8)) ∨ ∃ c ∈ t.clips, ¬(1 ≤ c ∧ c ≤ 64)))

/-- A template that R131 would accept but for its identifiers. -/
def Shaped (t : BreakInArgs) : Prop :=
  t.zones ≠ [] ∧ t.clips ≠ [] ∧ t.clips.length ≤ 8 ∧ 1 ≤ t.priority ∧ t.priority ≤ 7 ∧ t.repeats ≤ 15

/-- Too much, a carrier named twice, a template's shape, the label, the authority. -/
def Offends6 (a : PlanArgs) (part i : Nat) : Prop :=
  (∃ e, (listOfPart a part)[i]? = some e ∧ (24 ≤ i ∨ ∃ e' ∈ (listOfPart a part).take i, e'.1 = e.1)) ∨
    (part = 2 ∧ ∃ t, a.templates[i]? = some t ∧ (4 ≤ i ∨ ¬Shaped t)) ∨
    (part = 3 ∧ ((i = 0 ∧ ∃ l, a.label = some l ∧ 16 < l.length) ∨ (i = 1 ∧ 3 < a.authority)))

/-- A carrier that is unknown (R5, assumption 27). -/
def Offends7 (s : State) (a : PlanArgs) (part i : Nat) : Prop :=
  ∃ e, (listOfPart a part)[i]? = some e ∧ ∀ c : CarrierNo, e.1 = c.val + 1 → s.work.catalogue[c] = none ∨
    (.carrier c ∈ s.inFlight ∧ ∃ x y, s.stored.catalogue[c] = some x ∧ s.work.catalogue[c] = some y ∧ x.kind ≠ y.kind)

theorem offence5_findsFirst (a : PlanArgs) : FindsFirst (Offends5 a) (offence5 a) := by
  have hcarrier (e : Nat × Int) : (carrierOf e.1).isNone = true ↔ ¬(1 ≤ e.1 ∧ e.1 ≤ 24) := by
    rw [Option.isNone_iff_eq_none, carrierOf_eq_none]
    omega
  have hzone (z : Nat) : zoneOf z = none ↔ ¬(1 ≤ z ∧ z ≤ 8) := zoneOf_eq_none.trans (by omega)
  have hclip (c : Nat) : clipOf c = none ↔ ¬(1 ≤ c ∧ c ≤ 64) := clipOf_eq_none.trans (by omega)
  refine offenceOf_findsFirst (fun i => ?_) (fun i => ?_) (fun i => ?_) (fun i => ?_) (fun q i hq => ?_)
  · simp [Offends5, listOfPart, hcarrier]
  · simp [Offends5, listOfPart, hcarrier]
  · simp only [Offends5, listOfPart, Bool.or_eq_true, allOf_isNone_iff, hzone, hclip]
    simp
  · simp [Offends5, listOfPart]
  · have : q ≠ 0 ∧ q ≠ 1 ∧ q ≠ 2 := by omega
    simp [Offends5, listOfPart, this]

/-- With its identifiers in range a template passes the checks of R131 exactly when it has the shape they ask. -/
theorem badTemplate_iff {t : BreakInArgs} {zs : List ZoneNo} {cs : List ClipNo} (hz : allOf zoneOf t.zones = some zs)
    (hc : allOf clipOf t.clips = some cs) : badTemplate t = true ↔ ¬Shaped t := by
  have lz := allOf_length hz
  have lc := allOf_length hc
  have ez : zs.isEmpty = true ↔ t.zones = [] := by
    rw [List.isEmpty_iff_length_eq_zero, lz, List.length_eq_zero_iff]
  have ec : cs.isEmpty = true ↔ t.clips = [] := by
    rw [List.isEmpty_iff_length_eq_zero, lc, List.length_eq_zero_iff]
  simp only [badTemplate, templateOf, hz, hc, ez, ec, lc, Shaped]
  split
  next h =>
    split at h
    next => cases h
    next hn => simp only [Bool.false_eq_true, false_iff, not_not]; grind
  next h =>
    split at h
    next hb => simp only [true_iff]; grind
    next => cases h

/-- A template whose identifiers check 5 has passed. -/
theorem templates_read {a : PlanArgs} (h : ∀ q j, ¬Offends5 a q j) {t : BreakInArgs} (ht : t ∈ a.templates) :
    ∃ zs cs, allOf zoneOf t.zones = some zs ∧ allOf clipOf t.clips = some cs := by
  obtain ⟨i, hi⟩ := List.mem_iff_getElem?.1 ht
  have hn := h 2 i
  simp only [Offends5, true_and, not_or, not_exists, not_and] at hn
  obtain ⟨hz, hc⟩ := hn.2 t hi
  have zones : ∃ zs, allOf zoneOf t.zones = some zs := Option.ne_none_iff_exists'.1 fun hb => by
    obtain ⟨z, hz', e⟩ := allOf_isNone_iff.1 (Option.isNone_iff_eq_none.2 hb)
    have := zoneOf_eq_none.1 e
    exact hz z hz' (by omega)
  have clips : ∃ cs, allOf clipOf t.clips = some cs := Option.ne_none_iff_exists'.1 fun hb => by
    obtain ⟨c, hc', e⟩ := allOf_isNone_iff.1 (Option.isNone_iff_eq_none.2 hb)
    have := clipOf_eq_none.1 e
    exact hc c hc' (by omega)
  obtain ⟨zs, hzs⟩ := zones
  obtain ⟨cs, hcs⟩ := clips
  exact ⟨zs, cs, hzs, hcs⟩

theorem offence6_findsFirst {a : PlanArgs} (h : ∀ q j, ¬Offends5 a q j) : FindsFirst (Offends6 a) (offence6 a) := by
  have htemplate (i : Nat) (t : BreakInArgs) (ht : a.templates[i]? = some t) : badTemplate t = true ↔ ¬Shaped t := by
    obtain ⟨zs, cs, hz, hc⟩ := templates_read h (List.mem_of_getElem? ht)
    exact badTemplate_iff hz hc
  refine offenceOf_findsFirst (fun i => ?_) (fun i => ?_) (fun i => ?_) ?_ (fun q i hq => ?_)
  · simp [Offends6, listOfPart]
  · simp [Offends6, listOfPart]
  · simp only [Offends6, listOfPart, Bool.or_eq_true, decide_eq_true_eq]
    simp only [show (2 : Nat) ≠ 0 by decide, show (2 : Nat) ≠ 1 by decide, show (2 : Nat) ≠ 3 by decide, if_false,
      List.getElem?_nil, reduceCtorEq, false_and, exists_false, true_and, false_or, or_false]
    exact exists_congr fun t => and_congr_right fun ht => or_congr_right (htemplate i t ht)
  · split
    next hl =>
      obtain ⟨l, hl, hlen⟩ := (Option.any_eq_true _ _).1 hl
      exact ⟨.inr (.inr ⟨rfl, .inl ⟨rfl, l, hl, of_decide_eq_true hlen⟩⟩), fun j hj => absurd hj (Nat.not_lt_zero j)⟩
    next hl =>
      have nolabel : ¬∃ l, a.label = some l ∧ 16 < l.length := by
        rintro ⟨l, e, hlen⟩
        exact hl (by simpa [e] using hlen)
      split
      next ha =>
        have hauth := authorityOf_eq_none.1 (Option.isNone_iff_eq_none.1 ha)
        refine ⟨.inr (.inr ⟨rfl, .inr ⟨rfl, hauth⟩⟩), fun j hj => ?_⟩
        obtain rfl := Nat.lt_one_iff.1 hj
        simp [Offends6, listOfPart, nolabel]
      next ha =>
        have hauth : ¬3 < a.authority := fun hlt => ha (by simp [authorityOf_eq_none.2 hlt])
        intro i
        simp [Offends6, listOfPart, nolabel, hauth]
  · have : q ≠ 0 ∧ q ≠ 1 ∧ q ≠ 2 ∧ q ≠ 3 := by omega
    simp [Offends6, listOfPart, this]

theorem offence7_findsFirst (s : State) (a : PlanArgs) : FindsFirst (Offends7 s a) (offence7 s a) := by
  have hunknown (e : Nat × Int) : (carrierOf e.1).all s.carrierUnknown = true ↔
      ∀ c : CarrierNo, e.1 = c.val + 1 → s.work.catalogue[c] = none ∨ (.carrier c ∈ s.inFlight ∧
        ∃ x y, s.stored.catalogue[c] = some x ∧ s.work.catalogue[c] = some y ∧ x.kind ≠ y.kind) := by
    simp only [← carrierUnknown_iff, ← carrierOf_eq_some]
    cases carrierOf e.1 <;> simp
  refine offenceOf_findsFirst (fun i => ?_) (fun i => ?_) (fun i => ?_) (fun i => ?_) (fun q i hq => ?_)
  · simp only [Offends7, listOfPart, hunknown, if_true]
  · simp only [Offends7, listOfPart, hunknown, one_ne_zero, if_false, if_true]
  · simp [Offends7, listOfPart]
  · simp [Offends7, listOfPart]
  · have : q ≠ 0 ∧ q ≠ 1 := by omega
    simp [Offends7, listOfPart, this]

/-! ### The record that passes (R145) -/

theorem listOf_numbers {es : List (Nat × Int)} (h : ∀ e ∈ es, 1 ≤ e.1 ∧ e.1 ≤ 24) :
    (listOf es).map (fun e => (e.1.val + 1, e.2)) = es.map fun e => (e.1, max (-300) (min 370 e.2)) := by
  induction es with
  | nil => rfl
  | cons e es ih =>
    obtain ⟨he, hes⟩ := List.forall_mem_cons.1 h
    obtain ⟨n, v⟩ := e
    obtain ⟨c, hc⟩ : ∃ c, carrierOf n = some c := Option.ne_none_iff_exists'.1 fun hn => by
      have := carrierOf_eq_none.1 hn
      omega
    obtain rfl := carrierOf_eq_some.1 hc
    have clamped : clamp (-300) 370 v = max (-300) (min 370 v) := clamp_eq _ _ _ (by decide)
    simp only [listOf, List.filterMap_cons, hc, Option.map_some, List.map_cons, clamped] at ih ⊢
    exact congrArg _ (ih hes)

theorem templateOf_ok {t : BreakInArgs} {zs : List ZoneNo} {cs : List ClipNo} (hz : allOf zoneOf t.zones = some zs)
    (hc : allOf clipOf t.clips = some cs) (h : Shaped t) :
    templateOf t = .ok ⟨asSet zs, cs, t.priority.toNat, t.repeats⟩ := by
  have ok : badTemplate t = false := Bool.eq_false_iff.2 fun hb => (badTemplate_iff hz hc).1 hb h
  simp only [badTemplate, templateOf, hz, hc] at ok ⊢
  split at ok
  next hb =>
    split at hb
    next => cases hb
    next hn => rw [if_neg hn]
  next => cases ok

theorem templates_numbers {ts : List BreakInArgs}
    (h : ∀ t ∈ ts, Shaped t ∧ ∃ zs cs, allOf zoneOf t.zones = some zs ∧ allOf clipOf t.clips = some cs) :
    (ts.filterMap fun t => (templateOf t).toOption).map
        (fun t => (t.zones, t.clips.map (·.val + 1), (t.priority : Int), t.repeats)) =
      ts.map fun t => ((List.finRange 8).filter (fun z => z.val + 1 ∈ t.zones), t.clips, t.priority, t.repeats) := by
  induction ts with
  | nil => rfl
  | cons t ts ih =>
    obtain ⟨⟨shaped, zs, cs, hz, hc⟩, hts⟩ := List.forall_mem_cons.1 h
    have zones : asSet zs = (List.finRange 8).filter fun z => z.val + 1 ∈ t.zones := by
      refine List.filter_congr fun z _ => ?_
      rw [← allOf_numbers hz]
      simp [Fin.val_inj]
    have clips : cs.map (·.val + 1) = t.clips := allOf_numbers hc
    have priority : ((t.priority.toNat : Nat) : Int) = t.priority := by
      have := shaped.2.2.2.1
      omega
    simp only [List.filterMap_cons, templateOf_ok hz hc shaped, Except.toOption, List.map_cons, zones, clips, priority]
    exact congrArg _ (ih hts)

/-- The record that checks 5 and 6 pass keeps what it was given, its identifiers read. -/
theorem recordOf_keeps {a : PlanArgs} (h5 : ∀ q j, ¬Offends5 a q j) (h6 : ∀ q j, ¬Offends6 a q j) :
    (recordOf a).authority.rank = a.authority ∧
    (recordOf a).listN.map (fun e => (e.1.val + 1, e.2)) = a.listN.map (fun e => (e.1, max (-300) (min 370 e.2))) ∧
    (recordOf a).listS.map (fun e => (e.1.val + 1, e.2)) = a.listS.map (fun e => (e.1, max (-300) (min 370 e.2))) ∧
    (recordOf a).templates.map (fun t => (t.zones, t.clips.map (·.val + 1), (t.priority : Int), t.repeats)) =
      a.templates.map (fun t => ((List.finRange 8).filter (fun z => z.val + 1 ∈ t.zones), t.clips, t.priority,
        t.repeats)) := by
  have inRange (part : Nat) (e : Nat × Int) (he : e ∈ listOfPart a part) : 1 ≤ e.1 ∧ e.1 ≤ 24 := by
    obtain ⟨i, hi⟩ := List.mem_iff_getElem?.1 he
    exact not_not.1 fun hn => h5 part i (.inl ⟨e, hi, hn⟩)
  refine ⟨?_, listOf_numbers (inRange 0), listOf_numbers (inRange 1), templates_numbers fun t ht => ⟨?_, templates_read h5 ht⟩⟩
  · cases h : authorityOf a.authority with
    | none => exact absurd (.inr (.inr ⟨rfl, .inr ⟨rfl, authorityOf_eq_none.1 h⟩⟩)) (h6 3 1)
    | some level => rw [recordOf, h, Option.getD_some, authorityOf_eq_some.1 h]
  · obtain ⟨i, hi⟩ := List.mem_iff_getElem?.1 ht
    exact not_not.1 fun hn => h6 2 i (.inr (.inl ⟨rfl, t, hi, .inr hn⟩))

theorem offends7_watchFrame (port : MgmtPort) (s : State) (a : PlanArgs) :
    Offends7 (watchFrame port s) a = Offends7 s a := by
  funext part i
  simp only [Offends7, watchFrame_work, watchFrame_stored, watchFrame_inFlight]

theorem planClamped_iff (a : PlanArgs) : planClamped a = false ↔
    (∀ e ∈ a.listN ++ a.listS, max (-300) (min 370 e.2) = e.2) ∧ ∀ m, a.override = some m → 0 ≤ m ∧ m ≤ 30 := by
  have level (v : Int) : (clamp (-300) 370 v != v) = true ↔ max (-300) (min 370 v) ≠ v := by
    rw [clamp_eq _ _ _ (by decide), bne_iff_ne]
  have override (m : Int) : (clamp 0 30 m != m) = true ↔ ¬(0 ≤ m ∧ m ≤ 30) := by
    rw [clamp_eq _ _ _ (by decide), bne_iff_ne]
    omega
  rw [← Bool.not_eq_true, planClamped, Bool.or_eq_true, List.any_eq_true, Option.any_eq_true]
  simp only [level, override, not_or, not_exists, not_and, not_not, Classical.not_imp]

theorem planFields_eq_showPlan (p : PlanNo) (x : Option PlanRecord) : planFields p x = showPlan p x := by
  cases x with
  | none => rfl
  | some x =>
    have authority : x.authority.ctorIdx = x.authority.rank := by cases x.authority <;> rfl
    simp only [planFields, planRecordFields, showPlan, carriageListFields, authority, List.flatten_cons,
      List.flatten_nil, List.append_nil, List.cons_append, List.nil_append]
    rfl

/-! ### PLAN LOAD and TRIGGER SET, check by check (R145, R147) -/

section
variable {s : State} {p : PlanNo}

theorem planLoad_badId {n : Nat} (hn : 15 < n) (record : Option PlanArgs) (s : State) :
    planLoad n record s = refuse s .badId := by
  rw [planLoad, planOf_eq_none.2 hn]

theorem planLoad_inUse (hw : s.writing (.plan p) = false) (h : s.plans.active = p ∨ p ∈ s.plans.stack)
    (record : Option PlanArgs) : planLoad p.val record s = refuse s .inUse := by
  simp only [planLoad, planOf_val, hw, h, Bool.false_eq_true, if_false, if_true]

theorem planLoad_absent (hw : s.writing (.plan p) = false) (h : ¬(s.plans.active = p ∨ p ∈ s.plans.stack)) :
    planLoad p.val none s = if p = 0 then refuse s .badValue else loadPlan s p .accepted none := by
  simp only [planLoad, planOf_val, hw, h, Bool.false_eq_true, if_false]

theorem planLoad_offence5 (hw : s.writing (.plan p) = false) (h : ¬(s.plans.active = p ∨ p ∈ s.plans.stack))
    {a : PlanArgs} {o : PlanPart × Nat} (h5 : offence5 a = some o) :
    planLoad p.val (some a) s = refuseOffence s .badId o := by
  simp only [planLoad, planOf_val, hw, h, Bool.false_eq_true, if_false, h5]

theorem planLoad_offence6 (hw : s.writing (.plan p) = false) (h : ¬(s.plans.active = p ∨ p ∈ s.plans.stack))
    {a : PlanArgs} {o : PlanPart × Nat} (h5 : offence5 a = none) (h6 : offence6 a = some o) :
    planLoad p.val (some a) s = refuseOffence s .badValue o := by
  simp only [planLoad, planOf_val, hw, h, Bool.false_eq_true, if_false, h5, h6]

theorem planLoad_offence7 (hw : s.writing (.plan p) = false) (h : ¬(s.plans.active = p ∨ p ∈ s.plans.stack))
    {a : PlanArgs} {o : PlanPart × Nat} (h5 : offence5 a = none) (h6 : offence6 a = none) (h7 : offence7 s a = some o) :
    planLoad p.val (some a) s = refuseOffence s .badValue o := by
  simp only [planLoad, planOf_val, hw, h, Bool.false_eq_true, if_false, h5, h6, h7]

theorem planLoad_passed (hw : s.writing (.plan p) = false) (h : ¬(s.plans.active = p ∨ p ∈ s.plans.stack))
    {a : PlanArgs} (h5 : offence5 a = none) (h6 : offence6 a = none) (h7 : offence7 s a = none) :
    planLoad p.val (some a) s = loadPlan s p (clampAnswer (planClamped a)) (some (recordOf a)) := by
  simp only [planLoad, planOf_val, hw, h, Bool.false_eq_true, if_false, h5, h6, h7]

theorem triggerSet_badId {a : TriggerSetArgs} (h : 31 < a.trigger ∨ 15 < a.plan) (s : State) :
    triggerSet a s = refuse s .badId := by
  obtain h | h := h
  · simp only [triggerSet, triggerOf_eq_none.2 h]
  · cases ht : triggerOf a.trigger <;> simp only [triggerSet, ht, planOf_eq_none.2 h]

theorem triggerSet_badValue {n : TriggerNo} {present : Bool} {minimum plan mode : Nat}
    (hw : s.writing (.trigger n) = false) (hp : plan ≤ 15) (h : plan = 0 ∨ 1 < mode ∨ 3 < minimum) :
    triggerSet ⟨n.val, present, minimum, plan, mode⟩ s = refuse s .badValue := by
  obtain ⟨p, hp⟩ : ∃ p, planOf plan = some p := Option.ne_none_iff_exists'.1 fun hn => by
    have := planOf_eq_none.1 hn
    omega
  have hp0 : plan = 0 → p = 0 := fun h0 => Fin.ext (by rw [← planOf_eq_some.1 hp, h0]; rfl)
  have hmode : 1 < mode → modeOf mode = none := fun hm => by
    match mode, hm with
    | _ + 2, _ => rfl
  simp only [triggerSet, triggerOf_val, hp, hw, Bool.false_eq_true, if_false]
  split
  next m l hm hl =>
    rw [if_pos (hp0 (h.resolve_right (not_or.2 ⟨fun hlt => ?_, fun hlt => ?_⟩)))]
    · rw [hmode hlt] at hm
      cases hm
    · rw [authorityOf_eq_none.2 hlt] at hl
      cases hl
  next => rfl

theorem triggerSet_passed {n : TriggerNo} {present : Bool} (hw : s.writing (.trigger n) = false) (hp : p ≠ 0)
    {minimum mode : Nat} {level : Authority} {m : TriggerMode} (hl : authorityOf minimum = some level)
    (hm : modeOf mode = some m) : triggerSet ⟨n.val, present, minimum, p.val, mode⟩ s =
      written (.trigger n) .accepted [] (s.setTrigger n ⟨present, level, p, m⟩, []) := by
  simp only [triggerSet, triggerOf_val, planOf_val, hw, hl, hm, hp, Bool.false_eq_true, if_false]

end

end Sys2Proof.Machine
end

section
open Sys2Proof Sys2Proof.Machine

/-- Settles O50: checks 5 to 7 each find the first offence (`offenceOf_findsFirst`), and a record that passes them has its
identifiers in range, so that reading and writing them again loses nothing. -/
theorem plansAndTriggersAreSet : Obligations.PlansAndTriggersAreSet := by
  intro s port tag w
  refine ⟨fun n record h hn => ?_, fun a h hn => ?_, fun p record h hf => ?_, fun n present minimum plan mode h hf => ?_⟩
  · exact exec_ready rfl h rfl (by simp) (planLoad_badId hn record w)
  · exact exec_ready rfl h rfl (by simp) (triggerSet_badId (.inl hn) w)
  · intro load stored stands
    have hw : w.writing (.plan p) = false := by
      rw [watchFrame_writing]
      exact writing_eq_false hf
    have hstands : w.plans.active = p ∨ p ∈ w.plans.stack ↔ stands := by rw [watchFrame_plans]
    have hstored {a : Answer} {x : Option PlanRecord} (hl : planLoad p.val record w = loadPlan w p a x) : stored a x := by
      refine (exec_held rfl h rfl (by simp) hl).trans ?_
      rw [settled_nil, planFields_eq_showPlan]
      rfl
    refine ⟨fun hs => ?_, ?_, ?_, ?_⟩
    · exact exec_ready rfl h rfl (by simp) (planLoad_inUse hw (hstands.2 hs) record)
    · rintro hs rfl rfl
      exact exec_ready rfl h rfl (by simp) ((planLoad_absent hw (hstands.not.2 hs)).trans (if_pos rfl))
    · rintro hs rfl hp
      exact hstored ((planLoad_absent hw (hstands.not.2 hs)).trans (if_neg hp))
    · rintro a hs rfl list bad5 bad6 kindChanges bad7 first refused
      replace hs := hstands.not.2 hs
      have find5 : FindsFirst bad5 (offence5 a) := offence5_findsFirst a
      have find6 (h5 : ∀ q j, ¬bad5 q j) : FindsFirst bad6 (offence6 a) := offence6_findsFirst h5
      have find7 : FindsFirst bad7 (offence7 w a) := by
        have := offence7_findsFirst w a
        rw [offends7_watchFrame] at this
        exact this
      refine ⟨fun part i hb => ?_, fun part i h5 hb => ?_, fun part i h56 hb => ?_, fun hn => ?_⟩
      · obtain ⟨x, rfl, h5⟩ := find5.some hb
        exact exec_ready rfl h rfl (by simp) (planLoad_offence5 hw hs h5)
      · obtain ⟨x, rfl, h6⟩ := (find6 h5).some hb
        exact exec_ready rfl h rfl (by simp) (planLoad_offence6 hw hs (find5.none h5) h6)
      · have h5 : ∀ q j, ¬bad5 q j := fun q j => (h56 q j).1
        have h6 : ∀ q j, ¬bad6 q j := fun q j => (h56 q j).2
        obtain ⟨x, rfl, h7⟩ := find7.some hb
        exact exec_ready rfl h rfl (by simp) (planLoad_offence7 hw hs (find5.none h5) ((find6 h5).none h6) h7)
      · intro level same
        have h5 : ∀ q j, ¬bad5 q j := fun q j => (hn q j).1
        have h6 : ∀ q j, ¬bad6 q j := fun q j => (hn q j).2.1
        have passed := planLoad_passed hw hs (find5.none h5) ((find6 h5).none h6) (find7.none fun q j => (hn q j).2.2)
        obtain ⟨authority, listN, listS, templates⟩ := recordOf_keeps h5 h6
        refine ⟨recordOf a, rfl, authority, listN, listS, templates, ?_, fun hsame => ?_, fun hsame => ?_⟩
        · exact congrArg (a.override.map ·) (funext fun m => congrArg Int.toNat (clamp_eq 0 30 m (by decide)))
        · rw [(planClamped_iff a).2 hsame] at passed
          exact hstored passed
        · rw [Bool.eq_true_of_not_eq_false fun hf => hsame ((planClamped_iff a).1 hf)] at passed
          exact hstored passed
  · intro set
    have hw : w.writing (.trigger n) = false := by
      rw [watchFrame_writing]
      exact writing_eq_false hf
    refine ⟨fun hp => ?_, fun hp hb => ?_, ?_⟩
    · exact exec_ready rfl h rfl (by simp) (triggerSet_badId (.inr hp) w)
    · exact exec_ready rfl h rfl (by simp) (triggerSet_badValue hw hp hb)
    · rintro p level m hp rfl rfl rfl
      refine (exec_held rfl h rfl (by simp) (triggerSet_passed (m := m) hw hp (authorityOf_eq_some.2 rfl) ?_)).trans ?_
      · cases m <;> rfl
      · rw [settled_nil]
        rfl

end

section
/-! SUPPORT. Taking hand-overs to the end: an invariant of the state and of what is still pending, the records that are told
on the way, and what an event at an allocation record leaves of it. -/

namespace Sys2Proof.Machine

open Sys2Proof

/-! ### Pending hand-overs (assumption 1) -/

/-- An invariant of the state and the pending hand-overs, whatever their order, holds with none pending in the end: each
hand-over weighs more than what it hands on. -/
theorem settle_invariant {I : State → List HandOver → Prop} (weight : HandOver → Nat)
    (hperm : ∀ s hs ks, hs.Perm ks → I s hs → I s ks) (hchoice : ∀ s cs hs, I s hs → I { s with choices := cs } hs)
    (hstep : ∀ s h hs, I s (h :: hs) → I (handle h s).1 ((handle h s).2 ++ hs))
    (hweight : ∀ s h hs, I s (h :: hs) → ((handle h s).2.map weight).sum + 1 ≤ weight h) :
    ∀ fuel items s, I s items → (items.map weight).sum ≤ fuel → I (settle fuel items s) [] := by
  intro fuel
  induction fuel with
  | zero =>
    intro items s hI hsum
    cases items with
    | nil => exact hI
    | cons h hs =>
      have := hweight s h hs hI
      simp only [List.map_cons, List.sum_cons] at hsum
      omega
  | succ fuel ih =>
    intro items s hI hsum
    cases items with
    | nil => exact hI
    | cons h hs =>
      have hp := pick_perm (nextPlace (hs.length + 1) s.choices).1 h hs
      simp only [settle]
      generalize pick (nextPlace (hs.length + 1) s.choices).1 h hs = x at hp ⊢
      have taken := hchoice _ (nextPlace (hs.length + 1) s.choices).2 _ (hperm _ _ _ hp.symm hI)
      refine ih _ _ (hstep _ _ _ taken) ?_
      have hw := hweight _ _ _ taken
      have hs := (hp.map weight).sum_eq
      simp only [List.map_cons, List.sum_cons] at hs hsum
      simp only [List.map_append, List.sum_append]
      omega

/-- As `settle_invariant`, for a result without an activation. -/
theorem settled_invariant {I : State → List HandOver → Prop} {x : Handed}
    (hperm : ∀ s hs ks, hs.Perm ks → I s hs → I s ks) (hchoice : ∀ s cs hs, I s hs → I { s with choices := cs } hs)
    (hactive : ∀ s h hs, I s (h :: hs) → h ≠ .activation)
    (hstep : ∀ s h hs, I s (h :: hs) → I (handle h s).1 ((handle h s).2 ++ hs)) (h : I x.1 x.2)
    (hsum : (x.2.map HandOver.weight).sum ≤ settleFuel) : I (settled x) [] :=
  settle_invariant HandOver.weight hperm hchoice hstep (fun s h hs hI => handle_weight h s (hactive s h hs hI))
    settleFuel x.2 x.1 h hsum

/-- What follows from other hand-overs changes the carriage and allocation records alone, and posts. -/
theorem settled_follows {x : Handed} (h : ∀ k ∈ x.2, k.follows) :
    SameBut [.carriage, .alloc, .events, .choices] x.1 (settled x) := by
  refine settled_sameBut _ x (by simp) fun k hk p hp => ?_
  have := HandOver.follows_reach (h k hk) p hp
  simp only [List.mem_cons, List.not_mem_nil, or_false] at this ⊢
  tauto

/-! ### A reply that is held -/

theorem withHeld_quiet (s : State) (port : MgmtPort) (key : StoreKey) (r : Reply) (q : MgmtPort) :
    ((s.withHeld port key r).mgmt.get q).quiet = if q = port
      then { (s.mgmt.get port).quiet with held := (s.mgmt.get port).quiet.held ++ [(key, r)] } else (s.mgmt.get q).quiet := by
  simp only [State.withHeld, State.setMgmt_mgmt, PerMgmt.get_set]
  split <;> rfl

theorem withHeld_queues (s : State) (port : MgmtPort) (key : StoreKey) (r : Reply) (q : MgmtPort) :
    ((s.withHeld port key r).mgmt.get q).events = (s.mgmt.get q).events ∧
      ((s.withHeld port key r).mgmt.get q).overflow = (s.mgmt.get q).overflow :=
  withHeld_sameBut s port key r .events (by simp) q

/-- Where two states differ makes no difference to a reply that is held in both. -/
theorem withHeld_congr {changed : List Part} {s t : State} (h : SameBut changed s t) (port : MgmtPort) (key : StoreKey)
    (r : Reply) : SameBut changed (s.withHeld port key r) (t.withHeld port key r) := by
  intro x hx
  have hxs := h x hx
  cases x with
  | inFlight => exact congrArg (· ++ [key]) hxs
  | ports =>
    intro q
    rw [withHeld_quiet, withHeld_quiet, hxs port, hxs q]
  | events =>
    intro q
    obtain ⟨he, ho⟩ := withHeld_queues t port key r q
    obtain ⟨he', ho'⟩ := withHeld_queues s port key r q
    exact ⟨he.trans ((hxs q).1.trans he'.symm), ho.trans ((hxs q).2.trans ho'.symm)⟩
  | _ => exact hxs

/-! ### Records told on the way (R173) -/

/-- Some records are among those posted since `s`, in this order, and the clock stands. -/
def Told (notes : List Note) (s t : State) : Prop := ∃ all, notes.Sublist all ∧ QueuesAgree (s.postAll all) t

theorem Told.nil {s t : State} (h : Logs s t) : Told [] s t := h.imp fun _ k => ⟨List.nil_sublist _, k⟩

theorem Told.logs {notes : List Note} {s t u : State} (h : Told notes s t) (k : Logs t u) : Told notes s u := by
  obtain ⟨all, hall, h⟩ := h
  obtain ⟨es, k⟩ := k
  refine ⟨all ++ es, hall.trans (List.sublist_append_left all es), ?_⟩
  rw [postAll_append]
  exact (postAll_congr es h).trans k

/-- Records posted at some moment are told from then on. -/
theorem Told.posted {notes more : List Note} {s t u : State} (h : Told notes s t) (k : QueuesAgree (t.postAll more) u) :
    Told (notes ++ more) s u := by
  obtain ⟨all, hall, h⟩ := h
  refine ⟨all ++ more, hall.append (List.Sublist.refl more), ?_⟩
  rw [postAll_append]
  exact (postAll_congr more h).trans k

theorem Told.tells {notes : List Note} {s t : State} (h : Told notes s t) : Tells notes s t :=
  h.imp fun _ k => ⟨k.1, k.2.2.2⟩

/-! ### An event at an allocation record (R96 to R104) -/

/-- The record after an event: its input taken, and formed afresh where the event asks for it. -/
def allocAfter (s : State) (p : Position) (e : AllocEvent) (r : AllocRec) : AllocRec :=
  if recomputes s e (absorb s p e r) then recompute s p (absorb s p e r) else absorb s p e r

theorem allocEvent_alloc (p : Position) (e : AllocEvent) (s : State) (q : Position) :
    posGet (allocEvent p e s).alloc q = if q = p then allocAfter s p e (posGet s.alloc p) else posGet s.alloc q := by
  have h : (allocEvent p e s).alloc = posSet s.alloc p (allocAfter s p e (posGet s.alloc p)) := by
    simp only [allocEvent, allocAfter]
    split
    · exact State.postAll_alloc _ _
    · rfl
  rw [h, posGet_posSet]

theorem recompute_announced (s : State) (p : Position) (r : AllocRec) : (recompute s p r).announced = r.announced := by
  unfold recompute
  split <;> rfl

theorem recompute_status (s : State) (p : Position) (r : AllocRec) : (recompute s p r).status = r.status := by
  unfold recompute
  split <;> rfl

theorem allocAfter_announced (s : State) (p : Position) (e : AllocEvent) (r : AllocRec) :
    (allocAfter s p e r).announced = if e = .cls then s.announced p else r.announced := by
  have absorbed : (absorb s p e r).announced = if e = .cls then s.announced p else r.announced := by
    cases e with
    | carriage => cases h : r.status <;> simp [absorb, h]
    | _ => simp [absorb]
  unfold allocAfter
  split
  · rw [recompute_announced, absorbed]
  · exact absorbed

/-! ### Announcements at the allocation records (R138) -/

theorem announced_congr {s t : State} (hb : t.breakin = s.breakin) (hw : t.work = s.work) (p : Position) :
    t.announced p = s.announced p := by
  simp only [State.announced, hb, hw]

/-- What follows from other hand-overs leaves each position its announcement. -/
theorem handle_announced {h : HandOver} (hf : h.follows) (s : State) (p : Position) :
    (handle h s).1.announced p = s.announced p := by
  have same := (handle_sameBut h s).mono fun x hx => h.follows_reach hf x (h.parts_sub_reach x hx)
  exact announced_congr (same .breakin (by simp)) (same .work (by simp)) p

/-- A record whose announcement is as it should be, or is still to be told, has it in the end. -/
theorem settled_announced {x : Handed} (hf : ∀ h ∈ x.2, h.follows) (hsum : (x.2.map HandOver.weight).sum ≤ settleFuel)
    {p : Position} (h : (posGet x.1.alloc p).announced = x.1.announced p ∨ .alloc p .cls ∈ x.2) :
    (posGet (settled x).alloc p).announced = (settled x).announced p := by
  let I (s : State) (hs : List HandOver) : Prop := (∀ h ∈ hs, h.follows) ∧
    ((posGet s.alloc p).announced = s.announced p ∨ HandOver.alloc p .cls ∈ hs)
  suffices I (settled x) [] by simpa [I] using this
  refine settled_invariant (I := I) ?_ (fun _ _ _ h => h) ?_ ?_ ⟨hf, h⟩ hsum
  · exact fun s hs ks hp h => ⟨fun k hk => h.1 k (hp.mem_iff.2 hk), h.2.imp_right hp.mem_iff.1⟩
  · rintro s h hs ⟨hf, -⟩ rfl
    exact hf _ (List.mem_cons_self ..)
  · rintro s h hs ⟨hf, hp⟩
    have hfh := hf h (List.mem_cons_self ..)
    refine ⟨fun k hk => ?_, ?_⟩
    · rcases List.mem_append.1 hk with hk | hk
      · exact handle_follows h s k hk
      · exact hf k (List.mem_cons_of_mem _ hk)
    · rw [handle_announced hfh]
      have kept : (posGet s.alloc p).announced = s.announced p →
          (posGet (handle h s).1.alloc p).announced = s.announced p := by
        intro hann
        cases h with
        | alloc q e =>
          rw [handle, allocEvent_alloc]
          split
          next hq =>
            subst hq
            rw [allocAfter_announced]
            split <;> simp [hann]
          next => exact hann
        | flag path => rw [handle_sameBut (.flag path) s .alloc (by simp [HandOver.parts])]; exact hann
        | posts notes => rw [handle_sameBut (.posts notes) s .alloc (by simp [HandOver.parts])]; exact hann
        | _ => exact hfh.elim
      rcases hp with hp | hp
      · exact .inl (kept hp)
      · rcases List.mem_cons.1 hp with rfl | hp
        · left
          rw [handle, allocEvent_alloc, if_pos rfl, allocAfter_announced, if_pos rfl]
        · exact .inr (List.mem_append_right _ hp)

/-! ### ZONE SET (R13, R14) -/

theorem allPositions_nodup : allPositions.Nodup := by decide

theorem mem_allOf_positions {ns : List Nat} {ps : List Position} (h : allOf positionOf ns = some ps) (p : Position) :
    p ∈ ps ↔ positionNumber p ∈ ns := by
  have : some p ∈ ps.map some ↔ some p ∈ ns.map positionOf := by rw [allOf_eq_some_iff.1 h]
  simpa [positionOf_eq_some, and_comm] using this

theorem findSome?_finRange {α : Type} {n : Nat} {f : Fin n → Option α} {b : α}
    (h : (List.finRange n).findSome? f = some b) : ∃ i, f i = some b ∧ ∀ j, f j ≠ none → i ≤ j := by
  obtain ⟨before, i, after, hl, hb, hnone⟩ := List.findSome?_eq_some_iff.1 h
  refine ⟨i, hb, fun j hj => ?_⟩
  have sorted := List.pairwise_lt_finRange n
  have hmem := List.mem_finRange j
  rw [hl] at sorted hmem
  rcases List.mem_append.1 hmem with hm | hm
  · exact absurd (hnone j hm) hj
  · rcases List.mem_cons.1 hm with rfl | hm
    · exact le_rfl
    · exact ((List.pairwise_cons.1 (List.pairwise_append.1 sorted).2.1).1 j hm).le

/-- The conflict that refuses a ZONE SET is one with the lowest zone (R13). -/
theorem zoneConflict_eq_some {s : State} {z : ZoneNo} {members : List Position} {y : ZoneNo} {p : Position}
    (h : zoneConflict s z members = some (y, p)) : (y ≠ z ∧ p ∈ s.work.zones[y] ∧ p ∈ members) ∧
      ∀ y' p', y' ≠ z → p' ∈ s.work.zones[y'] → p' ∈ members → y ≤ y' := by
  obtain ⟨i, hi, lowest⟩ := findSome?_finRange h
  split at hi
  next => cases hi
  next hne =>
    obtain ⟨q, hq, he⟩ := Option.map_eq_some_iff.1 hi
    obtain ⟨rfl, rfl⟩ := Prod.mk.injEq .. ▸ he
    refine ⟨⟨hne, by simpa using List.find?_some hq, List.mem_of_find?_eq_some hq⟩, fun y' p' hy hp hm => ?_⟩
    refine lowest y' fun hn => ?_
    rw [if_neg hy, Option.map_eq_none_iff, List.find?_eq_none] at hn
    exact hn p' hm (decide_eq_true hp)

section
variable {s : State} {z : ZoneNo} {ns : List Nat} {ps : List Position}

theorem zoneSet_badId {a : ZoneSetArgs} (h : ¬(1 ≤ a.zone ∧ a.zone ≤ 8) ∨ ∃ n ∈ a.members, ∀ p, positionNumber p ≠ n)
    (s : State) : zoneSet a s = refuse s .badId := by
  rcases h with h | ⟨n, hn, hp⟩
  · have : zoneOf a.zone = none := zoneOf_eq_none.2 (by omega)
    cases hm : allOf positionOf a.members <;> simp only [zoneSet, this, hm]
  · have : allOf positionOf a.members = none :=
      Option.isNone_iff_eq_none.1 (allOf_isNone_iff.2 ⟨n, hn, positionOf_eq_none.2 hp⟩)
    cases hz : zoneOf a.zone <;> simp only [zoneSet, this, hz]

theorem zoneSet_overlap (hw : s.writing (.zone z) = false) (hps : allOf positionOf ns = some ps) {y : ZoneNo}
    {p : Position} (h : zoneConflict s z (positionSet ps) = some (y, p)) :
    zoneSet ⟨z.val + 1, ns⟩ s = refuseWith s .overlap [fromOne y, .position p] := by
  simp only [zoneSet, zoneOf_succ, hps, hw, h, Bool.false_eq_true, if_false]

theorem zoneSet_passed (hw : s.writing (.zone z) = false) (hps : allOf positionOf ns = some ps)
    (h : zoneConflict s z (positionSet ps) = none) :
    zoneSet ⟨z.val + 1, ns⟩ s = written (.zone z) .accepted [] (changeZone z (positionSet ps) s) := by
  simp only [zoneSet, zoneOf_succ, hps, hw, h, Bool.false_eq_true, if_false]

end

/-- A zone's members replaced in working form. -/
def withZone (s : State) (z : ZoneNo) (members : List Position) : State :=
  { s with work := { s.work with zones := s.work.zones.set z members } }

section
variable (z : ZoneNo) (members : List Position) (s : State)

theorem changeZone_idle (h : s.breakin.carrying[z] = false) : changeZone z members s = (withZone s z members, []) := by
  simp only [changeZone, h, Bool.false_eq_true, if_false, withZone]

theorem changeZone_sameBut : SameBut [.breakin] (withZone s z members) (changeZone z members s).1 := by
  unfold changeZone
  split
  · exact setBreakin_sameBut (withZone s z members) _
  · exact SameBut.refl _ _

theorem changeZone_breakin :
    (changeZone z members s).1.breakin = { s.breakin with heard := (changeZone z members s).1.breakin.heard } := by
  unfold changeZone
  split <;> rfl

theorem changeZone_heard (p : Position) : posGet (changeZone z members s).1.breakin.heard p =
    if s.breakin.carrying[z] = true ∧ p ∈ s.work.zones[z] ∧ p ∉ members then none else posGet s.breakin.heard p := by
  unfold changeZone
  split
  next h => simp only [posGet_forPositions, h, true_and]
  next h => rw [if_neg fun hc => h hc.1]

theorem changeZone_follows : ∀ h ∈ (changeZone z members s).2, h.follows := by
  unfold changeZone
  split
  · exact classHands_follows _ _
  · simp

theorem classHands_weight (ps : List Position) (hps : ps.length ≤ 24) :
    ((classHands s ps).map HandOver.weight).sum ≤ 76 := by
  have four : ∀ f : SpanPort → Bool, (allSpans.filter f).length ≤ 4 := fun f => List.length_filter_le f allSpans
  simp only [classHands, List.map_append, List.sum_append, List.map_map, Function.comp_def, HandOver.weight,
    List.map_const', List.sum_replicate, smul_eq_mul, mul_one]
  have := four fun path => ps.any fun p => p.ring = path.ring && (s.unitState p).side = some path.side
  omega

theorem changeZone_weight : (((changeZone z members s).2).map HandOver.weight).sum ≤ settleFuel := by
  unfold changeZone
  split
  · refine (classHands_weight _ _ ((List.length_filter_le ..).trans ?_)).trans (by decide)
    exact allPositions_length.le
  · simp

/-- A position whose announcement the new members change has its class change handed on (R14). -/
theorem changeZone_cls {p : Position} (h : (changeZone z members s).1.announced p ≠ s.announced p) :
    .alloc p .cls ∈ (changeZone z members s).2 := by
  have hc : s.breakin.carrying[z] = true ∧ decide (p ∈ s.work.zones[z]) ≠ decide (p ∈ members) := by
    by_contra hn
    refine h ?_
    have same : (changeZone z members s).1.breakin.carrying = s.breakin.carrying := by rw [changeZone_breakin]
    have zones : (changeZone z members s).1.work.zones = s.work.zones.set z members := by
      rw [changeZone_sameBut z members s .work (by simp)]
      rfl
    simp only [State.announced, same, zones]
    refine congrArg (List.any (List.finRange 8)) (funext fun y => ?_)
    rw [vector_get_set]
    split
    next hy =>
      subst hy
      cases hcy : s.breakin.carrying[y] with
      | false => simp
      | true => simp only [Bool.true_and]; exact (not_not.1 fun hd => hn ⟨hcy, Ne.symm hd⟩)
    next => rfl
  unfold changeZone
  rw [if_pos hc.1]
  refine List.mem_append_left _ (List.mem_map_of_mem (List.mem_filter.2 ⟨mem_allPositions p, ?_⟩))
  simpa using hc.2

end

end Sys2Proof.Machine
end

section
open Sys2Proof Sys2Proof.Machine

/-- Settles O25: the members are replaced and what is heard of the zone cut off; the hand-overs that follow reach carriage
and allocation records alone, and tell each changed position its class (`settled_announced`). -/
theorem zoneSetReplacesTheMembers : Obligations.ZoneSetReplacesTheMembers := by
  refine ⟨fun s port tag a h hb => exec_ready rfl h rfl (by simp) (zoneSet_badId hb _), ?_⟩
  intro s port tag z ns h hns hf w conflict
  have hw : w.writing (.zone z) = false := by
    rw [watchFrame_writing]
    exact writing_eq_false hf
  obtain ⟨ps, hps⟩ : ∃ ps, allOf positionOf ns = some ps := Option.ne_none_iff_exists'.1 fun hn => by
    obtain ⟨n, hn, hp⟩ := allOf_isNone_iff.1 (Option.isNone_iff_eq_none.2 hn)
    obtain ⟨p, hp'⟩ := hns n hn
    exact positionOf_eq_none.1 hp p hp'
  have hmem (p : Position) : p ∈ positionSet ps ↔ positionNumber p ∈ ns :=
    (mem_positionSet ps p).trans (mem_allOf_positions hps p)
  refine ⟨fun hc => ?_, fun hc => ?_⟩
  · cases hz : zoneConflict w z (positionSet ps) with
    | none =>
      obtain ⟨y, p, hy, hp, hn⟩ := hc
      refine absurd hp ?_
      have := (zoneConflict_eq_none_iff w z (positionSet ps)).1 hz y hy p ((hmem p).2 hn)
      rwa [watchFrame_work] at this
    | some yp =>
      obtain ⟨y, p⟩ := yp
      obtain ⟨⟨hy, hp, hm⟩, lowest⟩ := zoneConflict_eq_some hz
      rw [watchFrame_work] at hp lowest
      refine ⟨y, p, ⟨hy, hp, (hmem p).1 hm⟩, fun y' p' hc' => lowest y' p' hc'.1 hc'.2.1 ((hmem p').2 hc'.2.2), ?_⟩
      exact exec_ready rfl h rfl (by simp) (zoneSet_overlap hw hps hz)
  · have hz : zoneConflict w z (positionSet ps) = none := by
      rw [zoneConflict_eq_none_iff, watchFrame_work]
      exact fun y hy p hp hpy => hc y p ⟨hy, hpy, (hmem p).1 hp⟩
    have taken := exec_held (i := .zoneSet port tag ⟨z.val + 1, ns⟩) rfl h rfl (by simp) (zoneSet_passed hw hps hz)
    let x : Handed := ((changeZone z (positionSet ps) w).1.withHeld port (.zone z) ⟨0x18, tag, .accepted, []⟩,
      (changeZone z (positionSet ps) w).2)
    have base : SameBut [.breakin] ((withZone w z (positionSet ps)).withHeld port (.zone z) ⟨0x18, tag, .accepted, []⟩) x.1 :=
      withHeld_congr (changeZone_sameBut z (positionSet ps) w) _ _ _
    have frame : SameBut [.carriage, .alloc, .events, .choices] x.1 (settled x) :=
      settled_follows (changeZone_follows z (positionSet ps) w)
    have breakin : (settled x).breakin = (changeZone z (positionSet ps) w).1.breakin := frame .breakin (by simp)
    refine ⟨positionSet ps, settled x, ?_, hmem, taken, ?_, ?_, fun p => ?_, fun p hp => ?_, fun hidle => ?_⟩
    · exact allPositions_nodup.filter _
    · exact (base.mono (by simp)).trans (frame.mono (by simp))
    · rw [breakin, changeZone_breakin, watchFrame_breakin]
    · rw [breakin, changeZone_heard, watchFrame_breakin, watchFrame_work]
      exact if_congr (by rw [hmem]) rfl rfl
    · refine settled_announced (x := x) (changeZone_follows z (positionSet ps) w) (changeZone_weight z (positionSet ps) w) ?_
      by_cases hc : (changeZone z (positionSet ps) w).1.announced p = w.announced p
      · left
        have alloc : x.1.alloc = w.alloc := base .alloc (by simp)
        have here : x.1.announced p = w.announced p := hc
        rw [here, alloc, watchFrame_alloc, hp]
        exact (announced_congr (watchFrame_breakin port s) (watchFrame_work port s) p).symm
      · exact .inr (changeZone_cls z (positionSet ps) w hc)
    · have idle : w.breakin.carrying[z] = false := by rw [watchFrame_breakin]; exact hidle
      have hx : x = ((withZone w z (positionSet ps)).withHeld port (.zone z) ⟨0x18, tag, .accepted, []⟩, []) := by
        simp only [x, changeZone_idle z (positionSet ps) w idle]
      rw [hx, settled_nil]
      simp only [withZone, w, watchFrame_work]

end

section
/-! SUPPORT. A change of the Catalogue at the planners, the allocation records and the voters, taken in any order. -/

namespace Sys2Proof.Machine

open Sys2Proof

/-! ### Allocation records under a Catalogue change (R86, R96) -/

theorem allocAfter_status (s : State) (p : Position) {e : AllocEvent} (hf : e ≠ .feed) (ha : e ≠ .amplifier)
    (r : AllocRec) : (allocAfter s p e r).status = r.status := by
  have absorbed : (absorb s p e r).status = r.status := by
    cases e with
    | carriage => cases h : r.status <;> simp [absorb, h]
    | feed => exact absurd rfl hf
    | amplifier => exact absurd rfl ha
    | _ => rfl
  unfold allocAfter
  split
  · rw [recompute_status, absorbed]
  · exact absorbed

theorem recompute_carried (s : State) (p : Position) {r : AllocRec} {side : Side} (h : r.status = .active side) :
    (recompute s p r).carried = r.carried := by
  simp only [recompute, h]

/-- An ACTIVE record takes its path's carried set with an event CARRIAGE, and keeps what it has with any other but FEED and
AMPLIFIER (R96). -/
theorem allocAfter_carried (s : State) (p : Position) {e : AllocEvent} (hf : e ≠ .feed) (ha : e ≠ .amplifier)
    {r : AllocRec} {side : Side} (h : r.status = .active side) : (allocAfter s p e r).carried =
      if e = .carriage then (s.carriage.get ⟨p.ring, side⟩).carriedSet else r.carried := by
  have absorbed : (absorb s p e r).carried =
      if e = .carriage then (s.carriage.get ⟨p.ring, side⟩).carriedSet else r.carried := by
    cases e with
    | carriage => simp [absorb, h]
    | feed => exact absurd rfl hf
    | amplifier => exact absurd rfl ha
    | _ => simp [absorb]
  have status : (absorb s p e r).status = .active side := by
    cases e with
    | carriage => simp [absorb, h]
    | feed => exact absurd rfl hf
    | amplifier => exact absurd rfl ha
    | _ => exact h
  unfold allocAfter
  split
  · rw [recompute_carried s p status, absorbed]
  · exact absorbed

/-! ### The planner's event (R83, R87) -/

theorem plannerEvent_carriage (path : SpanPort) (cause : CarriageCause) (joined : List UnitNo) (s : State) (q : SpanPort) :
    (plannerEvent path cause joined s).1.carriage.get q =
      if q = path then plan s path cause (s.carriage.get path) else s.carriage.get q := by
  simp only [plannerEvent, State.postAll_carriage, State.setCarriage_carriage, PerSpan.get_set]

theorem carriageNotes_eq (path : SpanPort) (cause : CarriageCause) (old new : CarriageRec) :
    carriageNotes path cause old new = shedReports path (carriageCause cause) old new := by
  have lacks (ws : List Wanted) (w : Wanted) :
      (!namesCarrier ws w.carrier) = ws.all (decide <| ·.carrier ≠ w.carrier) := by
    simp [namesCarrier, List.not_any_eq_all_not]
  simp only [carriageNotes, shedReports, lacks]
  refine congrArg₂ (· ++ ·) rfl (List.map_congr_left fun w _ => ?_)
  simp only [restoredNote, pathFields]
  cases new.carried.find? (·.1.carrier = w.carrier) <;> rfl

/-- A planner's event posts its shedding reports at its moment. -/
theorem plannerEvent_told {notes : List Note} {u s : State} (h : Told notes u s) (path : SpanPort) (cause : CarriageCause)
    (joined : List UnitNo) : Told (notes ++ shedReports path (carriageCause cause) (s.carriage.get path)
      (plan s path cause (s.carriage.get path))) u (plannerEvent path cause joined s).1 := by
  rw [← carriageNotes_eq]
  refine h.posted (postAll_congr _ ?_)
  have same := setCarriage_sameBut s path (plan s path cause (s.carriage.get path))
  exact ⟨same .clock (by simp), (same .resets (by simp)).1, same .events (by simp)⟩

/-- What a planner's record becomes of a Catalogue change depends on the Catalogue alone. -/
theorem plan_catalogue_congr {s t : State} (h : t.work = s.work) (path : SpanPort) (old : CarriageRec) :
    plan t path .catalogue old = plan s path .catalogue old := by
  simp only [plan, CarriageRec.taking, CarriageRec.formed, State.catalogued, h]

/-- The hand-overs that a Catalogue change gives rise to. -/
def HandOver.ofCatalogue : HandOver → Prop
  | .planner _ cause joined => cause = .catalogue ∧ joined = []
  | .coverage _ => True
  | .alloc _ e => e ≠ .feed ∧ e ≠ .amplifier
  | _ => False

theorem handle_ofCatalogue {h : HandOver} (hk : h.ofCatalogue) (s : State) : ∀ k ∈ (handle h s).2, k.ofCatalogue := by
  cases h with
  | planner path cause joined =>
    obtain ⟨rfl, rfl⟩ := hk
    intro k hk
    simp only [handle, plannerEvent, carriageHands, List.map_nil, List.nil_append] at hk
    split at hk
    · simp at hk
    · obtain ⟨v, -, rfl⟩ := List.mem_map.1 hk
      simp [HandOver.ofCatalogue]
  | coverage ch => simp [handle]
  | alloc p e => simp [handle]
  | _ => exact hk.elim

theorem handle_ofCatalogue_sameBut {h : HandOver} (hk : h.ofCatalogue) (s : State) :
    SameBut [.carriage, .alloc, .voters, .events] s (handle h s).1 := by
  refine (handle_sameBut h s).mono ?_
  cases h <;> simp_all [HandOver.ofCatalogue, HandOver.parts]

theorem handle_ofCatalogue_status {h : HandOver} (hk : h.ofCatalogue) (s : State) (p : Position) :
    (posGet (handle h s).1.alloc p).status = (posGet s.alloc p).status := by
  cases h with
  | alloc q e =>
    rw [handle, allocEvent_alloc]
    split
    next hq => rw [hq, allocAfter_status s q hk.1 hk.2]
    next => rfl
  | planner q cause joined => rw [handle_sameBut (.planner q cause joined) s .alloc (by simp [HandOver.parts])]
  | coverage ch => rw [handle_sameBut (.coverage ch) s .alloc (by simp [HandOver.parts])]
  | _ => exact hk.elim

/-- No planner's event follows from a hand-over. -/
theorem count_planner_follows {hs : List HandOver} (h : ∀ k ∈ hs, k.follows) (path : SpanPort) (cause : CarriageCause)
    (joined : List UnitNo) : hs.count (.planner path cause joined) = 0 :=
  List.count_eq_zero.2 fun hm => h _ hm

theorem handle_ofCatalogue_carriage {h : HandOver} (hk : h.ofCatalogue) {path : SpanPort}
    (hne : h ≠ .planner path .catalogue []) (s : State) : (handle h s).1.carriage.get path = s.carriage.get path := by
  cases h with
  | planner q cause joined =>
    obtain ⟨rfl, rfl⟩ := hk
    exact (plannerEvent_carriage q .catalogue [] s path).trans (if_neg fun hq => hne (by rw [hq]))
  | coverage ch => rw [handle_sameBut (.coverage ch) s .carriage (by simp [HandOver.parts])]
  | alloc p e => rw [handle_sameBut (.alloc p e) s .carriage (by simp [HandOver.parts])]
  | _ => exact hk.elim

/-- An ACTIVE record keeps its carried set or takes its path's, which an event CARRIAGE makes it do. -/
theorem handle_ofCatalogue_carried {h : HandOver} (hk : h.ofCatalogue) {s : State} {p : Position} {side : Side}
    (ha : (posGet s.alloc p).status = .active side) : (posGet (handle h s).1.alloc p).carried =
      if h = .alloc p .carriage then (s.carriage.get ⟨p.ring, side⟩).carriedSet else (posGet s.alloc p).carried := by
  cases h with
  | planner q cause joined =>
    rw [handle_sameBut (.planner q cause joined) s .alloc (by simp [HandOver.parts]), if_neg (by simp)]
  | coverage ch => rw [handle_sameBut (.coverage ch) s .alloc (by simp [HandOver.parts]), if_neg (by simp)]
  | alloc q e =>
    rw [handle, allocEvent_alloc]
    by_cases hq : p = q
    · subst hq
      rw [if_pos rfl, allocAfter_carried s p hk.1 hk.2 ha]
      exact if_congr (by simp) rfl rfl
    · rw [if_neg hq, if_neg (by simp [Ne.symm hq])]
  | _ => exact hk.elim

/-- A path's planner and its units' records while a Catalogue change from `u` is taken: the planner's event is pending, or
it is taken and told, and each ACTIVE unit of the path has the new carried set, or is to be handed it. -/
structure CatalogueTaken (path : SpanPort) (u s : State) (pending : List HandOver) : Prop where
  hands : ∀ h ∈ pending, h.ofCatalogue
  frame : SameBut [.carriage, .alloc, .voters, .events, .choices] u s
  logs : Logs u s
  status : ∀ p, (posGet s.alloc p).status = (posGet u.alloc p).status
  taken : let old := u.carriage.get path
    let new := plan u path .catalogue old
    (pending.count (.planner path .catalogue []) = 1 ∧ s.carriage.get path = old) ∨
    (pending.count (.planner path .catalogue []) = 0 ∧ s.carriage.get path = new ∧
      Told (shedReports path 4 old new) u s ∧
      ∀ v ∈ new.units, (posGet u.alloc ⟨path.ring, v⟩).status = .active path.side →
        (¬∀ e, e ∈ old.carriedSet ↔ e ∈ new.carriedSet) →
        (posGet s.alloc ⟨path.ring, v⟩).carried = new.carriedSet ∨ .alloc ⟨path.ring, v⟩ .carriage ∈ pending)

theorem CatalogueTaken.perm {path : SpanPort} {u s : State} {hs ks : List HandOver} (hp : hs.Perm ks)
    (h : CatalogueTaken path u s hs) : CatalogueTaken path u s ks where
  hands k hk := h.hands k (hp.mem_iff.2 hk)
  frame := h.frame
  logs := h.logs
  status := h.status
  taken := by
    have := h.taken
    simpa only [hp.count_eq, hp.mem_iff] using this

/-- A changed carried set is handed to each unit of the path (R86). -/
theorem mem_carriageHands {path : SpanPort} {old new : CarriageRec} (h : ¬∀ e, e ∈ old.carriedSet ↔ e ∈ new.carriedSet)
    {v : UnitNo} (hv : v ∈ new.units) : .alloc ⟨path.ring, v⟩ .carriage ∈ carriageHands path [] old new := by
  have changed : carriageHands.sameCarried old new = false := by
    refine Bool.eq_false_iff.2 fun hs => h fun e => ?_
    simp only [carriageHands.sameCarried, Bool.and_eq_true, List.all_eq_true, List.contains_iff_mem] at hs
    exact ⟨hs.1 e, hs.2 e⟩
  simp only [carriageHands, changed, Bool.false_eq_true, if_false, List.map_nil, List.nil_append]
  exact List.mem_map_of_mem (List.mem_filter.2 ⟨List.mem_finRange v, by simpa using hv⟩)

theorem CatalogueTaken.step {path : SpanPort} {u s : State} {h : HandOver} {hs : List HandOver}
    (k : CatalogueTaken path u s (h :: hs)) : CatalogueTaken path u (handle h s).1 ((handle h s).2 ++ hs) := by
  have hk := k.hands h (List.mem_cons_self ..)
  have same := handle_ofCatalogue_sameBut hk s
  have none := count_planner_follows (handle_follows h s) path .catalogue []
  refine ⟨fun x hx => ?_, k.frame.trans (same.mono (by simp)), k.logs.trans (handle_logs h s),
    fun p => (handle_ofCatalogue_status hk s p).trans (k.status p), ?_⟩
  · rcases List.mem_append.1 hx with hx | hx
    · exact handle_ofCatalogue hk s x hx
    · exact k.hands x (List.mem_cons_of_mem _ hx)
  intro old new
  rw [List.count_append, none, Nat.zero_add]
  by_cases hp : h = .planner path .catalogue []
  · subst hp
    rcases k.taken with ⟨hc, ho⟩ | ⟨hc, -⟩
    · rw [List.count_cons_self] at hc
      have hnew : plan s path .catalogue (s.carriage.get path) = new := by
        rw [ho]
        exact plan_catalogue_congr (k.frame .work (by simp)) path old
      refine .inr ⟨by omega, ?_, ?_, fun v hv _ hne => .inr (List.mem_append_left _ ?_)⟩
      · rw [← hnew]
        exact (plannerEvent_carriage path .catalogue [] s path).trans (if_pos rfl)
      · have posts := plannerEvent_told (Told.nil k.logs) path .catalogue []
        rw [hnew, ho] at posts
        exact posts
      · have hands : (handle (.planner path .catalogue []) s).2 = carriageHands path [] old new := by
          show carriageHands path [] (s.carriage.get path) (plan s path .catalogue (s.carriage.get path)) = _
          rw [hnew, ho]
        rw [hands]
        exact mem_carriageHands hne hv
    · rw [List.count_cons_self] at hc
      omega
  · rw [handle_ofCatalogue_carriage hk hp, ← List.count_cons_of_ne hp]
    rcases k.taken with ⟨hc, ho⟩ | ⟨hc, hn, ht, hv⟩
    · exact .inl ⟨hc, ho⟩
    · refine .inr ⟨hc, hn, ht.logs (handle_logs h s), fun v hm ha hne => ?_⟩
      rw [handle_ofCatalogue_carried hk ((k.status _).trans ha)]
      split
      next => exact .inl (congrArg CarriageRec.carriedSet hn)
      next hc => exact (hv v hm ha hne).imp_right fun hm =>
          List.mem_append_right _ ((List.mem_cons.1 hm).resolve_left (Ne.symm hc))

theorem CatalogueTaken.settled {x : Handed} (hands : ∀ h ∈ x.2, h.ofCatalogue)
    (hsum : (x.2.map HandOver.weight).sum ≤ settleFuel) {path : SpanPort}
    (once : x.2.count (.planner path .catalogue []) = 1) : CatalogueTaken path x.1 (settled x) [] := by
  refine settled_invariant (I := CatalogueTaken path x.1) (fun _ _ _ hp h => h.perm hp) ?_ ?_ (fun _ _ _ h => h.step) ?_ hsum
  · intro s cs hs h
    have same := setChoices_sameBut s cs
    exact ⟨h.hands, h.frame.trans (same.mono (by simp)),
      h.logs.trans (Logs.of_sameBut same (by simp) (by simp) (by simp)), h.status, h.taken.imp_right fun ⟨hc, hn, ht, hv⟩ =>
        ⟨hc, hn, ht.logs (Logs.of_sameBut same (by simp) (by simp) (by simp)), hv⟩⟩
  · rintro s h hs k rfl
    exact k.hands _ (List.mem_cons_self ..)
  · exact ⟨hands, SameBut.refl _ _, Logs.refl _, fun _ => rfl, .inl ⟨once, rfl⟩⟩

/-! ### The voters concerned (R7, R108) -/

theorem withCandidates_covers (s : State) (ch : ChannelNo) (v : VoterRec) : (withCandidates s ch v).covers = v.covers := by
  have lose (v : VoterRec) : (loseSource s ch v).covers = v.covers := by
    unfold loseSource
    split
    · split <;> rfl
    all_goals rfl
  simp only [withCandidates]
  split
  · split
    · rfl
    · exact lose _
  · rfl

theorem coverageEvent_voters (ch d : ChannelNo) (s : State) : (coverageEvent ch s).voters[d] = if d = ch
    then withCandidates s ch { s.voters[ch] with covers := coverageOf s ch } else s.voters[d] := by
  simp only [coverageEvent, State.setVoter_voters, vector_get_set]

theorem coverageOf_congr {s t : State} (hw : t.work = s.work) (hp : t.plans = s.plans) (ch : ChannelNo) :
    coverageOf t ch = coverageOf s ch := by
  simp only [coverageOf, rescueCarrier, State.carriageList, State.activePlan, hw, hp]

theorem handle_ofCatalogue_voters {h : HandOver} (hk : h.ofCatalogue) {ch : ChannelNo} (hne : h ≠ .coverage ch) (s : State) :
    (handle h s).1.voters[ch] = s.voters[ch] := by
  cases h with
  | planner q cause joined => rw [handle_sameBut (.planner q cause joined) s .voters (by simp [HandOver.parts])]
  | coverage d => exact (coverageEvent_voters d ch s).trans (if_neg fun hd => hne (by rw [hd]))
  | alloc p e => rw [handle_sameBut (.alloc p e) s .voters (by simp [HandOver.parts])]
  | _ => exact hk.elim

/-- A voter that no hand-over concerns stays as it is. -/
theorem settled_voter_kept {x : Handed} {ch : ChannelNo} (hands : ∀ h ∈ x.2, h.ofCatalogue ∧ h ≠ .coverage ch) :
    (settled x).voters[ch] = x.1.voters[ch] := by
  refine settle_induction (fun h => h.ofCatalogue ∧ h ≠ .coverage ch) (fun s t => t.voters[ch] = s.voters[ch])
    (fun _ => rfl) (fun _ _ _ h k => k.trans h) (fun _ _ => rfl) (fun h s k => handle_ofCatalogue_voters k.1 k.2 s) ?_
    settleFuel x.2 x.1 hands
  refine fun h s k h' hm => ⟨handle_ofCatalogue k.1 s h' hm, ?_⟩
  rintro rfl
  exact handle_follows h s _ hm

/-- A voter that is to judge its coverage afresh has done so in the end. -/
theorem settled_covers {x : Handed} (hands : ∀ h ∈ x.2, h.ofCatalogue)
    (hsum : (x.2.map HandOver.weight).sum ≤ settleFuel) {ch : ChannelNo} (hm : .coverage ch ∈ x.2) :
    (settled x).voters[ch].covers = coverageOf x.1 ch := by
  refine settle_reaches HandOver.ofCatalogue (fun s => s.work = x.1.work ∧ s.plans = x.1.plans)
    (fun s => s.voters[ch].covers = coverageOf x.1 ch) (.coverage ch) ?_ (fun _ _ h => h) ?_
    (fun h s k => handle_ofCatalogue k s) ?_ ?_ (fun _ _ h => h) settleFuel x.2 x.1 ⟨rfl, rfl⟩ hands hsum (.inr hm)
  · rintro _ k rfl
    exact k
  · intro h s k ⟨hw, hp⟩
    have same := handle_ofCatalogue_sameBut k s
    exact ⟨(same .work (by simp)).trans hw, (same .plans (by simp)).trans hp⟩
  · intro s ⟨hw, hp⟩
    rw [handle, coverageEvent_voters, if_pos rfl, withCandidates_covers]
    exact coverageOf_congr hw hp ch
  · intro h s k ⟨hw, hp⟩ hc
    by_cases he : h = .coverage ch
    · subst he
      rw [handle, coverageEvent_voters, if_pos rfl, withCandidates_covers]
      exact coverageOf_congr hw hp ch
    · rw [handle_ofCatalogue_voters k he, hc]

/-! ### What a Catalogue change hands on (R7) -/

/-- The hand-overs of a change from `old` to `new` (R7). -/
def catalogueHands (old new : Option Carrier) : List HandOver :=
  cataloguePlanners ++ catalogueVoters old new ++ channelMoves old new

section
variable (old new : Option Carrier)

theorem channelMoves_cases : channelMoves old new = [] ∨ ∃ ch, channelMoves old new = allocEverywhere (.rescue ch) := by
  unfold channelMoves
  split
  · split
    · exact .inl rfl
    · exact .inr ⟨_, rfl⟩
  · exact .inl rfl

theorem mem_catalogueVoters (h : HandOver) : h ∈ catalogueVoters old new ↔ ∃ ch : ChannelNo,
    h = .coverage ch ∧ ((∃ y, old = some y ∧ y.channel = some ch) ∨ ∃ y, new = some y ∧ y.channel = some ch) := by
  simp only [catalogueVoters, List.mem_map, List.mem_filter, List.mem_finRange, true_and, Bool.or_eq_true,
    Option.any_eq_true, decide_eq_true_eq]
  constructor
  · rintro ⟨ch, h, rfl⟩
    exact ⟨ch, rfl, h⟩
  · rintro ⟨ch, rfl, h⟩
    exact ⟨ch, h, rfl⟩

theorem catalogueHands_ofCatalogue : ∀ h ∈ catalogueHands old new, h.ofCatalogue := by
  intro h hm
  rcases List.mem_append.1 hm with hm | hm
  · rcases List.mem_append.1 hm with hm | hm
    · obtain ⟨q, -, rfl⟩ := List.mem_map.1 hm
      exact ⟨rfl, rfl⟩
    · obtain ⟨ch, rfl, -⟩ := (mem_catalogueVoters old new h).1 hm
      trivial
  · rcases channelMoves_cases old new with e | ⟨ch, e⟩
    · simp [e] at hm
    · rw [e] at hm
      obtain ⟨p, -, rfl⟩ := List.mem_map.1 hm
      simp [HandOver.ofCatalogue]

theorem coverage_mem_catalogueHands (ch : ChannelNo) : .coverage ch ∈ catalogueHands old new ↔
    (∃ y, old = some y ∧ y.channel = some ch) ∨ ∃ y, new = some y ∧ y.channel = some ch := by
  have moves : .coverage ch ∉ channelMoves old new := by
    rcases channelMoves_cases old new with e | ⟨d, e⟩ <;> simp [e, allocEverywhere]
  have planners : .coverage ch ∉ cataloguePlanners := by simp [cataloguePlanners]
  simp only [catalogueHands, List.mem_append, planners, moves, false_or, or_false, mem_catalogueVoters,
    HandOver.coverage.injEq]
  constructor
  · rintro ⟨d, rfl, h⟩
    exact h
  · exact fun h => ⟨ch, rfl, h⟩

theorem catalogueHands_once (path : SpanPort) : (catalogueHands old new).count (.planner path .catalogue []) = 1 := by
  have planners : cataloguePlanners.count (.planner path .catalogue []) = 1 := by
    obtain ⟨r, d⟩ := path
    cases r <;> cases d <;> decide
  have voters : (catalogueVoters old new).count (.planner path .catalogue []) = 0 :=
    List.count_eq_zero.2 fun hm => by
      obtain ⟨ch, h, -⟩ := (mem_catalogueVoters old new _).1 hm
      cases h
  have moves : (channelMoves old new).count (.planner path .catalogue []) = 0 := by
    rcases channelMoves_cases old new with e | ⟨d, e⟩ <;> simp [e, allocEverywhere, List.count_eq_zero]
  rw [catalogueHands, List.count_append, List.count_append, planners, voters, moves]

theorem catalogueHands_weight : ((catalogueHands old new).map HandOver.weight).sum ≤ settleFuel := by
  have planners : (cataloguePlanners.map HandOver.weight).sum = 52 := by decide
  have voters : ((catalogueVoters old new).map HandOver.weight).sum ≤ 4 := by
    simp only [catalogueVoters, List.map_map, Function.comp_def, HandOver.weight, List.map_const', List.sum_replicate,
      smul_eq_mul, mul_one]
    exact (List.length_filter_le ..).trans (by simp)
  have moves : ((channelMoves old new).map HandOver.weight).sum ≤ 24 := by
    rcases channelMoves_cases old new with e | ⟨d, e⟩
    · simp [e]
    · rw [e, allocEverywhere_weight]
  simp only [catalogueHands, List.map_append, List.sum_append, settleFuel]
  omega

end

/-! ### CARRIER SET and CARRIER CLEAR, check by check (R4, R5) -/

theorem optOf_numbers {m : Nat} (o : Option (Fin m)) : optOf (identOf m 1) (o.map fun i => i.val + 1) = some o := by
  cases o with
  | none => rfl
  | some i => simp [optOf, identOf_fin]

theorem optOf_eq_none {m : Nat} {o : Option Nat} (h : ∃ n, o = some n ∧ ¬(1 ≤ n ∧ n ≤ m)) :
    optOf (identOf m 1) o = none := by
  obtain ⟨n, rfl, hn⟩ := h
  have : identOf m 1 n = none := identOf_eq_none.2 (by omega)
  simp [optOf, this]

theorem carrierSet_badId {a : CarrierSetArgs} (h : ¬(1 ≤ a.carrier ∧ a.carrier ≤ 24) ∨ ¬(1 ≤ a.lane ∧ a.lane ≤ 4) ∨
    (∃ n, a.channel = some n ∧ ¬(1 ≤ n ∧ n ≤ 4)) ∨ (∃ n, a.programme = some n ∧ ¬(1 ≤ n ∧ n ≤ 4))) (s : State) :
    carrierSet a s = refuse s .badId := by
  unfold carrierSet
  split
  next c channel programme hc hch hpr =>
    have lane : a.lane < 1 ∨ 4 < a.lane := by
      rcases h with h | h | h | h
      · rw [carrierOf_eq_none.2 (by omega)] at hc
        cases hc
      · omega
      · rw [show optOf channelOf a.channel = none from optOf_eq_none h] at hch
        cases hch
      · rw [optOf_eq_none h] at hpr
        cases hpr
    rw [if_pos lane]
  next => rfl

theorem carrierClear_badId {n : Nat} (h : ¬(1 ≤ n ∧ n ≤ 24)) (s : State) : carrierClear n s = refuse s .badId := by
  have : carrierOf n = none := carrierOf_eq_none.2 (by omega)
  simp only [carrierClear, this]

section
variable {s : State} {c : CarrierNo} {a : CarrierSetArgs} {channel : Option ChannelNo} {programme : Option (Fin 4)}

/-- A CARRIER SET that names an identifier in range for each of its fields, of a record not in flight. -/
structure SetsCarrier (s : State) (c : CarrierNo) (a : CarrierSetArgs) (channel : Option ChannelNo)
    (programme : Option (Fin 4)) : Prop where
  carrier : a.carrier = c.val + 1
  lane : 1 ≤ a.lane ∧ a.lane ≤ 4
  channel : a.channel = channel.map fun ch => ch.val + 1
  programme : a.programme = programme.map fun pr => pr.val + 1
  idle : s.writing (.carrier c) = false

/-- The checks from IN_USE on (R4, R5). -/
theorem SetsCarrier.carrierSet_eq (h : SetsCarrier s c a channel programme) : carrierSet a s =
    if (s.work.catalogue[c].any fun x => decide (kindOf a.kind ≠ some x.kind)) && s.planNames c then refuse s .inUse
    else match kindOf a.kind with
      | none => refuse s .badValue
      | some kind =>
        if !(laneAgrees kind a.lane && presenceAgrees kind channel.isSome programme.isSome) then refuse s .badValue
        else if !catalogueOk (s.work.catalogue.set c (some ⟨kind, a.lane, channel, programme⟩)) then refuse s .badValue
        else written (.carrier c) .accepted [] (changeCarrier c (some ⟨kind, a.lane, channel, programme⟩) s) := by
  have lane : ¬(a.lane < 1 ∨ 4 < a.lane) := by
    have := h.lane
    omega
  have hc : carrierOf a.carrier = some c := by rw [h.carrier, carrierOf_succ]
  have hch : optOf channelOf a.channel = some channel := by
    rw [h.channel]
    exact optOf_numbers channel
  have hpr : optOf (identOf 4 1) a.programme = some programme := by rw [h.programme, optOf_numbers]
  simp only [carrierSet, hc, hch, hpr, lane, h.idle, if_false, Bool.false_eq_true] <;> rfl

theorem SetsCarrier.inUse (h : SetsCarrier s c a channel programme)
    (hx : ∃ x, s.work.catalogue[c] = some x ∧ kindOf a.kind ≠ some x.kind) (hn : s.planNames c = true) :
    carrierSet a s = refuse s .inUse := by
  obtain ⟨x, hx, hk⟩ := hx
  rw [h.carrierSet_eq, if_pos]
  simp only [hx, hn, Option.any_some, hk, ne_eq, not_false_eq_true, decide_true, Bool.and_self]

/-- A kind that does not change, or that no plan holds to, passes the check of IN_USE (R5). -/
theorem notInUse (h : ∀ x, s.work.catalogue[c] = some x → kindOf a.kind = some x.kind ∨ s.planNames c = false) :
    ¬((s.work.catalogue[c].any fun x => decide (kindOf a.kind ≠ some x.kind)) && s.planNames c) = true := by
  intro hb
  obtain ⟨ha, hn⟩ := Bool.and_eq_true_iff.1 hb
  obtain ⟨x, hx, hk⟩ := (Option.any_eq_true _ _).1 ha
  rcases h x hx with hx | hx
  · exact of_decide_eq_true hk hx
  · rw [hx] at hn
    cases hn

theorem SetsCarrier.noKind (h : SetsCarrier s c a channel programme) (hk : kindOf a.kind = none)
    (hx : s.work.catalogue[c] = none ∨ s.planNames c = false) : carrierSet a s = refuse s .badValue := by
  rw [h.carrierSet_eq, if_neg (notInUse fun x e => .inr (hx.resolve_left (by simp [e]))), hk]

theorem SetsCarrier.disagrees (h : SetsCarrier s c a channel programme) {kind : CarrierKind} (hk : kindOf a.kind = some kind)
    (hx : ∀ x, s.work.catalogue[c] = some x → x.kind = kind ∨ s.planNames c = false)
    (hd : ¬(laneAgrees kind a.lane = true ∧ presenceAgrees kind channel.isSome programme.isSome = true)) :
    carrierSet a s = refuse s .badValue := by
  have hd : (!(laneAgrees kind a.lane && presenceAgrees kind channel.isSome programme.isSome)) = true := by
    rwa [Bool.not_eq_true', ← Bool.not_eq_true, Bool.and_eq_true]
  rw [h.carrierSet_eq, if_neg (notInUse fun x e => (hx x e).imp_left fun hx => by rw [hk, hx]), hk]
  exact if_pos hd

theorem SetsCarrier.breaks (h : SetsCarrier s c a channel programme) {kind : CarrierKind} (hk : kindOf a.kind = some kind)
    (hx : ∀ x, s.work.catalogue[c] = some x → x.kind = kind ∨ s.planNames c = false)
    (hb : catalogueOk (s.work.catalogue.set c (some ⟨kind, a.lane, channel, programme⟩)) = false) :
    carrierSet a s = refuse s .badValue := by
  rw [h.carrierSet_eq, if_neg (notInUse fun x e => (hx x e).imp_left fun hx => by rw [hk, hx]), hk]
  simp only [hb, Bool.not_false, if_true, ite_self]

theorem SetsCarrier.passes (h : SetsCarrier s c a channel programme) {kind : CarrierKind} (hk : kindOf a.kind = some kind)
    (hx : ∀ x, s.work.catalogue[c] = some x → x.kind = kind ∨ s.planNames c = false)
    (hl : laneAgrees kind a.lane = true) (hp : presenceAgrees kind channel.isSome programme.isSome = true)
    (hok : catalogueOk (s.work.catalogue.set c (some ⟨kind, a.lane, channel, programme⟩)) = true) :
    carrierSet a s = written (.carrier c) .accepted [] (changeCarrier c (some ⟨kind, a.lane, channel, programme⟩) s) := by
  rw [h.carrierSet_eq, if_neg (notInUse fun x e => (hx x e).imp_left fun hx => by rw [hk, hx]), hk]
  simp only [hl, hp, hok, Bool.and_self, Bool.not_true, Bool.false_eq_true, if_false]

end

/-- Kind, lane, channel and programme agree (R1). -/
theorem agrees_iff (kind : CarrierKind) (lane : Nat) (h : 1 ≤ lane) (channel : Option ChannelNo) (programme : Option (Fin 4)) :
    (laneAgrees kind lane = true ∧ presenceAgrees kind channel.isSome programme.isSome = true) ↔ match kind with
      | .mobile => lane ≤ 2 ∧ channel = none ∧ programme = none
      | .broadcast => lane = 3 ∧ channel = none ∧ programme ≠ none
      | .rescue => lane = 4 ∧ channel ≠ none ∧ programme = none := by
  have two : lane = 1 ∨ lane = 2 ↔ lane ≤ 2 := by omega
  cases kind <;> cases channel <;> cases programme <;> simp [laneAgrees, presenceAgrees, two]

end Sys2Proof.Machine
end

section
open Sys2Proof Sys2Proof.Machine

/-- Settles O23: the checks in their order, and of a change each planner's event, each carried set and each voter's coverage
taken in whatever order (`CatalogueTaken`, `settled_covers`). -/
theorem carrierSetAndClear : Obligations.CarrierSetAndClear := by
  refine ⟨fun s port tag => ⟨fun a h hb => exec_ready rfl h rfl (by simp) (carrierSet_badId hb _),
    fun n h hn => exec_ready rfl h rfl (by simp) (carrierClear_badId hn _)⟩, ?_⟩
  intro s port tag c hf w reached concerns changed
  have idle : w.writing (.carrier c) = false := by
    rw [watchFrame_writing]
    exact writing_eq_false hf
  have names : w.planNames c = s.planNames c := watchFrame_planNames port s c
  have work : w.work = s.work := watchFrame_work port s
  have sets {a : CarrierSetArgs} {channel : Option ChannelNo} {programme : Option (Fin 4)} (hc : a.carrier = c.val + 1)
      (h1 : 1 ≤ a.lane) (h4 : a.lane ≤ 4) (hch : a.channel = channel.map fun ch => ch.val + 1)
      (hpr : a.programme = programme.map fun pr => pr.val + 1) : SetsCarrier w c a channel programme :=
    ⟨hc, ⟨h1, h4⟩, hch, hpr, idle⟩
  have reaches (x : Option Carrier) (kind : Byte) :
      let u := (w.setCatalogue (s.work.catalogue.set c x)).withHeld port (.carrier c) ⟨kind, tag, .accepted, []⟩
      changed x u (settled (u, catalogueHands s.work.catalogue[c] x)) := by
    intro u
    have carriage : u.carriage = s.carriage := watchFrame_carriage port s
    have alloc : u.alloc = s.alloc := watchFrame_alloc port s
    have voters : u.voters = s.voters := watchFrame_voters port s
    have hands := catalogueHands_ofCatalogue s.work.catalogue[c] x
    have weight := catalogueHands_weight s.work.catalogue[c] x
    have taken (path : SpanPort) := CatalogueTaken.settled (x := (u, catalogueHands s.work.catalogue[c] x)) hands weight
      (catalogueHands_once s.work.catalogue[c] x path)
    have frame := (taken ⟨.n, .a⟩).frame
    refine ⟨frame, fun path => ?_, fun ch => ⟨fun hch => ?_, fun hold hnew => ?_⟩⟩
    · obtain ⟨hc, hn, ht, hv⟩ := (taken path).taken.resolve_left fun h => by simp at h
      rw [hn, plan_catalogue_congr (frame .work (by simp)), carriage]
      rw [carriage] at ht hv
      refine ⟨rfl, ht.tells, fun v hm ha hne => ?_⟩
      rw [← alloc] at ha
      exact (hv v hm ha hne).resolve_right (by simp)
    · have covers := settled_covers (x := (u, catalogueHands s.work.catalogue[c] x)) hands weight
        ((coverage_mem_catalogueHands s.work.catalogue[c] x ch).2 hch)
      rw [covers, coverageOf_congr (frame .work (by simp)) (frame .plans (by simp))]
    · rw [← voters]
      refine settled_voter_kept fun h hm => ⟨hands h hm, ?_⟩
      rintro rfl
      exact ((coverage_mem_catalogueHands s.work.catalogue[c] x ch).1 hm).elim hold hnew
  refine ⟨?_, ?_, ?_⟩
  · intro a channel programme h hc h1 h4 hch hpr refused
    have hset := sets hc h1 h4 hch hpr
    have refuses {e : Answer} (he : carrierSet a w = refuse w e) : refused e := exec_ready rfl h rfl (by simp) he
    refine ⟨fun hk => ⟨fun hx hn => ?_, fun hx => ?_⟩, ?_⟩
    · obtain ⟨x, hx⟩ := Option.ne_none_iff_exists'.1 hx
      exact refuses (hset.inUse ⟨x, by rw [work, hx], by simp [hk]⟩ (names.trans hn))
    · exact refuses (hset.noKind hk (by rwa [names, work]))
    · intro kind hk hx agrees
      refine ⟨fun hd => refuses (hset.disagrees hk (by rwa [names, work]) fun hl => hd ?_), fun _ hb => ?_⟩
      · exact (agrees_iff kind a.lane h1 channel programme).1 hl
      · exact refuses (hset.breaks hk (by rwa [names, work]) (by rwa [work]))
  · intro a kind channel programme h hc h1 h4 hch hpr hk
    have hset := sets hc h1 h4 hch hpr
    refine ⟨fun ⟨x, hx, hne⟩ hn => ?_, fun hx hl hp hok => ?_⟩
    · exact exec_ready rfl h rfl (by simp)
        (hset.inUse ⟨x, by rw [work, hx], by simp [hk, Ne.symm hne]⟩ (names.trans hn))
    · refine ⟨_, exec_held rfl h rfl (by simp) (hset.passes hk (by rwa [names, work]) hl hp (by rwa [work])), ?_⟩
      have := reaches (some ⟨kind, a.lane, channel, programme⟩) 0x15
      simp only [changeCarrier, work]
      exact this
  · intro h
    have clear : carrierClear (c.val + 1) w = if s.planNames c then refuse w .inUse
        else if s.work.catalogue[c].isNone then done .accepted [] (w, [])
        else written (.carrier c) .accepted [] (changeCarrier c none w) := by
      simp only [carrierClear, carrierOf_succ, idle, names, work, Bool.false_eq_true, if_false]
    refine ⟨fun hn => ?_, fun hn hx => ?_, fun hn hx => ?_⟩
    · exact exec_ready rfl h rfl (by simp) (clear.trans (if_pos hn))
    · refine exec_ready rfl h rfl (by simp) (clear.trans ?_)
      rw [hn, hx]
      rfl
    · have held : carrierClear (c.val + 1) w = written (.carrier c) .accepted [] (changeCarrier c none w) := by
        rw [clear, hn, if_neg Bool.false_ne_true, if_neg (by simpa using hx)]
      refine ⟨_, exec_held rfl h rfl (by simp) held, ?_⟩
      have := reaches none 0x16
      simp only [changeCarrier, work]
      exact this

end

section
/-! SUPPORT. A ring topology record formed afresh, and what follows at the planners, the allocation records and the voters of
the ring, taken in any order. -/

namespace Sys2Proof.Machine

open Sys2Proof

/-! ### A recomputed allocation record (R92 to R103) -/

/-- A carrier of the carried set is a candidate where the gate and its rescue channel let it be (R92). -/
def admitted (r : AllocRec) (w : Wanted) : Bool :=
  (r.classAt w.kind = 0 || r.gate) && (w.kind != .rescue || w.channel.any fun ch => r.rescue[ch])

theorem classOf_eq_classAt (r : AllocRec) (kind : CarrierKind) : classOf kind r.announced = r.classAt kind := by
  cases kind <;> rfl

/-- An excluded rescue carrier is IDLE, since its class opens the gate to it; any other is gated (R92). -/
theorem exclusion_eq (r : AllocRec) (w : Wanted) : exclusion r.gate r.rescue r.announced w =
    if admitted r w then none else some (if w.kind = .rescue then .idle else .gate) := by
  obtain ⟨c, kind, channel, level⟩ := w
  cases kind with
  | rescue =>
    cases channel with
    | none => simp [exclusion, classOf, admitted, AllocRec.classAt]
    | some ch => cases hr : r.rescue[ch] <;> simp_all [exclusion, classOf, admitted, AllocRec.classAt]
  | mobile => cases hg : r.gate <;> simp [exclusion, classOf, admitted, AllocRec.classAt, hg]
  | broadcast => cases hg : r.gate <;> cases ha : r.announced <;> simp [exclusion, classOf, admitted, AllocRec.classAt, hg, ha]

theorem candOf_eq (trim : Int) (r : AllocRec) (w : Wanted) : candOf trim r.announced w =
    ⟨w.carrier, w.kind, r.classAt w.kind, max (-300) (min 370 (w.level + trim)),
      floorIn (r.classAt w.kind) (max (-300) (min 370 (w.level + trim)))⟩ := by
  simp only [candOf, lowered, floorIn, classOf_eq_classAt, backoffLimit_eq, clamp_eq (-300) 370 _ (by decide)]

/-- The excluded carriers with their reasons are those not admitted. -/
theorem excluded_eq (r : AllocRec) (ws : List Wanted) :
    (ws.filterMap fun w => (exclusion r.gate r.rescue r.announced w).map fun x => (w.carrier, x)) =
      (ws.filter (!admitted r ·)).map fun w => (w.carrier, if w.kind = .rescue then .idle else .gate) := by
  induction ws with
  | nil => rfl
  | cons w ws ih =>
    rw [List.filterMap_cons, List.filter_cons, exclusion_eq]
    cases admitted r w <;> simp [ih]

theorem recompute_margin (s : State) (p : Position) (r : AllocRec) :
    (recompute s p r).margin = marginInForce r.override (s.unit p) := by
  unfold recompute
  split <;> rfl

theorem recompute_budget (s : State) (p : Position) (r : AllocRec) :
    (recompute s p r).budget = lin ((s.unit p).ceiling - marginInForce r.override (s.unit p)) := by
  unfold recompute
  split <;> rfl

theorem recompute_override (s : State) (p : Position) (r : AllocRec) : (recompute s p r).override = r.override := by
  unfold recompute
  split <;> rfl

theorem recompute_barren (s : State) (p : Position) {r : AllocRec} {reason : NoneReason} (h : r.status = .none reason) :
    Barren (recompute s p r) := by
  simp only [recompute, h]
  exact ⟨rfl, rfl, rfl, rfl, rfl, rfl, rfl⟩

/-- What a recomputation leaves is what R92 to R101 make of the record's inputs. -/
theorem recompute_allocated (s : State) (p : Position) (r : AllocRec) : Allocated s p (recompute s p r) := by
  refine ⟨?_, ?_, fun reason hs => ?_, fun side hs => ?_⟩
  · rw [recompute_margin, recompute_override]
    cases r.override <;> rfl
  · rw [recompute_budget, recompute_margin]
  · exact recompute_barren s p ((recompute_status s p r).symm.trans hs)
  · have h := (recompute_status s p r).symm.trans hs
    simp only [recompute, h]
    refine ⟨?_, excluded_eq r _, rfl, rfl, rfl, by simp [linSum, Function.comp_def]⟩
    refine congrArg₂ List.map (funext (candOf_eq _ r)) (List.filter_congr fun w _ => ?_)
    rw [exclusion_eq]
    cases ha : admitted r w <;> exact ha.symm

/-! ### A ring topology record in the old one's place (R52, R53) -/

theorem setSpan_sameBut (s : State) (p : SpanPort) (x : Span) : SameBut [.spans] s (s.setSpan p x) := by
  intro y hy
  cases y <;> simp [Part.same] at hy ⊢

theorem setRing_sameBut (s : State) (r : Ring) (x : RingRec) : SameBut [.rings] s (s.setRing r x) := by
  intro y hy
  cases y <;> simp [Part.same] at hy ⊢

theorem setBeacon_sameBut (s : State) (p : Position) (x : BeaconRec) : SameBut [.beacons] s (s.setBeacon p x) := by
  intro y hy
  cases y <;> simp [Part.same] at hy ⊢

section
variable (r : Ring) (cause : FeedCause) (new : RingRec) (s : State)

theorem markPort_sameBut (old new : RingRec) (s : State) (p : SpanPort) : SameBut [.spans] s (markPort old new s p) := by
  unfold markPort
  split
  · exact SameBut.refl _ s
  · exact setSpan_sameBut s p _

theorem applyRing_sameBut : SameBut [.spans, .rings, .events] s (applyRing r cause new s).1 := by
  have posts := postAll_sameBut (s.setRing r new) ((feedGroups (s.rings.get r).units new.units).map (feedNote r cause))
  refine (((setRing_sameBut s r new).mono (by simp)).trans (posts.mono (by simp))).trans ?_
  exact ((markPort_sameBut _ new _ ⟨r, .a⟩).mono (by simp)).trans ((markPort_sameBut _ new _ ⟨r, .b⟩).mono (by simp))

theorem applyRing_rings : (applyRing r cause new s).1.rings = s.rings.set r new := by
  simp only [applyRing]
  rw [markPort_sameBut _ new _ ⟨r, .b⟩ .rings (by simp), markPort_sameBut _ new _ ⟨r, .a⟩ .rings (by simp)]
  exact State.postAll_rings _ _

theorem applyRing_queues : QueuesAgree (s.postAll ((feedGroups (s.rings.get r).units new.units).map (feedNote r cause)))
    (applyRing r cause new s).1 := by
  have marked := (markPort_sameBut (s.rings.get r) new ((s.setRing r new).postAll
    ((feedGroups (s.rings.get r).units new.units).map (feedNote r cause))) ⟨r, .a⟩).trans
      (markPort_sameBut (s.rings.get r) new _ ⟨r, .b⟩)
  have ring := setRing_sameBut s r new
  have posted : QueuesAgree (s.postAll ((feedGroups (s.rings.get r).units new.units).map (feedNote r cause)))
      ((s.setRing r new).postAll ((feedGroups (s.rings.get r).units new.units).map (feedNote r cause))) :=
    postAll_congr _ ⟨ring .clock (by simp), (ring .resets (by simp)).1, ring .events (by simp)⟩
  exact posted.trans ⟨marked .clock (by simp), (marked .resets (by simp)).1, marked .events (by simp)⟩

end

/-! ### What follows a feed change (R53) -/

/-- The hand-overs that a feed change, or a change of a unit's own figures, gives rise to. -/
def HandOver.ofRing : HandOver → Prop
  | .planner _ cause _ => cause = .feed ∨ cause = .capacity
  | .candidates _ => True
  | .alloc _ e => e = .feed ∨ e = .carriage ∨ e = .model
  | _ => False

theorem handle_ofRing {h : HandOver} (hk : h.ofRing) (s : State) : ∀ k ∈ (handle h s).2, k.ofRing := by
  cases h with
  | planner path cause joined =>
    intro k hm
    simp only [handle, plannerEvent, carriageHands] at hm
    rcases List.mem_append.1 hm with hm | hm
    · obtain ⟨v, -, rfl⟩ := List.mem_map.1 hm
      exact .inl rfl
    · split at hm
      · simp at hm
      · obtain ⟨v, -, rfl⟩ := List.mem_map.1 hm
        exact .inr (.inl rfl)
  | candidates ch => simp [handle]
  | alloc p e => simp [handle]
  | _ => exact hk.elim

/-- The parts that what follows a feed change can change. -/
def ringParts : List Part := [.carriage, .alloc, .voters, .events, .choices]

theorem handle_ofRing_sameBut {h : HandOver} (hk : h.ofRing) (s : State) : SameBut ringParts s (handle h s).1 := by
  refine (handle_sameBut h s).mono ?_
  cases h <;> simp_all [HandOver.ofRing, HandOver.parts, ringParts]

theorem HandOver.ofRing.reach {h : HandOver} (hk : h.ofRing) : ∀ p ∈ h.reach, p ∈ ringParts := by
  cases h <;> simp_all [HandOver.ofRing, HandOver.reach, ringParts]

theorem settled_ofRing {x : Handed} (hands : ∀ h ∈ x.2, h.ofRing) : SameBut ringParts x.1 (settled x) :=
  settled_sameBut ringParts x (by simp [ringParts]) fun h hm => (hands h hm).reach

/-- What one pending hand-over brings about in any state on the way, and no other undoes, holds in the end. -/
theorem settled_ofRing_reaches {x : Handed} (Q : State → Prop) (target : HandOver) (hands : ∀ h ∈ x.2, h.ofRing)
    (hsum : (x.2.map HandOver.weight).sum ≤ settleFuel)
    (brings : ∀ s, SameBut ringParts x.1 s → Q (handle target s).1)
    (keeps : ∀ h s, h.ofRing → SameBut ringParts x.1 s → Q s → Q (handle h s).1)
    (choices : ∀ s cs, Q s → Q { s with choices := cs }) (hq : Q x.1 ∨ target ∈ x.2) : Q (settled x) := by
  refine settle_reaches HandOver.ofRing (SameBut ringParts x.1) Q target ?_
    (fun s cs h => h.trans ((setChoices_sameBut s cs).mono (by simp [ringParts])))
    (fun h s hk hs => hs.trans (handle_ofRing_sameBut hk s)) (fun h s hk => handle_ofRing hk s) brings keeps choices
    settleFuel x.2 x.1 (SameBut.refl _ _) hands hsum hq
  rintro _ k rfl
  exact k

/-- What `applyRing` hands on (R53). -/
def ringHands (s : State) (r : Ring) (old new : RingRec) : List HandOver :=
  pathHands r old new .a ++ pathHands r old new .b ++ unitHands r old new ++
    (if fedChanged old new then votersOfRing s r else [])

theorem applyRing_hands (r : Ring) (cause : FeedCause) (new : RingRec) (s : State) :
    (applyRing r cause new s).2 = ringHands s r (s.rings.get r) new := by
  have voters : ∀ t : State, t.voters = s.voters → votersOfRing t r = votersOfRing s r := fun t h => by
    simp only [votersOfRing, h]
  have same := applyRing_sameBut r cause new s .voters (by simp)
  exact congrArg (_ ++ ·) (if_congr Iff.rfl (voters _ same) rfl)

section
variable (s : State) (r : Ring) (old new : RingRec)

theorem pathHands_cases (side : Side) : pathHands r old new side = [] ∨ ∃ cause joined, (cause = .feed ∨ cause = .capacity) ∧
    joined.length ≤ 12 ∧ pathHands r old new side = [.planner ⟨r, side⟩ cause joined] := by
  unfold pathHands
  split
  · exact .inr ⟨.feed, _, .inl rfl, (List.length_filter_le ..).trans (members_length new side), rfl⟩
  · split
    · exact .inr ⟨.capacity, [], .inr rfl, by simp, rfl⟩
    · exact .inl rfl

theorem ringHands_ofRing : ∀ h ∈ ringHands s r old new, h.ofRing := by
  have path : ∀ side, ∀ h ∈ pathHands r old new side, h.ofRing := by
    intro side h hm
    rcases pathHands_cases r old new side with e | ⟨cause, joined, hc, -, e⟩
    · simp [e] at hm
    · obtain rfl := List.mem_singleton.1 (e ▸ hm)
      exact hc
  intro h hm
  simp only [ringHands, List.mem_append] at hm
  rcases hm with ((hm | hm) | hm) | hm
  · exact path .a h hm
  · exact path .b h hm
  · obtain ⟨u, -, rfl⟩ := List.mem_map.1 hm
    exact .inl rfl
  · split at hm
    · obtain ⟨ch, -, rfl⟩ := List.mem_map.1 hm
      trivial
    · simp at hm

theorem ringHands_weight : ((ringHands s r old new).map HandOver.weight).sum ≤ 66 := by
  have path : ∀ side, ((pathHands r old new side).map HandOver.weight).sum ≤ 25 := by
    intro side
    rcases pathHands_cases r old new side with e | ⟨cause, joined, -, hl, e⟩
    · simp [e]
    · simp only [e, List.map_cons, List.map_nil, List.sum_cons, List.sum_nil, HandOver.weight]
      omega
  have units : ((unitHands r old new).map HandOver.weight).sum ≤ 12 := by
    simp only [unitHands, List.map_map, Function.comp_def, HandOver.weight, List.map_const', List.sum_replicate,
      smul_eq_mul, mul_one]
    exact (List.length_filter_le ..).trans (by simp)
  have voters : ((if fedChanged old new then votersOfRing s r else []).map HandOver.weight).sum ≤ 4 := by
    split
    · simp only [votersOfRing, List.map_map, Function.comp_def, HandOver.weight, List.map_const', List.sum_replicate,
        smul_eq_mul, mul_one]
      exact (List.length_filter_le ..).trans (by simp)
    · simp
  have a := path .a
  have b := path .b
  simp only [ringHands, List.map_append, List.sum_append]
  omega

end

/-! ### RU SET at the Ring Feed Controller (R11, R32, R48) -/

theorem recomputeRing_congr {s t : State} (hnow : t.now = s.now) (hw : t.work = s.work) (hb : t.beacons = s.beacons)
    (hr : t.rings = s.rings) (hs : t.spans = s.spans) (r : Ring) (judged : List UnitNo) :
    recomputeRing t r judged = recomputeRing s r judged := by
  have unit : t.unit = s.unit := funext fun p => by rw [State.unit, State.unit, hw]
  have length : t.ringLength = s.ringLength := funext fun r => by rw [State.ringLength, State.ringLength, unit]
  have present : t.present = s.present := funext fun p => by rw [State.present, State.present, hb]
  have mismatched : t.mismatched = s.mismatched := funext fun p => by rw [State.mismatched, State.mismatched, unit, hb]
  have report : t.report = s.report := funext fun p => funext fun up => by rw [State.report, State.report, hb]
  have passable : t.passable = s.passable := funext fun p => by
    rw [State.passable, State.passable, unit, present, mismatched]
  have hops : formHops t r = formHops s r := by
    simp only [formHops, formHop, terminalHop, innerHop, length, present, report, hs]
  have a (hops : List HopState) : reachableA t r hops = reachableA s r hops := funext fun u => by
    simp only [reachableA, passableAt, length, passable]
  have b (hops : List HopState) : reachableB t r hops = reachableB s r hops := funext fun u => by
    simp only [reachableB, passableAt, length, passable]
  simp only [recomputeRing, judgeUnits, judgeUnit, hops, a, b, hnow, hr, unit, mismatched]

section
variable (p : Position) (new : RuRecord) (w : State)

/-- The tables and the beacon record after a RU SET of a position (R11, R31). -/
def unitRecorded : State := recommission p (w.unit p) new (w.setUnit p new)

/-- A RU SET has changed the verdict on a commissioned position's identity (R32). -/
def judgedAfresh : Bool :=
  new.commissioned && (w.unit p).commissioned && w.mismatched p != (unitRecorded p new w).mismatched p

/-- RU_MISMATCH of a changed verdict (R32). -/
def mismatchNotes : List Note :=
  if judgedAfresh p new w then [mismatchNote p ((unitRecorded p new w).mismatched p)
    ((posGet (unitRecorded p new w).beacons p).identity.getD 0)] else []

/-- A RU SET changes an input of the Ring Feed Controller (R48, R49). -/
def RingConcerned : Prop := (w.unit p).commissioned ≠ new.commissioned ∨
  (new.commissioned = true ∧ (w.unit p).identity ≠ new.identity)

/-- The ring topology record that a RU SET makes. -/
def unitRing : RingRec :=
  recomputeRing (unitRecorded p new w) p.ring (if judgedAfresh p new w then [p.unit] else [])

theorem unitRecorded_sameBut : SameBut [.beacons] (w.setUnit p new) (unitRecorded p new w) := by
  unfold unitRecorded recommission
  split
  · exact setBeacon_sameBut _ p _
  · exact setBeacon_sameBut _ p _
  · exact SameBut.refl _ _

theorem unitRecorded_beacons (q : Position) : posGet (unitRecorded p new w).beacons q =
    if q = p ∧ (w.unit p).commissioned ≠ new.commissioned
    then ⟨if new.commissioned then some .awaited else none, none, none, none, .ok, false⟩ else posGet w.beacons q := by
  unfold unitRecorded recommission
  cases ho : (w.unit p).commissioned <;> cases hn : new.commissioned <;>
    simp [State.setUnit, BeaconRec.awaited, BeaconRec.absent]

/-- The verdict stays where neither the expected identity nor the commissioning changes. -/
theorem judgedAfresh_of_same (h : ¬RingConcerned p new w) : judgedAfresh p new w = false := by
  obtain ⟨hc, hi⟩ := not_or.1 h
  replace hc := not_not.1 hc
  cases hn : new.commissioned with
  | false => simp [judgedAfresh, hn]
  | true =>
    have hi : (w.unit p).identity = new.identity := not_not.1 fun hne => hi ⟨hn, hne⟩
    have unit : (unitRecorded p new w).unit p = new := by
      rw [State.unit, unitRecorded_sameBut p new w .work (by simp)]
      simp [State.setUnit]
    have beacon : posGet (unitRecorded p new w).beacons p = posGet w.beacons p := by
      rw [unitRecorded_beacons, if_neg fun h => h.2 hc]
    simp [judgedAfresh, State.mismatched, unit, beacon, ← hi]

theorem changeUnit_idle (h : ¬RingConcerned p new w) :
    changeUnit p new w = (w.setUnit p new, unitModel p (w.unit p) new) := by
  have judged := judgedAfresh_of_same p new w h
  have recorded : unitRecorded p new w = w.setUnit p new := by
    unfold unitRecorded recommission
    have := not_not.1 (not_or.1 h).1
    cases ho : (w.unit p).commissioned <;> cases hn : new.commissioned <;> simp_all
  have fed : unitFed p (w.unit p) new (w.mismatched p) (unitRecorded p new w) = (w.setUnit p new, []) := by
    unfold judgedAfresh at judged
    unfold RingConcerned at h
    rw [recorded] at judged ⊢
    simp only [unitFed, judged, h, Bool.false_eq_true, if_false]
  exact congrArg (fun x : Handed => (x.1, x.2 ++ unitModel p (w.unit p) new)) fed

/-- A RU SET that concerns the ring: the tables, RU_MISMATCH, and a recomputation with cause MODEL. -/
theorem changeUnit_ring (h : RingConcerned p new w) :
    let v := (unitRecorded p new w).postAll (mismatchNotes p new w)
    changeUnit p new w = ((applyRing p.ring .model (unitRing p new w) v).1,
      ringHands v p.ring (w.rings.get p.ring) (unitRing p new w) ++ unitModel p (w.unit p) new) := by
  intro v
  have posts := postAll_sameBut (unitRecorded p new w) (mismatchNotes p new w)
  have ring (judged : List UnitNo) : recomputeRing v p.ring judged = recomputeRing (unitRecorded p new w) p.ring judged :=
    recomputeRing_congr (posts .clock (by simp)) (posts .work (by simp)) (posts .beacons (by simp))
      (posts .rings (by simp)) (posts .spans (by simp)) p.ring judged
  have fed : unitFed p (w.unit p) new (w.mismatched p) (unitRecorded p new w) =
      applyRing p.ring .model (unitRing p new w) v := by
    rw [unitRing, ← ring]
    have judged : (new.commissioned && (w.unit p).commissioned && w.mismatched p != (unitRecorded p new w).mismatched p) =
        judgedAfresh p new w := rfl
    unfold RingConcerned at h
    simp only [unitFed, feedEvent, v, mismatchNotes, judged, h, if_true]
    cases judgedAfresh p new w <;> rfl
  have rings : v.rings = w.rings :=
    (posts .rings (by simp)).trans (unitRecorded_sameBut p new w .rings (by simp))
  have hands := applyRing_hands p.ring .model (unitRing p new w) v
  rw [rings] at hands
  rw [← hands]
  exact congrArg (fun x : Handed => (x.1, x.2 ++ unitModel p (w.unit p) new)) fed

end

/-! ### What a RU SET makes of the ring and its units -/

theorem decideUnit_ne_mismatch (old : UnitState) (a b lowerB : Bool) : decideUnit old a b lowerB ≠ .mismatch := by
  cases a <;> cases b <;> cases old <;> cases lowerB <;> decide

theorem reachableA_passable {s : State} {r : Ring} {hops : List HopState} {u : UnitNo}
    (h : reachableA s r hops u = true) : s.passable ⟨r, u⟩ = true := by
  simp only [reachableA, Bool.and_eq_true, List.all_eq_true, List.mem_range] at h
  have := (h.2 u.val (Nat.lt_succ_self _)).2
  simpa [passableAt, positionAt, identOf_fin] using this

theorem reachableB_passable {s : State} {r : Ring} {hops : List HopState} {u : UnitNo}
    (h : reachableB s r hops u = true) : s.passable ⟨r, u⟩ = true := by
  simp only [reachableB, Bool.and_eq_true, List.all_eq_true, List.mem_range, Bool.or_eq_true, decide_eq_true_eq] at h
  have := ((h.2 u.val h.1).resolve_left (Nat.lt_irrefl _)).2
  simpa [passableAt, positionAt, identOf_fin] using this

/-- A unit's state after a recomputation: decided afresh, or kept; afresh when its verdict or its commissioning has
changed (R49 to R51). -/
theorem recomputeRing_unit (s : State) (r : Ring) (judged : List UnitNo) (u : UnitNo) : ∃ which lowerB : Bool,
    (u ∈ judged → which = true) ∧
    (((s.rings.get r).units[u] = .absent ↔ (s.unit ⟨r, u⟩).commissioned = true) → which = true) ∧
    (recomputeRing s r judged).units[u] = if which
      then judgeUnit s r (recomputeRing s r judged).reachA (recomputeRing s r judged).reachB u (s.rings.get r).units[u] lowerB
      else (s.rings.get r).units[u] := by
  refine ⟨_, _, fun hj => ?_, fun hr => ?_, judgeUnits_get s r _ _ _ (s.rings.get r).units u⟩
  · simp [hj]
  · have resized : ((List.finRange 12).any fun u => (decide ((s.rings.get r).units[u] = .absent)) ==
        (s.unit ⟨r, u⟩).commissioned) = true :=
      List.any_eq_true.2 ⟨u, List.mem_finRange u, by rw [beq_iff_eq, Bool.eq_iff_iff, decide_eq_true_iff, hr]⟩
    simp only [resized, Bool.true_or]

section
variable (p : Position) (new : RuRecord) (w : State)

theorem unitRecorded_unit (q : Position) : (unitRecorded p new w).unit q = if q = p then new else w.unit q := by
  rw [State.unit, unitRecorded_sameBut p new w .work (by simp)]
  exact posGet_posSet _ _ _ _

theorem unitRecorded_rings : (unitRecorded p new w).rings = w.rings := unitRecorded_sameBut p new w .rings (by simp)

/-- The state of the position itself once the ring has been formed afresh (R31, R32, R50, R51). -/
theorem unitRing_self : ∃ which lowerB : Bool, (judgedAfresh p new w = true → which = true) ∧
    ((w.unitState p = .absent ↔ new.commissioned = true) → which = true) ∧
    (unitRing p new w).units[p.unit] = if which
      then if new.commissioned then if (unitRecorded p new w).mismatched p then .mismatch
          else decideUnit (w.unitState p) (unitRing p new w).reachA[p.unit] (unitRing p new w).reachB[p.unit] lowerB
        else .absent
      else w.unitState p := by
  obtain ⟨which, lowerB, hj, hr, hu⟩ := recomputeRing_unit (unitRecorded p new w) p.ring
    (if judgedAfresh p new w then [p.unit] else []) p.unit
  have unit : (unitRecorded p new w).unit ⟨p.ring, p.unit⟩ = new := by rw [unitRecorded_unit]; exact if_pos rfl
  rw [unit, unitRecorded_rings] at hr
  rw [unitRecorded_rings] at hu
  refine ⟨which, lowerB, fun h => hj (by simp [h]), hr, hu.trans (if_congr Iff.rfl ?_ rfl)⟩
  simp only [judgeUnit, unit] <;> rfl

/-- A position newly commissioned is UNREACHABLE: its first beacon is still awaited (R31, R50). -/
theorem unitRing_commissioned (hn : new.commissioned = true) (ho : (w.unit p).commissioned = false)
    (hs : w.unitState p = .absent) : (unitRing p new w).units[p.unit] = .unreachable := by
  obtain ⟨which, lowerB, -, hr, hu⟩ := unitRing_self p new w
  have beacon : posGet (unitRecorded p new w).beacons p = .awaited := by
    rw [unitRecorded_beacons, if_pos ⟨rfl, by simp [ho, hn]⟩]
    simp [hn, BeaconRec.awaited, BeaconRec.absent]
  have mismatched : (unitRecorded p new w).mismatched p = false := by
    rw [State.mismatched, beacon]
    cases ((unitRecorded p new w).unit p).identity <;> rfl
  have passable : (unitRecorded p new w).passable ⟨p.ring, p.unit⟩ = false := by
    have present : (unitRecorded p new w).present p = false := by rw [State.present, beacon]; rfl
    simp [State.passable, present]
  have a : (unitRing p new w).reachA[p.unit] = false := by
    refine (tabulate_getElem _ p.unit).trans (Bool.eq_false_iff.2 fun h => ?_)
    rw [reachableA_passable h] at passable
    cases passable
  have b : (unitRing p new w).reachB[p.unit] = false := by
    refine (tabulate_getElem _ p.unit).trans (Bool.eq_false_iff.2 fun h => ?_)
    rw [reachableB_passable h] at passable
    cases passable
  rw [hu, hr (by simp [hs, hn]), if_pos rfl, if_pos hn, mismatched, a, b]
  rfl

/-- A position newly decommissioned is ABSENT (R50). -/
theorem unitRing_decommissioned (hn : new.commissioned = false) (hs : w.unitState p ≠ .absent) :
    (unitRing p new w).units[p.unit] = .absent := by
  obtain ⟨which, lowerB, -, hr, hu⟩ := unitRing_self p new w
  rw [hu, hr (by simp [hs, hn]), if_pos rfl, hn, if_neg Bool.false_ne_true]

/-- A commissioned position is in MISMATCH exactly where its verdict is that, if it was so before (R32, R50). -/
theorem unitRing_mismatch (hn : new.commissioned = true) (ho : (w.unit p).commissioned = true)
    (hs : w.unitState p = .mismatch ↔ w.mismatched p = true) :
    (unitRing p new w).units[p.unit] = .mismatch ↔ (unitRecorded p new w).mismatched p = true := by
  obtain ⟨which, lowerB, hj, -, hu⟩ := unitRing_self p new w
  rw [hu]
  cases which with
  | false =>
    have same : w.mismatched p = (unitRecorded p new w).mismatched p := by
      by_contra hne
      have : judgedAfresh p new w = true := by
        rw [judgedAfresh, hn, ho]
        simpa using hne
      cases hj this
    simp only [Bool.false_eq_true, if_false, ← same, hs]
  | true =>
    rw [if_pos rfl, if_pos hn]
    split
    next hm => simp [hm]
    next hm => simp [hm, decideUnit_ne_mismatch]

end

/-! ### What follows a RU SET (R53, R83, R96, R109) -/

theorem unitModel_ofRing (p : Position) (old new : RuRecord) : ∀ h ∈ unitModel p old new, h.ofRing := by
  unfold unitModel
  split <;> simp [HandOver.ofRing]

theorem unitModel_weight (p : Position) (old new : RuRecord) : ((unitModel p old new).map HandOver.weight).sum ≤ 1 := by
  unfold unitModel
  split <;> simp [HandOver.weight]

section
variable (p : Position) (new : RuRecord) (w : State)

theorem changeUnit_ofRing : ∀ h ∈ (changeUnit p new w).2, h.ofRing := by
  by_cases hc : RingConcerned p new w
  · rw [changeUnit_ring p new w hc]
    intro h hm
    rcases List.mem_append.1 hm with hm | hm
    · exact ringHands_ofRing _ _ _ _ h hm
    · exact unitModel_ofRing _ _ _ h hm
  · rw [changeUnit_idle p new w hc]
    exact unitModel_ofRing _ _ _

theorem changeUnit_weight : ((changeUnit p new w).2.map HandOver.weight).sum ≤ settleFuel := by
  have model := unitModel_weight p (w.unit p) new
  by_cases hc : RingConcerned p new w
  · rw [changeUnit_ring p new w hc]
    have ring := ringHands_weight ((unitRecorded p new w).postAll (mismatchNotes p new w)) p.ring (w.rings.get p.ring)
      (unitRing p new w)
    simp only [List.map_append, List.sum_append, settleFuel]
    omega
  · rw [changeUnit_idle p new w hc]
    simp only [settleFuel]
    omega

theorem changeUnit_sameBut : SameBut [.spans, .beacons, .rings, .events] (w.setUnit p new) (changeUnit p new w).1 := by
  by_cases hc : RingConcerned p new w
  · rw [changeUnit_ring p new w hc]
    have recorded := (unitRecorded_sameBut p new w).mono (more := [.spans, .beacons, .rings, .events]) (by simp)
    have posts := (postAll_sameBut (unitRecorded p new w) (mismatchNotes p new w)).mono
      (more := [.spans, .beacons, .rings, .events]) (by simp)
    exact (recorded.trans posts).trans ((applyRing_sameBut _ _ _ _).mono (by simp))
  · rw [changeUnit_idle p new w hc]
    exact SameBut.refl _ _

theorem changeUnit_beacons (q : Position) : posGet (changeUnit p new w).1.beacons q =
    if q = p ∧ (w.unit p).commissioned ≠ new.commissioned
    then ⟨if new.commissioned then some .awaited else none, none, none, none, .ok, false⟩ else posGet w.beacons q := by
  rw [← unitRecorded_beacons]
  by_cases hc : RingConcerned p new w
  · rw [changeUnit_ring p new w hc, applyRing_sameBut _ _ _ _ .beacons (by simp),
      postAll_sameBut (unitRecorded p new w) _ .beacons (by simp)]
  · rw [changeUnit_idle p new w hc, unitRecorded_beacons, if_neg fun h => hc (.inl h.2)]
    rfl

theorem changeUnit_rings (hc : RingConcerned p new w) :
    (changeUnit p new w).1.rings = w.rings.set p.ring (unitRing p new w) := by
  rw [changeUnit_ring p new w hc, applyRing_rings, postAll_sameBut (unitRecorded p new w) _ .rings (by simp),
    unitRecorded_rings]

theorem pathMarked_congr {s s' t t' : State} (hs : s'.spans = s.spans) (hr : s'.rings = s.rings) (ht : t'.rings = t.rings)
    (q : SpanPort) : pathMarked s' t' q = pathMarked s t q := by
  simp only [pathMarked, fedFrom_eq_members, hs, hr, ht]

theorem changeUnit_spans (q : SpanPort) :
    (changeUnit p new w).1.spans.get q = pathMarked w (changeUnit p new w).1 q := by
  by_cases hc : RingConcerned p new w
  · rw [changeUnit_ring p new w hc]
    refine (applyRing_spans _ _ _ _ q).trans (pathMarked_congr ?_ ?_ rfl q)
    · rw [postAll_sameBut (unitRecorded p new w) _ .spans (by simp), unitRecorded_sameBut p new w .spans (by simp)]
      rfl
    · rw [postAll_sameBut (unitRecorded p new w) _ .rings (by simp), unitRecorded_rings]
  · rw [changeUnit_idle p new w hc]
    exact (pathMarked_of_rings rfl q).symm

/-- RU_MISMATCH and FEED_CHANGE are posted first (R32, R52). -/
theorem changeUnit_queues (hc : RingConcerned p new w) : QueuesAgree (w.postAll (mismatchNotes p new w ++
    (feedGroups (w.rings.get p.ring).units (unitRing p new w).units).map (feedNote p.ring .model)))
    (changeUnit p new w).1 := by
  rw [changeUnit_ring p new w hc]
  have rings : ((unitRecorded p new w).postAll (mismatchNotes p new w)).rings = w.rings := by
    rw [postAll_sameBut (unitRecorded p new w) _ .rings (by simp), unitRecorded_rings]
  have queues := applyRing_queues p.ring .model (unitRing p new w)
    ((unitRecorded p new w).postAll (mismatchNotes p new w))
  rw [rings] at queues
  have recorded := unitRecorded_sameBut p new w
  rw [postAll_append]
  refine (postAll_congr _ (postAll_congr _ ?_)).trans queues
  exact ⟨recorded .clock (by simp), (recorded .resets (by simp)).1, recorded .events (by simp)⟩

end

/-! ### A position off its path (R53, R91, R109) -/

/-- The record of an ABSENT unit: nothing carried, nothing granted. -/
def Vacant (r : AllocRec) : Prop := r.status = .none .absent ∧ Barren r

theorem recompute_vacant (s : State) (p : Position) {r : AllocRec} (h : r.status = .none .absent) :
    Vacant (recompute s p r) :=
  ⟨(recompute_status s p r).trans h, recompute_barren s p h⟩

/-- An event FEED empties the record of an ABSENT unit. -/
theorem allocAfter_feed_vacant {s : State} {p : Position} (h : s.unitState p = .absent) (r : AllocRec) :
    Vacant (allocAfter s p .feed r) := by
  unfold allocAfter
  rw [if_pos (by rfl)]
  exact recompute_vacant s p (by simp [absorb, h, allocStatus])

/-- What follows a feed change leaves the record of an ABSENT unit empty. -/
theorem allocAfter_vacant {s : State} {p : Position} (h : s.unitState p = .absent) {e : AllocEvent}
    (he : e = .feed ∨ e = .carriage ∨ e = .model) {r : AllocRec} (hr : Vacant r) : Vacant (allocAfter s p e r) := by
  rcases he with rfl | rfl | rfl
  · exact allocAfter_feed_vacant h r
  · unfold allocAfter
    rw [if_pos (by rfl)]
    exact recompute_vacant s p (by simp [absorb, hr.1])
  · unfold allocAfter
    rw [if_pos (by rfl)]
    exact recompute_vacant s p hr.1

theorem members_of_absent {s : State} {p : Position} (h : s.unitState p = .absent) (side : Side) :
    p.unit ∉ (s.rings.get p.ring).members side := by
  rw [← fedFrom_eq_members]
  unfold fedFrom
  cases side <;> simp [h]

theorem plan_units {s : State} {path : SpanPort} {cause : CarriageCause} {old : CarriageRec} {v : UnitNo}
    (h : v ∈ (plan s path cause old).units) :
    v ∈ if cause = .feed then (s.rings.get path.ring).members path.side else old.units := by
  have taken : (old.taking s path cause).units =
      if cause = .feed then (s.rings.get path.ring).members path.side else old.units := by
    cases cause <;> rfl
  simp only [plan, CarriageRec.formed] at h
  split at h
  · simp [CarriageRec.start] at h
  · rwa [← taken]

theorem withCandidates_cands (s : State) (ch : ChannelNo) (v : VoterRec) :
    (withCandidates s ch v).cands = candidatesOf s v := by
  have lose (v : VoterRec) : (loseSource s ch v).cands = v.cands := by
    unfold loseSource
    split
    · split <;> rfl
    all_goals rfl
  simp only [withCandidates]
  split
  · split
    · rfl
    · exact lose _
  · rfl

theorem candidatesOf_absent {s : State} {p : Position} (h : s.unitState p = .absent) (v : VoterRec) :
    ∀ c ∈ candidatesOf s v, c.position ≠ p := by
  rintro c hc rfl
  obtain ⟨q, hq, rfl⟩ := List.mem_map.1 hc
  have := (List.mem_filter.1 hq).2
  simp [h, UnitState.side] at this

section
variable {x : Handed} (hands : ∀ h ∈ x.2, h.ofRing) (weight : (x.2.map HandOver.weight).sum ≤ settleFuel)
  {p : Position} (absent : x.1.unitState p = .absent)
include hands weight absent

theorem settled_vacant (hm : .alloc p .feed ∈ x.2) : Vacant (posGet (settled x).alloc p) := by
  have absent' {s : State} (hs : SameBut ringParts x.1 s) : s.unitState p = .absent := by
    rw [State.unitState, hs .rings (by simp [ringParts])]
    exact absent
  refine settled_ofRing_reaches (fun s => Vacant (posGet s.alloc p)) (.alloc p .feed) hands weight (fun s hs => ?_)
    (fun h s hk hs hq => ?_) (fun _ _ h => h) (.inr hm)
  · rw [handle, allocEvent_alloc, if_pos rfl]
    exact allocAfter_feed_vacant (absent' hs) _
  · cases h with
    | alloc q e =>
      rw [handle, allocEvent_alloc]
      split
      next hpq =>
        subst hpq
        exact allocAfter_vacant (absent' hs) hk hq
      next => exact hq
    | planner q cause joined => rwa [handle_sameBut (.planner q cause joined) s .alloc (by simp [HandOver.parts])]
    | candidates ch => rwa [handle_sameBut (.candidates ch) s .alloc (by simp [HandOver.parts])]
    | _ => exact hk.elim

/-- A unit off its path is none of its units once the planner has been told. -/
theorem settled_units {side : Side} {joined : List UnitNo} (hm : .planner ⟨p.ring, side⟩ .feed joined ∈ x.2) :
    p.unit ∉ ((settled x).carriage.get ⟨p.ring, side⟩).units := by
  have off {s : State} (hs : SameBut ringParts x.1 s) : p.unit ∉ (s.rings.get p.ring).members side := by
    rw [hs .rings (by simp [ringParts])]
    exact members_of_absent absent side
  refine settled_ofRing_reaches (fun s => p.unit ∉ (s.carriage.get ⟨p.ring, side⟩).units)
    (.planner ⟨p.ring, side⟩ .feed joined) hands weight (fun s hs hv => ?_) (fun h s hk hs hq => ?_) (fun _ _ h => h)
    (.inr hm)
  · rw [handle, plannerEvent_carriage, if_pos rfl] at hv
    exact off hs (plan_units hv)
  · cases h with
    | planner q cause joined =>
      rw [handle, plannerEvent_carriage]
      split
      next hq' =>
        subst hq'
        intro hv
        have := plan_units hv
        split at this
        · exact off hs this
        · exact hq this
      next => exact hq
    | candidates ch => rwa [handle_sameBut (.candidates ch) s .carriage (by simp [HandOver.parts])]
    | alloc q e => rwa [handle_sameBut (.alloc q e) s .carriage (by simp [HandOver.parts])]
    | _ => exact hk.elim

/-- A unit off its path is no candidate of a voter that has been told (R109). -/
theorem settled_cands {ch : ChannelNo} (hm : .candidates ch ∈ x.2) : ∀ c ∈ (settled x).voters[ch].cands, c.position ≠ p := by
  have voters (d : ChannelNo) (s : State) : (handle (.candidates d) s).1.voters[ch] =
      if ch = d then withCandidates s d s.voters[d] else s.voters[ch] := by
    simp only [handle, candidatesEvent, State.setVoter_voters, vector_get_set]
  have off {s : State} (hs : SameBut ringParts x.1 s) (v : VoterRec) : ∀ c ∈ candidatesOf s v, c.position ≠ p :=
    candidatesOf_absent (by rw [State.unitState, hs .rings (by simp [ringParts])]; exact absent) v
  refine settled_ofRing_reaches (fun s => ∀ c ∈ s.voters[ch].cands, c.position ≠ p) (.candidates ch) hands weight
    (fun s hs => ?_) (fun h s hk hs hq => ?_) (fun _ _ h => h) (.inr hm)
  · rw [voters, if_pos rfl, withCandidates_cands]
    exact off hs _
  · cases h with
    | candidates d =>
      rw [voters]
      split
      · rw [withCandidates_cands]
        exact off hs _
      · exact hq
    | planner q cause joined => rwa [handle_sameBut (.planner q cause joined) s .voters (by simp [HandOver.parts])]
    | alloc q e => rwa [handle_sameBut (.alloc q e) s .voters (by simp [HandOver.parts])]
    | _ => exact hk.elim

end

theorem Allocated.congr {s t : State} (hw : t.work = s.work) {p : Position} {r : AllocRec} (h : Allocated s p r) :
    Allocated t p r := by
  have unit : t.unit p = s.unit p := by rw [State.unit, State.unit, hw]
  have catalogued : t.catalogued = s.catalogued := funext fun es => by rw [State.catalogued, State.catalogued, hw]
  obtain ⟨margin, budget, none, active⟩ := h
  exact ⟨by rwa [unit], by rwa [unit], none, by rwa [unit, catalogued]⟩

theorem allocAfter_allocated (s : State) (p : Position) {e : AllocEvent} (he : e = .feed ∨ e = .carriage ∨ e = .model)
    (r : AllocRec) : Allocated s p (allocAfter s p e r) := by
  unfold allocAfter
  rw [if_pos (by rcases he with rfl | rfl | rfl <;> rfl)]
  exact recompute_allocated s p _

/-- A unit whose own figures have changed has its allocation formed afresh (R11). -/
theorem settled_allocated {x : Handed} (hands : ∀ h ∈ x.2, h.ofRing) (weight : (x.2.map HandOver.weight).sum ≤ settleFuel)
    {p : Position} (hm : .alloc p .model ∈ x.2) : Allocated (settled x) p (posGet (settled x).alloc p) := by
  refine settled_ofRing_reaches (fun s => Allocated s p (posGet s.alloc p)) (.alloc p .model) hands weight (fun s _ => ?_)
    (fun h s hk _ hq => ?_) (fun s cs h => Allocated.congr (s := s) (t := { s with choices := cs }) rfl h) (.inr hm)
  · rw [handle, allocEvent_alloc, if_pos rfl]
    exact (allocAfter_allocated s p (.inr (.inr rfl)) _).congr (allocEvent_sameBut p .model s .work (by simp))
  · have work : (handle h s).1.work = s.work := handle_ofRing_sameBut hk s .work (by simp [ringParts])
    cases h with
    | alloc q e =>
      rw [handle, allocEvent_alloc]
      split
      next hpq =>
        subst hpq
        exact (allocAfter_allocated s p hk _).congr work
      next => exact hq.congr work
    | planner q cause joined =>
      rw [handle_sameBut (.planner q cause joined) s .alloc (by simp [HandOver.parts])]
      exact hq.congr work
    | candidates ch =>
      rw [handle_sameBut (.candidates ch) s .alloc (by simp [HandOver.parts])]
      exact hq.congr work
    | _ => exact hk.elim

/-! ### What is handed on of a position off its path -/

section
variable {s : State} {p : Position} {old new : RingRec}

theorem feed_mem_ringHands (hne : old.units[p.unit] ≠ new.units[p.unit]) (hs : new.units[p.unit].side = none) :
    .alloc p .feed ∈ ringHands s p.ring old new := by
  refine List.mem_append_left _ (List.mem_append_right _ (List.mem_map.2 ⟨p.unit, List.mem_filter.2 ⟨List.mem_finRange _, ?_⟩, rfl⟩))
  simp only [hs, Option.isNone_none, Bool.and_true, bne_iff_ne]
  exact hne

theorem planner_mem_ringHands {side : Side} (ho : old.units[p.unit].side = some side) (hn : new.units[p.unit].side = none) :
    ∃ joined, .planner ⟨p.ring, side⟩ .feed joined ∈ ringHands s p.ring old new := by
  have hne : old.members side ≠ new.members side := by
    intro he
    have hm : p.unit ∈ old.members side := List.mem_filter.2 ⟨List.mem_finRange _, decide_eq_true ho⟩
    rw [he] at hm
    have := of_decide_eq_true (List.mem_filter.1 hm).2
    rw [hn] at this
    cases this
  refine ⟨joinedUnits old new side, List.mem_append_left _ (List.mem_append_left _ ?_)⟩
  have hm : .planner ⟨p.ring, side⟩ .feed (joinedUnits old new side) ∈ pathHands p.ring old new side := by
    rw [pathHands, if_pos hne]
    exact List.mem_singleton_self _
  cases side with
  | a => exact List.mem_append_left _ hm
  | b => exact List.mem_append_right _ hm

theorem candidates_mem_ringHands {side : Side} (ho : old.units[p.unit].side = some side)
    (hn : new.units[p.unit].side = none) {ch : ChannelNo} (hc : s.voters[ch].covers.get p.ring = true) :
    .candidates ch ∈ ringHands s p.ring old new := by
  have changed : fedChanged old new = true :=
    List.any_eq_true.2 ⟨p.unit, List.mem_finRange _, by rw [ho, hn]; rfl⟩
  refine List.mem_append_right _ ?_
  rw [if_pos changed]
  exact List.mem_map_of_mem (List.mem_filter.2 ⟨List.mem_finRange ch, hc⟩)

end

/-! ### One event at one record -/

theorem settled_alloc (s : State) (p : Position) (e : AllocEvent) : settled (s, [.alloc p e]) = allocEvent p e s := by
  have place : nextPlace (([] : List HandOver).length + 1) s.choices = (0, s.choices) := by cases s.choices <;> rfl
  show settle (4095 + 1) [.alloc p e] s = _
  rw [settle, place]
  rfl

theorem allocEvent_model (p : Position) (s : State) : allocEvent p .model s =
    (s.setAlloc p (recompute s p (posGet s.alloc p))).postAll
      (allocNotes p .model (posGet s.alloc p) (recompute s p (posGet s.alloc p))) := rfl

theorem find?_of_nodup {α β : Type} [DecidableEq β] {f : α → β} {xs : List α} (hn : (xs.map f).Nodup) {x : α} (hx : x ∈ xs) :
    xs.find? (f · = f x) = some x := by
  induction xs with
  | nil => cases hx
  | cons y ys ih =>
    rw [List.map_cons, List.nodup_cons] at hn
    rcases List.mem_cons.1 hx with rfl | hx
    · simp
    · have hne : f y ≠ f x := fun he => hn.1 (he ▸ List.mem_map_of_mem hx)
      rw [List.find?_cons_of_neg (by simpa using hne)]
      exact ih hn.2 hx

/-- What an event reports of a record that it leaves ACTIVE (R104). -/
structure AllocReported (p : Position) (cause : Nat) (old new : AllocRec) (notes : List Note) : Prop where
  muted : ∀ c ∈ new.mute, c ∉ old.mute → ∀ d ∈ new.cands, d.carrier = c → (new.cands.map Cand.carrier).Nodup →
    ⟨.carrierMuted, .warning, .carrier c, [.position p, .ident d.cls, .named cause]⟩ ∈ notes
  granted : ∀ c ∈ old.mute, c ∉ new.mute → ∀ g, (c, g) ∈ new.grants → (new.grants.map Prod.fst).Nodup →
    ⟨.carrierUnmuted, .notice, .carrier c, [.position p, .named 0, .quantity g, .named cause]⟩ ∈ notes
  left : ∀ c ∈ old.mute, c ∉ new.mute → (∀ g, (c, g) ∉ new.grants) →
    ⟨.carrierUnmuted, .notice, .carrier c, [.position p, .named 1, .named cause]⟩ ∈ notes
  limited : ∀ d, old.limited = false → new.ending = some (.rescueLimit d) → ⟨.allocationLimited, .alarm, .position p,
    [.named 0, .quantity d, .count (new.cands.filter (·.cls = 0)).length, .named cause]⟩ ∈ notes
  cleared : old.limited = true → new.limited = false →
    ⟨.allocationLimited, .notice, .position p, [.named 1, .named cause]⟩ ∈ notes

theorem limited_iff (r : AllocRec) : r.limited = true ↔ ∃ d, r.ending = some (.rescueLimit d) := by
  unfold AllocRec.limited
  split
  next d h => simp [h]
  next h => simp only [Bool.false_eq_true, false_iff]; rintro ⟨d, hd⟩; exact h d hd

theorem allocNotes_reported (p : Position) (e : AllocEvent) (old : AllocRec) {new : AllocRec} {side : Side}
    (h : new.status = .active side) : AllocReported p (allocCause e) old new (allocNotes p e old new) := by
  have notes : allocNotes p e old new = ((new.mute.filter (· ∉ old.mute)).map (mutedNote p e new))
    ++ ((old.mute.filter (· ∉ new.mute)).map (unmutedNote p e new))
    ++ (match old.limited, new.ending with
        | false, some (.rescueLimit d) =>
          [⟨.allocationLimited, .alarm, .position p,
            [.named 0, .quantity d, .count (new.cands.filter (·.cls = 0)).length, .named (allocCause e)]⟩]
        | true, some (.rescueLimit _) => []
        | true, _ => [⟨.allocationLimited, .notice, .position p, [.named 1, .named (allocCause e)]⟩]
        | false, _ => []) := by
    simp only [allocNotes, h] <;> rfl
  have unmuted {c : CarrierNo} (ho : c ∈ old.mute) (hn : c ∉ new.mute) :
      unmutedNote p e new c ∈ (old.mute.filter (· ∉ new.mute)).map (unmutedNote p e new) :=
    List.mem_map_of_mem (List.mem_filter.2 ⟨ho, by simpa using hn⟩)
  rw [notes]
  refine ⟨fun c hn ho d hd hc hnd => ?_, fun c ho hn g hg hnd => ?_, fun c ho hn hg => ?_, fun d ho hn => ?_, fun ho hn => ?_⟩
  · have found : new.cands.find? (·.carrier = c) = some d := hc ▸ find?_of_nodup hnd hd
    have : mutedNote p e new c = ⟨.carrierMuted, .warning, .carrier c, [.position p, .ident d.cls, .named (allocCause e)]⟩ := by
      simp only [mutedNote, found, Option.map_some, Option.getD_some]
    rw [← this]
    exact List.mem_append_left _ (List.mem_append_left _
      (List.mem_map_of_mem (List.mem_filter.2 ⟨hn, by simpa using ho⟩)))
  · have found : new.grants.find? (·.1 = c) = some (c, g) := find?_of_nodup hnd hg
    have := unmuted ho hn
    simp only [unmutedNote, found] at this
    exact List.mem_append_left _ (List.mem_append_right _ this)
  · have found : new.grants.find? (·.1 = c) = none :=
      List.find?_eq_none.2 fun x hx he => hg x.2 (by rwa [← of_decide_eq_true he])
    have := unmuted ho hn
    simp only [unmutedNote, found] at this
    exact List.mem_append_left _ (List.mem_append_right _ this)
  · rw [ho, hn]
    exact List.mem_append_right _ (List.mem_singleton_self _)
  · refine List.mem_append_right _ ?_
    rw [ho]
    cases hend : new.ending with
    | none => exact List.mem_singleton_self _
    | some x =>
      cases x with
      | rescueLimit d => exact absurd ((limited_iff new).2 ⟨d, hend⟩) (by simp [hn])
      | _ => exact List.mem_singleton_self _

end Sys2Proof.Machine
end

section
/-! SUPPORT. RU SET: its checks, and the state that it leaves. -/

namespace Sys2Proof.Machine

open Sys2Proof

/-! ### The checks (R10) -/

theorem ruSet_badId {a : RuSetArgs} (h : ∀ p, positionNumber p ≠ a.position) (s : State) : ruSet a s = refuse s .badId := by
  rw [ruSet, positionOf_eq_none.2 h]

/-- The record that a RU SET stores, its ceiling, margin and trim brought into range (R8, R10). -/
def ruRecordOf (a : RuSetArgs) : RuRecord :=
  ⟨a.commissioned, a.identity, max 200 (min 370 a.ceiling), max 0 (min 30 a.margin), max (-60) (min 60 a.trim)⟩

/-- ACCEPTED_CLAMPED where one of the three was out of range. -/
def ruAnswerOf (a : RuSetArgs) : Answer :=
  if (ruRecordOf a).ceiling = a.ceiling ∧ (ruRecordOf a).margin = a.margin ∧ (ruRecordOf a).trim = a.trim then .accepted
  else .acceptedClamped

theorem ruSet_eq {s : State} {a : RuSetArgs} {p : Position} (hp : a.position = positionNumber p)
    (hw : s.writing (.unit p) = false) : ruSet a s =
      if runOk ((s.work.units.get p.ring).set p.unit (ruRecordOf a)) then
        written (.unit p) (ruAnswerOf a) (ruFields p (ruRecordOf a)) (changeUnit p (ruRecordOf a) s)
      else refuse s .badValue := by
  have ceiling : clamp 200 370 a.ceiling = (ruRecordOf a).ceiling := clamp_eq _ _ _ (by decide)
  have margin : clamp 0 30 a.margin = (ruRecordOf a).margin := clamp_eq _ _ _ (by decide)
  have trim : clamp (-60) 60 a.trim = (ruRecordOf a).trim := clamp_eq _ _ _ (by decide)
  have record : (⟨a.commissioned, a.identity, (ruRecordOf a).ceiling, (ruRecordOf a).margin, (ruRecordOf a).trim⟩ :
      RuRecord) = ruRecordOf a := rfl
  have answer : clampAnswer ((ruRecordOf a).ceiling != a.ceiling || (ruRecordOf a).margin != a.margin ||
      (ruRecordOf a).trim != a.trim) = ruAnswerOf a := by
    unfold clampAnswer ruAnswerOf
    by_cases hc : (ruRecordOf a).ceiling = a.ceiling ∧ (ruRecordOf a).margin = a.margin ∧ (ruRecordOf a).trim = a.trim
    · simp [hc.1, hc.2.1, hc.2.2]
    · rw [if_neg hc, if_pos]
      simp only [bne_iff_ne, Bool.or_eq_true, ne_eq]
      tauto
  simp only [ruSet, hp, positionOf_positionNumber, hw, Bool.false_eq_true, if_false, ceiling, margin, trim, record, answer]
  cases runOk ((s.work.units.get p.ring).set p.unit (ruRecordOf a)) <;> rfl

/-! ### The state it leaves (R11) -/

section
variable (p : Position) (new : RuRecord) (port : MgmtPort) (reply : Reply) (w : State)

/-- An accepted RU SET, its reply HELD, with what it hands on. -/
def unitHanded : Handed := ((changeUnit p new w).1.withHeld port (.unit p) reply, (changeUnit p new w).2)

/-- The state after an accepted RU SET, all that it hands on taken. -/
def unitSet : State := settled (unitHanded p new port reply w)

theorem unitSet_settled :
    SameBut ringParts ((changeUnit p new w).1.withHeld port (.unit p) reply) (unitSet p new port reply w) :=
  settled_ofRing (x := unitHanded p new port reply w) (changeUnit_ofRing p new w)

theorem unitSet_frame : SameBut [.spans, .beacons, .rings, .carriage, .alloc, .voters, .events, .choices]
    ((w.setUnit p new).withHeld port (.unit p) reply) (unitSet p new port reply w) :=
  ((withHeld_congr (changeUnit_sameBut p new w) port (.unit p) reply).mono (by simp)).trans
    ((unitSet_settled p new port reply w).mono (by simp [ringParts]))

theorem unitSet_beacons (q : Position) : posGet (unitSet p new port reply w).beacons q =
    if q = p ∧ (w.unit p).commissioned ≠ new.commissioned
    then ⟨if new.commissioned then some .awaited else none, none, none, none, .ok, false⟩ else posGet w.beacons q := by
  rw [unitSet_settled p new port reply w .beacons (by simp [ringParts])]
  exact changeUnit_beacons p new w q

theorem unitSet_rings_eq : (unitSet p new port reply w).rings = (changeUnit p new w).1.rings :=
  unitSet_settled p new port reply w .rings (by simp [ringParts])

theorem unitSet_rings (hc : RingConcerned p new w) :
    (unitSet p new port reply w).rings = w.rings.set p.ring (unitRing p new w) :=
  (unitSet_rings_eq p new port reply w).trans (changeUnit_rings p new w hc)

theorem unitSet_unitState (hc : RingConcerned p new w) :
    (unitSet p new port reply w).unitState p = (unitRing p new w).units[p.unit] := by
  rw [State.unitState, unitSet_rings p new port reply w hc, PerRing.get_set, if_pos rfl]

theorem unitSet_spans (q : SpanPort) :
    (unitSet p new port reply w).spans.get q = pathMarked w (unitSet p new port reply w) q := by
  rw [unitSet_settled p new port reply w .spans (by simp [ringParts])]
  exact (changeUnit_spans p new w q).trans (pathMarked_congr rfl rfl (unitSet_rings_eq p new port reply w).symm q)

theorem unitSet_posts (hc : RingConcerned p new w) : Posts (mismatchNotes p new w ++
    (feedGroups (w.rings.get p.ring).units (unitRing p new w).units).map (feedNote p.ring .model))
    w (unitSet p new port reply w) := by
  refine Posts.of_logs (changeUnit_queues p new w hc) (Logs.trans ?_ (settled_logs _))
  exact Logs.of_sameBut (withHeld_sameBut _ port (.unit p) reply) (by simp) (by simp) (by simp)

theorem unitSet_idle (hc : ¬RingConcerned p new w) (hm : unitModel p (w.unit p) new = []) :
    unitSet p new port reply w = (w.setUnit p new).withHeld port (.unit p) reply := by
  rw [unitSet, unitHanded, changeUnit_idle p new w hc, hm, settled_nil]

theorem unitSet_model (hc : ¬RingConcerned p new w) (hm : unitModel p (w.unit p) new = [.alloc p .model]) :
    unitSet p new port reply w = allocEvent p .model ((w.setUnit p new).withHeld port (.unit p) reply) := by
  rw [unitSet, unitHanded, changeUnit_idle p new w hc, hm, settled_alloc]

/-- A position newly decommissioned is off its path and no candidate, and its record is empty. -/
theorem unitSet_absent (hn : new.commissioned = false) (ho : (w.unit p).commissioned = true)
    (hs : w.unitState p ≠ .absent) : (unitSet p new port reply w).unitState p = .absent ∧
      Vacant (posGet (unitSet p new port reply w).alloc p) ∧
      ∀ side, (w.unitState p).side = some side →
        p.unit ∉ ((unitSet p new port reply w).carriage.get ⟨p.ring, side⟩).units ∧
        ∀ ch : ChannelNo, w.voters[ch].covers.get p.ring = true →
          ∀ c ∈ (unitSet p new port reply w).voters[ch].cands, c.position ≠ p := by
  have hc : RingConcerned p new w := .inl (by simp [hn, ho])
  have state : (unitRing p new w).units[p.unit] = .absent := unitRing_decommissioned p new w hn hs
  have none : (unitRing p new w).units[p.unit].side = none := by rw [state]; rfl
  have absent : ((changeUnit p new w).1.withHeld port (.unit p) reply).unitState p = .absent :=
    (congrArg (fun r : PerRing RingRec => (r.get p.ring).units[p.unit]) (changeUnit_rings p new w hc)).trans
      (by simp only [PerRing.get_set, if_true, state])
  have hands := changeUnit_ofRing p new w
  have weight := changeUnit_weight p new w
  have mem {h : HandOver} (hm : h ∈ ringHands ((unitRecorded p new w).postAll (mismatchNotes p new w)) p.ring
      (w.rings.get p.ring) (unitRing p new w)) : h ∈ (changeUnit p new w).2 := by
    rw [changeUnit_ring p new w hc]
    exact List.mem_append_left _ hm
  refine ⟨(unitSet_unitState p new port reply w hc).trans state, ?_, fun side hside => ⟨?_, fun ch hch => ?_⟩⟩
  · refine settled_vacant (x := unitHanded p new port reply w) hands weight absent (mem (feed_mem_ringHands ?_ none))
    rw [state]
    exact hs
  · obtain ⟨joined, hm⟩ := planner_mem_ringHands
      (s := (unitRecorded p new w).postAll (mismatchNotes p new w)) hside none
    exact settled_units (x := unitHanded p new port reply w) hands weight absent (mem hm)
  · refine settled_cands (x := unitHanded p new port reply w) hands weight absent (mem (candidates_mem_ringHands hside none ?_))
    rw [postAll_sameBut (unitRecorded p new w) _ .voters (by simp), unitRecorded_sameBut p new w .voters (by simp)]
    exact hch

theorem unitSet_allocated (hm : unitModel p (w.unit p) new = [.alloc p .model]) :
    Allocated (unitSet p new port reply w) p (posGet (unitSet p new port reply w).alloc p) := by
  refine settled_allocated (x := unitHanded p new port reply w) (changeUnit_ofRing p new w) (changeUnit_weight p new w) ?_
  by_cases hc : RingConcerned p new w
  · rw [unitHanded, changeUnit_ring p new w hc, hm]
    exact List.mem_append_right _ (List.mem_singleton_self _)
  · rw [unitHanded, changeUnit_idle p new w hc, hm]
    exact List.mem_singleton_self _

end

theorem watchFrame_mismatched (port : MgmtPort) (s : State) (p : Position) :
    (watchFrame port s).mismatched p = s.mismatched p := by
  simp [State.mismatched]

theorem mismatched_iff (s : State) (p : Position) : s.mismatched p = true ↔
    ∃ i j, (s.unit p).identity = some i ∧ (posGet s.beacons p).identity = some j ∧ i ≠ j := by
  unfold State.mismatched
  cases (s.unit p).identity <;> cases (posGet s.beacons p).identity <;> simp

/-- A recomputation takes no input (R96). -/
theorem recompute_inputs (s : State) (p : Position) (r : AllocRec) : (recompute s p r).status = r.status ∧
    (recompute s p r).announced = r.announced ∧ (recompute s p r).gate = r.gate ∧ (recompute s p r).rescue = r.rescue ∧
    (recompute s p r).override = r.override := by
  unfold recompute
  split <;> exact ⟨rfl, rfl, rfl, rfl, rfl⟩

/-- A record among those posted at the held reply of a request is reported. -/
theorem Reports.of_held {w held t : State} {notes : List Note} (hh : QueuesAgree w held)
    (ht : QueuesAgree (held.postAll notes) t) {n : Note} (hn : n ∈ notes) : Reports n w t :=
  ⟨notes, List.singleton_sublist.2 hn, ((postAll_congr notes hh).trans ht).2.2⟩

/-- Where the commissioning does not change, the beacon record is kept. -/
theorem unitRecorded_of_same {p : Position} {new : RuRecord} {w : State} (h : (w.unit p).commissioned = new.commissioned) :
    unitRecorded p new w = w.setUnit p new := by
  unfold unitRecorded recommission
  cases ho : (w.unit p).commissioned <;> cases hn : new.commissioned <;> simp_all

/-- A changed commissioning has a beacon record of its own, and no verdict to judge (R31). -/
theorem unitRecorded_of_changed {p : Position} {new : RuRecord} {w : State}
    (h : (w.unit p).commissioned ≠ new.commissioned) : unitRecorded p new w = (w.setUnit p new).setBeacon p
      ⟨if new.commissioned then some .awaited else none, none, none, none, .ok, false⟩ := by
  unfold unitRecorded recommission
  cases ho : (w.unit p).commissioned <;> cases hn : new.commissioned <;>
    simp_all [BeaconRec.awaited, BeaconRec.absent]

theorem judgedAfresh_of_changed {p : Position} {new : RuRecord} {w : State}
    (h : (w.unit p).commissioned ≠ new.commissioned) : judgedAfresh p new w = false := by
  unfold judgedAfresh
  cases ho : (w.unit p).commissioned <;> cases hn : new.commissioned <;> simp_all

end Sys2Proof.Machine
end

section
open Sys2Proof Sys2Proof.Machine

/-- Settles O24: the record is replaced, the ring formed afresh where it is concerned (`unitRing`), and what is handed on of
it is taken in whatever order (`unitSet_absent`, `unitSet_allocated`). -/
theorem ruSetReplacesTheRecord : Obligations.RuSetReplacesTheRecord := by
  refine ⟨fun s port tag a h hp => exec_ready rfl h rfl (by simp) (ruSet_badId hp _), ?_⟩
  intro s port tag a p h hp hf w new answer held
  have hw : w.writing (.unit p) = false := by
    rw [watchFrame_writing]
    exact writing_eq_false hf
  have unit : w.unit p = s.unit p := watchFrame_unit port s p
  have state : w.unitState p = s.unitState p := watchFrame_unitState port s p
  have beacons : w.beacons = s.beacons := watchFrame_beacons port s
  have rings : w.rings = s.rings := watchFrame_rings port s
  have mismatched : w.mismatched p = s.mismatched p := watchFrame_mismatched port s p
  refine ⟨fun hrun => ?_, fun hrun => ?_⟩
  · refine exec_ready rfl h rfl (by simp) ((ruSet_eq hp hw).trans (if_neg ?_))
    rw [watchFrame_work]
    exact Bool.eq_false_iff.1 hrun
  have passed : ruSet a w = written (.unit p) answer (ruFields p new) (changeUnit p new w) :=
    (ruSet_eq hp hw).trans (if_pos (by rw [watchFrame_work]; exact hrun))
  let reply : Reply := ⟨0x17, tag, answer, ruFields p new⟩
  refine ⟨unitSet p new port reply w, exec_held rfl h rfl (by simp) passed, unitSet_frame p new port reply w,
    fun q hq => ?_, fun q => ?_, fun ho hn => ?_, fun hs => ?_, fun hs => ⟨fun ho hn => ?_, fun ho hn => ?_⟩, fun hne => ?_,
    fun ho hn => ?_⟩
  · rw [unitSet_beacons, if_neg fun h => hq h.1, beacons]
  · exact (unitSet_spans p new port reply w q).trans (pathMarked_congr (watchFrame_spans port s) rings rfl q)
  · refine unitSet_idle p new port reply w ?_ (if_neg ?_)
    · rintro (hc | ⟨hc, -⟩)
      · exact hc (by rw [unit, ho]; exact hn.symm)
      · cases hn.symm.trans hc
    · rintro ⟨hc, -⟩
      cases hn.symm.trans hc
  · rw [unitSet_beacons, if_neg fun h => h.2 (by rw [unit]; exact hs), beacons]
  · have hc : RingConcerned p new w := .inl (by rw [unit, ho]; exact fun he => by cases he.trans hn)
    have fresh : posGet (unitSet p new port reply w).beacons p =
        ⟨if new.commissioned then some .awaited else none, none, none, none, .ok, false⟩ := by
      rw [unitSet_beacons]
      exact if_pos ⟨rfl, by rw [unit, ho]; exact fun he => by cases he.trans hn⟩
    refine ⟨?_, ?_, ?_⟩
    · rw [unitSet_unitState p new port reply w hc]
      exact unitRing_commissioned p new w hn (unit ▸ ho) (state.trans (hs.2 ho))
    · rw [fresh]
      exact if_pos hn
    · rw [fresh]
  · have hs : w.unitState p ≠ .absent := by
      rw [state, Ne, hs, ho]
      exact Bool.noConfusion
    obtain ⟨absent, vacant, off⟩ := unitSet_absent p new port reply w hn (unit ▸ ho) hs
    refine ⟨absent, ?_, vacant.1, vacant.2, fun side hside => ?_⟩
    · rw [unitSet_beacons, if_pos ⟨rfl, by rw [unit, ho]; exact fun he => by cases he.trans hn⟩]
      exact if_neg fun hc => by cases hn.symm.trans hc
    · have := off side (by rw [state]; exact hside)
      rwa [watchFrame_voters] at this
  · intro u
    have hne : (w.unit p).commissioned ≠ new.commissioned := by rw [unit]; exact hne
    have judged := judgedAfresh_of_changed hne
    have ring : unitRing p new w = recomputeRing u p.ring [] := by
      rw [unitRing, judged, unitRecorded_of_changed hne]
      rfl
    have notes : mismatchNotes p new w = [] := by rw [mismatchNotes, judged]; rfl
    have posts := unitSet_posts p new port reply w (.inl hne)
    rw [notes, List.nil_append] at posts
    have made := unitSet_rings p new port reply w (.inl hne)
    refine ⟨by rw [made, ring, rings], _, ?_, posts⟩
    rw [made, PerRing.get_set, if_pos rfl, ← rings]
    exact feedGroups_reported p.ring .model _ _
  · intro u judged ring old x same
    have recorded : unitRecorded p new w = u := unitRecorded_of_same (by rw [unit, ho]; exact hn.symm)
    have hj : judgedAfresh p new w = judged := by
      have hcomm : (new.commissioned && (w.unit p).commissioned) = true := by rw [unit, ho, Bool.and_true]; exact hn
      rw [judgedAfresh, hcomm, Bool.true_and, recorded, mismatched]
    have hring : unitRing p new w = ring := by rw [unitRing, recorded, hj]
    have uid : (u.unit p).identity = a.identity := by
      rw [← recorded, unitRecorded_unit, if_pos rfl]
    have ubeacons : u.beacons = s.beacons := beacons
    have model : unitModel p (w.unit p) new = if same then [] else [.alloc p .model] := by
      unfold unitModel
      rw [unit]
      by_cases hsame : same
      · rw [if_pos hsame, if_neg]
        rintro ⟨-, h | h | h⟩
        · exact h hsame.1.symm
        · exact h hsame.2.1.symm
        · exact h hsame.2.2.symm
      · rw [if_neg hsame, if_pos]
        refine ⟨hn, ?_⟩
        by_contra hall
        obtain ⟨h1, h2, h3⟩ : (s.unit p).ceiling = new.ceiling ∧ (s.unit p).margin = new.margin ∧
            (s.unit p).trim = new.trim := by tauto
        exact hsame ⟨h1.symm, h2.symm, h3.symm⟩
    have unconcerned (hid : (s.unit p).identity = a.identity) : ¬RingConcerned p new w := by
      rintro (hc | ⟨-, hc⟩)
      · exact hc (by rw [unit, ho]; exact hn.symm)
      · exact hc (by rw [unit]; exact hid)
    refine ⟨fun hid => ?_, fun hsame => ?_, fun hid hsame => ?_, fun hid hsame => ?_⟩
    · have hc : RingConcerned p new w := .inr ⟨hn, by rw [unit]; exact hid⟩
      have made := unitSet_rings p new port reply w hc
      refine ⟨by rw [made, hring, rings], fun hs => ?_,
        (feedGroups (w.rings.get p.ring).units (unitRing p new w).units).map (feedNote p.ring .model), ?_, ?_⟩
      · rw [unitSet_unitState p new port reply w hc]
        refine (unitRing_mismatch p new w hn (unit ▸ ho) (by rw [state, mismatched]; exact hs)).trans ?_
        rw [recorded, mismatched_iff, uid, ubeacons]
      · rw [made, PerRing.get_set, if_pos rfl, ← rings]
        exact feedGroups_reported p.ring .model _ _
      · have posts := unitSet_posts p new port reply w hc
        have notes : mismatchNotes p new w = if judged then [if u.mismatched p
              then ⟨.ruMismatch, .alarm, .position p, [.serial ((posGet s.beacons p).identity.getD 0)]⟩
              else ⟨.ruMismatch, .notice, .position p, [.named 0]⟩] else [] := by
          rw [mismatchNotes, hj, recorded, ubeacons]
          rfl
        rwa [notes] at posts
    · exact unitSet_allocated p new port reply w (model.trans (if_neg hsame))
    · exact unitSet_idle p new port reply w (unconcerned hid) (model.trans (if_pos hsame))
    · have exactly : unitSet p new port reply w = allocEvent p .model held :=
        unitSet_model p new port reply w (unconcerned hid) (model.trans (if_neg hsame))
      have alloc : held.alloc = s.alloc := watchFrame_alloc port s
      have heldOld : posGet held.alloc p = old := by rw [alloc]
      have hx : x = recompute held p old := by
        show posGet (unitSet p new port reply w).alloc p = _
        rw [exactly, allocEvent_alloc, if_pos rfl, heldOld]
        rfl
      have posted : QueuesAgree (held.postAll (allocNotes p .model old x)) (unitSet p new port reply w) := by
        rw [exactly, allocEvent_model, heldOld, ← hx]
        have same := setAlloc_sameBut held p x
        exact postAll_congr _ ⟨same .clock (by simp), (same .resets (by simp)).1, same .events (by simp)⟩
      have clock : QueuesAgree w held := by
        have same := withHeld_sameBut (w.setUnit p new) port (.unit p) reply
        exact ⟨same .clock (by simp), (same .resets (by simp)).1, same .events (by simp)⟩
      have reports {n : Note} (hm : n ∈ allocNotes p .model old x) : Reports n w (unitSet p new port reply w) :=
        Reports.of_held clock posted hm
      obtain ⟨status, announced, gate, rescue, override⟩ := recompute_inputs held p old
      rw [← hx] at status announced gate rescue override
      refine ⟨?_, fun q hq => ?_, status, announced, gate, rescue, override, fun side hside => ?_⟩
      · rw [exactly]
        exact allocEvent_sameBut p .model held
      · rw [exactly, allocEvent_alloc, if_neg hq, alloc]
      · have told := allocNotes_reported p .model old hside
        refine ⟨?_, fun c hm hc d hd hdc hnd => reports (told.muted c hm hc d hd hdc hnd), fun c ho' hc =>
          ⟨fun g hg hnd => reports (told.granted c ho' hc g hg hnd), fun hg => reports (told.left c ho' hc hg)⟩, ?_⟩
        · rw [hx]
          exact recompute_carried held p (status.symm.trans hside)
        · intro limited
          have notLimited {r : AllocRec} (hl : ¬limited r) : r.limited = false :=
            Bool.eq_false_iff.2 fun ht => hl ((limited_iff r).1 ht)
          exact ⟨fun d hl hd => reports (told.limited d (notLimited hl) hd),
            fun hl hx => reports (told.cleared ((limited_iff old).2 hl) (notLimited hx))⟩

end

section
/-! SUPPORT. The break-in queue of an activation that finds it empty: the templates accepted in order, and the settlement of
zones and players (R130 to R135). -/

namespace Sys2Proof.Machine

open Sys2Proof

/-! ### Acceptance into a queue with room (R130, R131) -/

/-- A queue in queue order, of different ids from 1 up and of acceptances up to n. -/
structure InOrder (n : Nat) (q : List BreakIn) : Prop where
  order : q.Pairwise fun x y => y.priority ≤ x.priority
  ids : (q.map BreakIn.id).Nodup
  positive : ∀ r ∈ q, 1 ≤ r.id
  accepted : ∀ r ∈ q, r.acceptance ≤ n

/-- A request as it is accepted stands at the start of its first clip, and has neither player nor zones (R130). -/
def BreakIn.Fresh (r : BreakIn) : Prop :=
  r.clipIndex = 1 ∧ r.page = 0 ∧ r.state = .waiting ∧ r.player = none

theorem freshId_spec {q : List BreakIn} (h : q.length < 255) : 1 ≤ freshId q ∧ (∀ r ∈ q, r.id ≠ freshId q) ∧
    ∀ n, 1 ≤ n → n < freshId q → ∃ r ∈ q, r.id = n := by
  have free : ∃ n ∈ List.range 256, (1 ≤ n && !q.any (·.id = n)) = true := by
    by_contra hn
    have all : ∀ n, n + 1 < 256 → n + 1 ∈ q.map BreakIn.id := by
      intro n hlt
      have := not_exists.1 hn (n + 1)
      simp only [List.mem_range, hlt, true_and, Bool.and_eq_true, decide_eq_true_eq, Bool.not_eq_true', not_and,
        Bool.not_eq_false, List.any_eq_true] at this
      obtain ⟨r, hr, he⟩ := this (by omega)
      exact List.mem_map.2 ⟨r, hr, he⟩
    have sub : (List.range 255).map (· + 1) ⊆ q.map BreakIn.id := by
      intro m hm
      obtain ⟨n, hn, rfl⟩ := List.mem_map.1 hm
      exact all n (by have := List.mem_range.1 hn; omega)
    have := (List.subperm_of_subset (List.nodup_range.map (add_left_injective 1)) sub).length_le
    simp at this
    omega
  obtain ⟨n, hn⟩ := Option.ne_none_iff_exists'.1 (fun hnone => by
    obtain ⟨m, hm, hp⟩ := free
    exact List.find?_eq_none.1 hnone m hm hp :
      (List.range 256).find? (fun n => 1 ≤ n && !q.any (·.id = n)) ≠ none)
  have found : freshId q = n := by rw [freshId, hn, Option.getD_some]
  obtain ⟨hp, -, lowest⟩ := List.find?_range_eq_some.1 hn
  simp only [Bool.and_eq_true, decide_eq_true_eq, Bool.not_eq_true', List.any_eq_false] at hp lowest
  rw [found]
  refine ⟨hp.1, hp.2, fun m h1 hm => ?_⟩
  have := lowest m hm
  simp only [Bool.and_eq_false_iff, decide_eq_false_iff_not, Bool.not_eq_false', List.any_eq_true, decide_eq_true_eq] at this
  exact this.resolve_left (not_not.2 h1)

/-- A request takes its place after those of at least its priority, before the others (R130). -/
theorem insertBreakIn_place (r : BreakIn) {q : List BreakIn} (h : q.Pairwise fun x y => y.priority ≤ x.priority) :
    ∃ before after, q = before ++ after ∧ insertBreakIn r q = before ++ r :: after ∧
      (∀ x ∈ before, r.priority ≤ x.priority) ∧ ∀ x ∈ after, x.priority < r.priority := by
  refine ⟨q.takeWhile (r.priority ≤ ·.priority), q.dropWhile (r.priority ≤ ·.priority),
    List.takeWhile_append_dropWhile.symm, by simp [insertBreakIn], fun x hx => ?_, fun x hx => ?_⟩
  · simpa using List.mem_takeWhile_imp hx
  · have sorted := h.sublist (List.dropWhile_sublist (r.priority ≤ ·.priority))
    have head := List.dropWhile_get_zero_not (r.priority ≤ ·.priority) q
    generalize q.dropWhile (r.priority ≤ ·.priority) = after at hx sorted head
    cases after with
    | nil => cases hx
    | cons y ys =>
      have hy : y.priority < r.priority := by simpa using head (Nat.succ_pos _)
      rcases List.mem_cons.1 hx with rfl | hx
      · exact hy
      · exact ((List.pairwise_cons.1 sorted).1 x hx).trans_lt hy

/-- A plan post as it is accepted, n requests having been accepted before (R130, R132). -/
def planPost (p : PlanNo) (t : Template) (id n : Nat) : BreakIn :=
  ⟨id, .plan, some p, t.zones, t.clips, t.priority, t.repeats, 1, 0, 0, .waiting, none, [], n + 1, 0⟩

theorem acceptBreakIn_room (p : PlanNo) (t : Template) {x : Accepting} (h : x.queue.length < 8) :
    acceptBreakIn .plan (some p) t x =
      ⟨insertBreakIn (planPost p t (freshId x.queue) x.accepted) x.queue, x.accepted + 1, x.notes⟩ := by
  have none : evictedBy x.queue = none := if_pos h
  simp only [acceptBreakIn, none, Option.isSome_none, Bool.false_eq_true, if_false, Option.map_none, Option.toList_none,
    List.append_nil, planPost]

/-- An acceptance into a queue with room evicts none and keeps the queue in order (R130, R131). -/
theorem accepts_room (p : PlanNo) (t : Template) {n : Nat} {q : List BreakIn} (h : q.length < 8) (ho : InOrder n q) :
    let q' := insertBreakIn (planPost p t (freshId q) n) q
    Accepts q (planPost p t (freshId q) n) none q' ∧ InOrder (n + 1) q' ∧ q'.length = q.length + 1 ∧
      ((∀ r ∈ q, r.Fresh) → ∀ r ∈ q', r.Fresh) := by
  intro q'
  obtain ⟨before, after, hq, hq', hb, ha⟩ := insertBreakIn_place (planPost p t (freshId q) n) ho.order
  obtain ⟨one, unused, lowest⟩ := freshId_spec (q := q) (by omega)
  have perm : q'.Perm (planPost p t (freshId q) n :: q) := by
    show (insertBreakIn _ q).Perm _
    have middle : (before ++ planPost p t (freshId q) n :: after).Perm (planPost p t (freshId q) n :: (before ++ after)) :=
      List.perm_middle
    rwa [← hq, ← hq'] at middle
  refine ⟨⟨fun _ => rfl, fun hf => by omega, before, after, ?_, hq', hb, ha, one, ?_, ?_⟩, ⟨?_, ?_, ?_, ?_⟩,
    perm.length_eq, fun hf r hr => ?_⟩
  · simpa using hq
  · rw [← hq]
    exact unused
  · rw [← hq]
    exact lowest
  · show (insertBreakIn _ q).Pairwise _
    rw [hq']
    have sorted := ho.order
    rw [hq, List.pairwise_append] at sorted
    obtain ⟨sb, sa, sba⟩ := sorted
    refine List.pairwise_append.2 ⟨sb, List.pairwise_cons.2 ⟨fun x hx => (ha x hx).le, sa⟩, fun x hx y hy => ?_⟩
    rcases List.mem_cons.1 hy with rfl | hy
    · exact hb x hx
    · exact sba x hx y hy
  · refine (perm.map BreakIn.id).nodup_iff.2 (List.nodup_cons.2 ⟨fun hm => ?_, ho.ids⟩)
    obtain ⟨r, hr, he⟩ := List.mem_map.1 hm
    exact unused r hr he
  · intro r hr
    rcases List.mem_cons.1 (perm.mem_iff.1 hr) with rfl | hr
    · exact one
    · exact ho.positive r hr
  · intro r hr
    rcases List.mem_cons.1 (perm.mem_iff.1 hr) with rfl | hr
    · exact le_rfl
    · exact (ho.accepted r hr).trans (Nat.le_succ n)
  · rcases List.mem_cons.1 (perm.mem_iff.1 hr) with rfl | hr
    · exact ⟨rfl, rfl, rfl, rfl⟩
    · exact hf r hr

theorem clipsReady_iff (s : State) (cs : List ClipNo) :
    clipsReady s cs = true ↔ ∀ c ∈ cs, s.work.clips[c].state = .ready := by
  simp [clipsReady]

/-- Templates that find room for all of them: each whose clips are READY is accepted, each other skipped (R132). -/
theorem postTemplates_posted (s : State) (p : PlanNo) (ts : List Template) (i : Nat) (x : Accepting)
    (ho : InOrder x.accepted x.queue) (hf : ∀ r ∈ x.queue, r.Fresh) (hroom : x.queue.length + ts.length ≤ 8) :
    let y := postTemplates s p i ts x
    InOrder y.accepted y.queue ∧ (∀ r ∈ y.queue, r.Fresh) ∧ y.queue.length ≤ x.queue.length + ts.length ∧
      ∃ skips, y.notes = x.notes ++ skips ∧ skips.length ≤ ts.length ∧
        TemplatesPosted s p y.queue y.accepted i ts x.queue x.accepted skips := by
  induction ts generalizing i x with
  | nil => exact ⟨ho, hf, le_rfl, [], (List.append_nil _).symm, le_rfl, rfl, rfl, rfl⟩
  | cons t ts ih =>
    simp only [List.length_cons] at hroom ⊢
    have room : x.queue.length < 8 := by omega
    have hasroom : hasRoom x.queue t.priority = true := by simp [hasRoom, room]
    unfold postTemplates
    by_cases ready : clipsReady s t.clips = true
    · simp only [ready, hasroom, Bool.not_true, Bool.false_eq_true, if_false]
      rw [acceptBreakIn_room p t room]
      obtain ⟨acc, ho', hlen, hf'⟩ := accepts_room p t room ho
      obtain ⟨io, fr, len, skips, notes, few, posted⟩ := ih (i + 1)
        ⟨insertBreakIn (planPost p t (freshId x.queue) x.accepted) x.queue, x.accepted + 1, x.notes⟩ ho' (hf' hf)
        (by simp only [hlen]; omega)
      refine ⟨io, fr, len.trans (by simp only [hlen]; omega), skips, notes, few.trans (Nat.le_succ _), ?_⟩
      rw [clipsReady_iff] at ready
      refine ⟨fun hn => absurd ready hn, fun _ hn => absurd (.inl room) hn, fun _ _ => ?_⟩
      exact ⟨_, none, _, skips, acc, rfl, posted⟩
    · simp only [ready, Bool.not_false, if_true]
      obtain ⟨io, fr, len, skips, notes, few, posted⟩ := ih (i + 1) ⟨x.queue, x.accepted, x.notes ++ [skippedNote p i 0]⟩
        ho hf (by simp only; omega)
      refine ⟨io, fr, len.trans (by simp only; omega), skippedNote p i 0 :: skips, ?_, Nat.succ_le_succ few, ?_⟩
      · rw [notes, List.append_assoc]
        rfl
      · rw [clipsReady_iff] at ready
        exact ⟨fun _ => ⟨skips, rfl, posted⟩, fun h => absurd h ready, fun h => absurd h ready⟩

end Sys2Proof.Machine
end

section
/-! SUPPORT. The settlement of a queue whose requests have just been accepted, none of them with a player (R134, R135). -/

namespace Sys2Proof.Machine

open Sys2Proof

/-- A list of different keys, cut down to the keys of some of its members, is those members. -/
theorem filter_mem_map_of_sublist {α β : Type} [DecidableEq β] {f : α → β} {s l : List α} (h : s.Sublist l)
    (hn : (l.map f).Nodup) : l.filter (fun x => decide (f x ∈ s.map f)) = s := by
  induction h with
  | slnil => rfl
  | @cons s l a h ih =>
    obtain ⟨ha, hn⟩ := List.nodup_cons.1 hn
    rw [List.filter_cons_of_neg (by
      simpa using fun x hx (he : f x = f a) => ha (he ▸ List.mem_map_of_mem (h.subset hx)))]
    exact ih hn
  | @cons_cons s l a h ih =>
    obtain ⟨ha, hn⟩ := List.nodup_cons.1 hn
    rw [List.filter_cons_of_pos (by simp)]
    refine congrArg (a :: ·) (Eq.trans (List.filter_congr fun x hx => ?_) (ih hn))
    have : f x ≠ f a := fun he => ha (he ▸ List.mem_map_of_mem hx)
    simp [this]

/-- Where no request has a player and the free ones are enough, they are granted in order to the eligible (R134). -/
theorem grantPlayers_none (eligible : List Nat) (l : List BreakIn) (free : List PlayerNo) (hn : ∀ r ∈ l, r.player = none)
    (hlen : (l.filter fun r => decide (r.id ∈ eligible)).length ≤ free.length) :
    let g := grantPlayers eligible l free
    g.map (fun r => { r with player := none }) = l ∧ (∀ r ∈ g, r.player.isSome = decide (r.id ∈ eligible)) ∧
      g.filterMap BreakIn.player <+: free := by
  induction l generalizing free with
  | nil => exact ⟨rfl, by simp [grantPlayers], List.nil_prefix⟩
  | cons r l ih =>
    have hr : r.player = none := hn r (List.mem_cons_self ..)
    have hl : ∀ x ∈ l, x.player = none := fun x hx => hn x (List.mem_cons_of_mem _ hx)
    have back : ({ r with player := none } : BreakIn) = r := by rw [← hr]
    by_cases he : r.id ∈ eligible
    · rw [List.filter_cons_of_pos (by simpa using he), List.length_cons] at hlen
      cases free with
      | nil => simp at hlen
      | cons p free =>
        obtain ⟨same, eligibles, pre⟩ := ih free hl (Nat.le_of_succ_le_succ hlen)
        have step : grantPlayers eligible (r :: l) (p :: free) =
            { r with player := some p } :: grantPlayers eligible l free := by
          simp only [grantPlayers, if_pos he, hr]
        rw [step]
        refine ⟨?_, fun x hx => ?_, (List.prefix_cons_inj p).2 pre⟩
        · rw [List.map_cons, same]
          exact congrArg (· :: l) back
        · rcases List.mem_cons.1 hx with rfl | hx
          · exact (decide_eq_true he).symm
          · exact eligibles x hx
    · rw [List.filter_cons_of_neg (by simpa using he)] at hlen
      obtain ⟨same, eligibles, pre⟩ := ih free hl hlen
      have step : grantPlayers eligible (r :: l) free = { r with player := none } :: grantPlayers eligible l free := by
        simp only [grantPlayers, if_neg he]
      rw [step]
      refine ⟨?_, fun x hx => ?_, pre⟩
      · rw [List.map_cons, same]
        exact congrArg (· :: l) back
      · rcases List.mem_cons.1 hx with rfl | hx
        · exact (decide_eq_false he).symm
        · exact eligibles x hx

/-- What a request is without what the settlement gives it. -/
def BreakIn.unsettled (r : BreakIn) : BreakIn := { r with owned := [], player := none, state := .waiting, pageSince := 0 }

/-- The state that R134 gives by player and zones. -/
theorem settleState_waiting (now : Nat) {r : BreakIn} (h : r.state = .waiting) : settleState now r = { r with
    state := if r.player.isSome then .onAir else if r.owned.isEmpty then .waiting else .held
    pageSince := if r.player.isSome then now else r.pageSince } := by
  cases hp : r.player.isSome <;> cases ho : r.owned.isEmpty <;> simp [settleState, h, hp, ho]

/-- The settled queue as made of fresh requests: what they were accepted as is kept, and each has its zones, and its state by
its player. -/
structure FreshlySettled (now : Nat) (q q' : List BreakIn) : Prop where
  kept : q'.map BreakIn.unsettled = q.map BreakIn.unsettled
  owned : ∀ r ∈ q', r.owned = ownedZones q r
  eligible : ∀ r ∈ q', r.player.isSome = decide (r.id ∈ eligibleIds q)
  states : ∀ r ∈ q', r.state = if r.player.isSome then .onAir else if r.owned.isEmpty then .waiting else .held
  begins : ∀ r ∈ q', r.player.isSome = true → r.pageSince = now
  lowest : q'.filterMap BreakIn.player <+: List.finRange 4

section
variable {now n : Nat} {q q' : List BreakIn}

/-- The eligible requests are the first four that own a zone (R134). -/
theorem eligible_take (hn : (q.map BreakIn.id).Nodup) : (q.filter fun r => decide (r.id ∈ eligibleIds q)) =
    (q.filter fun r => !(ownedZones q r).isEmpty).take 4 :=
  filter_mem_map_of_sublist ((List.take_sublist ..).trans List.filter_sublist) hn

theorem settleQueue_fresh (now : Nat) (ho : InOrder n q) (hf : ∀ r ∈ q, r.Fresh) :
    FreshlySettled now q (settleQueue now q) := by
  have free : freePlayers q = List.finRange 4 := by
    refine List.filter_eq_self.2 fun p _ => ?_
    simp only [Bool.not_eq_true', List.any_eq_false, Bool.and_eq_true, decide_eq_true_eq, not_and]
    intro r hr hp
    rw [(hf r hr).2.2.2] at hp
    cases hp
  have few : ((q.map fun r => { r with owned := ownedZones q r }).filter fun r => decide (r.id ∈ eligibleIds q)).length ≤
      (freePlayers q).length := by
    rw [List.filter_map, List.length_map, free, List.length_finRange]
    refine le_trans (le_of_eq (congrArg List.length (eligible_take ho.ids))) ?_
    exact List.length_take_le ..
  obtain ⟨same, eligible, pre⟩ := grantPlayers_none (eligibleIds q) (q.map fun r => { r with owned := ownedZones q r })
    (freePlayers q) (by simpa using fun r hr => (hf r hr).2.2.2) few
  have granted : settleQueue now q = (grantPlayers (eligibleIds q) (q.map fun r => { r with owned := ownedZones q r })
    (freePlayers q)).map (settleState now) := rfl
  generalize grantPlayers (eligibleIds q) (q.map fun r => { r with owned := ownedZones q r }) (freePlayers q) = g
    at same eligible pre granted
  have from_ : ∀ r ∈ g, ∃ o ∈ q, ({ r with player := none } : BreakIn) = { o with owned := ownedZones q o } := by
    intro r hr
    have := List.mem_map_of_mem (f := fun r : BreakIn => { r with player := none }) hr
    rw [same] at this
    obtain ⟨o, ho, he⟩ := List.mem_map.1 this
    exact ⟨o, ho, he.symm⟩
  have settles : ∀ r ∈ g, settleState now r = { r with
      state := if r.player.isSome then .onAir else if r.owned.isEmpty then .waiting else .held
      pageSince := if r.player.isSome then now else r.pageSince } ∧ r.owned = ownedZones q r := by
    intro r hr
    obtain ⟨o, ho, he⟩ := from_ r hr
    have state : r.state = o.state := (congrArg BreakIn.state he :)
    have owned : r.owned = ownedZones q o := (congrArg BreakIn.owned he :)
    have id : r.id = o.id := (congrArg BreakIn.id he :)
    have zones : r.zones = o.zones := (congrArg BreakIn.zones he :)
    exact ⟨settleState_waiting now (state.trans (hf o ho).2.2.1), by rw [owned, ownedZones, ownedZones, id, zones]⟩
  rw [granted]
  refine ⟨?_, fun r hr => ?_, fun r hr => ?_, fun r hr => ?_, fun r hr hs => ?_, ?_⟩
  · calc (g.map (settleState now)).map BreakIn.unsettled
        = (g.map fun r => { r with player := none }).map BreakIn.unsettled := by
          rw [List.map_map, List.map_map]
          refine List.map_congr_left fun r hr => ?_
          rw [Function.comp_apply, (settles r hr).1]
          rfl
      _ = q.map BreakIn.unsettled := by
          rw [same, List.map_map]
          rfl
  · obtain ⟨o, ho, rfl⟩ := List.mem_map.1 hr
    obtain ⟨he, owned⟩ := settles o ho
    rw [he]
    exact owned
  · obtain ⟨o, ho, rfl⟩ := List.mem_map.1 hr
    rw [(settles o ho).1]
    exact eligible o ho
  · obtain ⟨o, ho, rfl⟩ := List.mem_map.1 hr
    rw [(settles o ho).1]
  · obtain ⟨o, ho, rfl⟩ := List.mem_map.1 hr
    rw [(settles o ho).1] at hs ⊢
    exact if_pos hs
  · have players : g.filterMap (BreakIn.player ∘ settleState now) = g.filterMap BreakIn.player :=
      List.filterMap_congr fun r hr => by rw [Function.comp_apply, (settles r hr).1]
    rw [List.filterMap_map, players, ← free]
    exact pre

/-- The owner of a zone, by its id, is that of the queue as accepted. -/
theorem FreshlySettled.owner (h : FreshlySettled now q q') (z : ZoneNo) :
    (q'.find? fun r => decide (z ∈ r.zones)).map BreakIn.id = (q.find? fun r => decide (z ∈ r.zones)).map BreakIn.id := by
  have found (l : List BreakIn) : (l.find? fun r => decide (z ∈ r.zones)).map BreakIn.id =
      ((l.map BreakIn.unsettled).find? fun r => decide (z ∈ r.zones)).map BreakIn.id := by
    rw [List.find?_map, Option.map_map]
    rfl
  rw [found q', found q, h.kept]

theorem FreshlySettled.ids (h : FreshlySettled now q q') : q'.map BreakIn.id = q.map BreakIn.id := by
  simpa [Function.comp_def, BreakIn.unsettled] using congrArg (List.map BreakIn.id) h.kept

theorem FreshlySettled.bodies (h : FreshlySettled now q q') : q'.map BreakIn.body = q.map BreakIn.body := by
  have bodies := congrArg (List.map BreakIn.body) h.kept
  rwa [List.map_map, List.map_map] at bodies

/-- A fresh request stands at the start of its first clip (R130). -/
theorem FreshlySettled.starts (h : FreshlySettled now q q') (hf : ∀ r ∈ q, r.Fresh) :
    ∀ r ∈ q', r.clipIndex = 1 ∧ r.page = 0 := by
  intro r hr
  have hm := List.mem_map_of_mem (f := BreakIn.unsettled) hr
  rw [h.kept] at hm
  obtain ⟨o, ho, he⟩ := List.mem_map.1 hm
  have clipIndex : o.clipIndex = r.clipIndex := (congrArg BreakIn.clipIndex he :)
  have page : o.page = r.page := (congrArg BreakIn.page he :)
  exact ⟨clipIndex ▸ (hf o ho).1, page ▸ (hf o ho).2.1⟩

theorem FreshlySettled.onAir (h : FreshlySettled now q q') {r : BreakIn} (hr : r ∈ q') :
    r.state = .onAir ↔ r.player.isSome = true := by
  rw [h.states r hr]
  cases r.player.isSome <;> cases r.owned.isEmpty <;> simp

theorem FreshlySettled.settled (h : FreshlySettled now q q') (ho : InOrder n q) : QueueSettled q' := by
  refine ⟨fun r hr => ?_, ?_, fun r hr => ?_⟩
  · rw [h.owned r hr, ownedZones]
    refine List.filter_congr fun z _ => ?_
    rw [h.owner, zoneOwner]
    cases q.find? fun r => decide (z ∈ r.zones) <;> simp
  · have owns (l : List BreakIn) : (l.filter fun r => !(ownedZones q r).isEmpty).map BreakIn.id =
        ((l.map BreakIn.unsettled).filter fun r => !(ownedZones q r).isEmpty).map BreakIn.id := by
      rw [List.filter_map, List.map_map]
      rfl
    have ids : eligibleIds q = ((q'.filter fun r => !(ownedZones q r).isEmpty).take 4).map BreakIn.id := by
      rw [eligibleIds, List.map_take, List.map_take, owns, owns q', h.kept]
    calc q'.filter (·.player.isSome)
        = q'.filter fun r => decide (r.id ∈ eligibleIds q) := List.filter_congr h.eligible
      _ = (q'.filter fun r => !(ownedZones q r).isEmpty).take 4 := by
          rw [ids]
          exact filter_mem_map_of_sublist ((List.take_sublist ..).trans List.filter_sublist) (h.ids ▸ ho.ids)
      _ = (q'.filter (·.owned ≠ [])).take 4 := by
          refine congrArg (List.take 4) (List.filter_congr fun r hr => ?_)
          rw [h.owned r hr]
          cases ownedZones q r <;> rfl
  · rw [h.states r hr]
    cases r.owned <;> rfl

/-- The settlement of fresh requests is that of R134 and R135 from an empty queue: the lowest players go out in queue
order. -/
theorem FreshlySettled.resettled (h : FreshlySettled now q q') (ho : InOrder n q) (hf : ∀ r ∈ q, r.Fresh) :
    QueueResettled now [] q' := by
  refine ⟨h.settled ho, ?_, ?_, by simp, fun r hr _ => ?_⟩
  · have distinct := List.pairwise_filterMap.1 ((List.nodup_finRange 4).sublist h.lowest.sublist)
    refine distinct.imp fun {x y} hxy hs he => ?_
    obtain ⟨p, hp⟩ := Option.isSome_iff_exists.1 hs
    exact hxy p hp p (he ▸ hp) rfl
  · intro before r after p hq hp _ n hn
    obtain ⟨more, hm⟩ := h.lowest
    rw [hq, List.filterMap_append, List.filterMap_cons_some hp, List.append_assoc, List.cons_append] at hm
    have sorted := List.pairwise_lt_finRange 4
    have mem := List.mem_finRange n
    rw [← hm] at sorted mem
    rcases List.mem_append.1 mem with mem | mem
    · obtain ⟨x, hx, he⟩ := List.mem_filterMap.1 mem
      exact ⟨x, hq ▸ List.mem_append_left _ hx, he, .inl hx⟩
    · rcases List.mem_cons.1 mem with rfl | mem
      · exact absurd hn (lt_irrefl _)
      · exact absurd ((List.pairwise_cons.1 (List.pairwise_append.1 sorted).2.1).1 n mem) (not_lt.2 hn.le)
  · obtain ⟨clipIndex, page⟩ := h.starts hf r hr
    exact ⟨clipIndex, page, fun hs => h.begins r hr ((h.onAir hr).1 hs)⟩

/-- Four requests at most are ON_AIR. -/
theorem FreshlySettled.few (h : FreshlySettled now q q') : (q'.filter fun r => decide (r.state = .onAir)).length ≤ 4 := by
  have players : (q'.filter fun r => decide (r.state = .onAir)) = q'.filter fun r => r.player.isSome :=
    List.filter_congr fun r hr => by simp [h.onAir hr]
  have counted : (q'.filterMap BreakIn.player).length = (q'.filter fun r => r.player.isSome).length :=
    List.length_filterMap_eq_countP.trans List.countP_eq_length_filter
  rw [players, ← counted]
  exact h.lowest.length_le.trans (by simp)

end

end Sys2Proof.Machine
end

section
/-! SUPPORT. The activation of plan 0 at an empty break-in unit (R132, R143): the unit that it leaves and the records that it
posts, as the tables alone give them. -/

namespace Sys2Proof.Machine

open Sys2Proof

/-- The templates of the active plan taken into an empty queue (R132). -/
def firstPosts (s : State) : Accepting := postTemplates s s.plans.active 0 s.activePlan.templates ⟨[], 0, []⟩

/-- The break-in unit that an activation leaves of an empty one. -/
def firstBreakIn (s : State) : BreakInUnit :=
  let q := settleQueue s.now (firstPosts s).queue
  { queue := q
    accepted := (firstPosts s).accepted
    carrying := zonesCarrying q
    heard := forPositions fun p => (s.zoneOfPosition p).bind fun z => (carriedBy q z).map BreakIn.acceptance }

/-- The records of an activation at an empty unit, in their order (R141). -/
def firstNotes (s : State) : List Note :=
  (firstPosts s).notes ++ ((firstBreakIn s).queue.filter fun r => decide (r.state = .onAir)).map airReport

/-- The positions whose class an activation at an empty unit changes (R138). -/
def firstClasses (s : State) : List Position := carryingChanged s BreakInUnit.start.carrying (firstBreakIn s).carrying

theorem postTemplates_congr {s t : State} (h : t.work = s.work) (p : PlanNo) (ts : List Template) (i : Nat) (x : Accepting) :
    postTemplates t p i ts x = postTemplates s p i ts x := by
  induction ts generalizing i x with
  | nil => rfl
  | cons a ts ih =>
    have ready : clipsReady t a.clips = clipsReady s a.clips := by rw [clipsReady, clipsReady, h]
    rw [postTemplates, postTemplates, ready, ih]

section
variable {s t : State}

theorem activePlan_congr (hw : t.work = s.work) (hp : t.plans = s.plans) : t.activePlan = s.activePlan := by
  simp only [State.activePlan, hw, hp]

theorem firstPosts_congr (hw : t.work = s.work) (hp : t.plans = s.plans) : firstPosts t = firstPosts s := by
  rw [firstPosts, postTemplates_congr hw, activePlan_congr hw hp, hp, firstPosts]

theorem firstBreakIn_congr (hn : t.now = s.now) (hw : t.work = s.work) (hp : t.plans = s.plans) :
    firstBreakIn t = firstBreakIn s := by
  simp only [firstBreakIn, firstPosts_congr hw hp, hn, State.zoneOfPosition, hw]

theorem firstNotes_congr (hn : t.now = s.now) (hw : t.work = s.work) (hp : t.plans = s.plans) : firstNotes t = firstNotes s := by
  rw [firstNotes, firstNotes, firstPosts_congr hw hp, firstBreakIn_congr hn hw hp]

theorem activationEvent_start (h : s.breakin = .start) : activationEvent s =
    ({ s with breakin := firstBreakIn s },
      .posts (firstNotes s) :: classHands { s with breakin := firstBreakIn s } (firstClasses s)) := by
  have unheard : ∀ z, carriedBy BreakInUnit.start.queue z = none := fun z => rfl
  have posted : postTemplates s s.plans.active 0 s.activePlan.templates
      ⟨s.breakin.queue.filter (·.source ≠ .plan), s.breakin.accepted,
        (s.breakin.queue.filter (·.source = .plan)).map (doneNote · (some .plan))⟩ = firstPosts s := by
    rw [h]
    rfl
  have air : (newOnAir BreakInUnit.start.queue (firstBreakIn s).queue).map onAirNote =
      ((firstBreakIn s).queue.filter fun r => decide (r.state = .onAir)).map airReport := by
    rw [newOnAir, funext onAirNote_eq]
    refine congrArg (List.map airReport) (List.filter_congr fun r _ => ?_)
    simp [BreakInUnit.start]
  have heard : heardAfter { s with breakin := { s.breakin with accepted := (firstPosts s).accepted } }
      (settleQueue s.now (firstPosts s).queue) = (firstBreakIn s).heard := by
    have first : (firstBreakIn s).heard = forPositions fun p => (s.zoneOfPosition p).bind fun z =>
      (carriedBy (firstBreakIn s).queue z).map BreakIn.acceptance := rfl
    rw [heardAfter, h, first]
    refine congrArg forPositions (funext fun p => ?_)
    show (s.zoneOfPosition p).bind _ = (s.zoneOfPosition p).bind _
    refine congrArg _ (funext fun z => ?_)
    simp only [unheard, Option.any_none, Bool.false_eq_true, if_false]
    show (carriedBy (firstBreakIn s).queue z).bind _ = _
    cases carriedBy (firstBreakIn s).queue z <;> rfl
  simp only [activationEvent]
  rw [posted]
  simp only [settlement]
  rw [heard, h]
  refine Prod.ext rfl ?_
  simp only [firstNotes, ← air]
  rfl

end

/-- What plan 0 makes of the empty unit and tells (R130 to R137), where its templates are few. -/
structure FirstSettled (s : State) : Prop where
  queue : QueueResettled s.now [] (firstBreakIn s).queue
  carrying : ∀ z : ZoneNo, (firstBreakIn s).carrying[z] =
    ((firstBreakIn s).queue.find? (z ∈ ·.zones)).any (·.state = .onAir)
  heard : ∀ p, posGet (firstBreakIn s).heard p = (s.zoneOfPosition p).bind fun z =>
    (((firstBreakIn s).queue.find? (z ∈ ·.zones)).filter (·.state = .onAir)).map BreakIn.acceptance
  posted : (firstBreakIn s).queue.map BreakIn.body = (firstPosts s).queue.map BreakIn.body ∧
    TemplatesPosted s s.plans.active (firstPosts s).queue (firstBreakIn s).accepted 0 s.activePlan.templates [] 0
      (firstPosts s).notes
  few : (firstNotes s).length ≤ 8

theorem firstSettled {s : State} (h : s.activePlan.templates.length ≤ 4) : FirstSettled s := by
  obtain ⟨ho, hf, -, skips, hn, few, posted⟩ := postTemplates_posted s s.plans.active s.activePlan.templates 0 ⟨[], 0, []⟩
    ⟨List.Pairwise.nil, List.nodup_nil, by simp, by simp⟩ (by simp) (by simp only [List.length_nil]; omega)
  have settled : FreshlySettled s.now (firstPosts s).queue (firstBreakIn s).queue := settleQueue_fresh s.now ho hf
  have notes : (firstPosts s).notes = skips := hn
  refine ⟨settled.resettled ho hf, fun z => ?_, fun p => ?_, ⟨settled.bodies, notes ▸ posted⟩, ?_⟩
  · exact (tabulate_getElem _ z).trans (Option.isSome_filter ..)
  · exact posGet_forPositions _ p
  · have air := settled.few
    rw [firstNotes, List.length_append, List.length_map, notes]
    omega

/-- What an activation at an empty unit hands on (R138, R141). -/
theorem activation_weight {s : State} (h : s.activePlan.templates.length ≤ 4) (hb : s.breakin = .start) :
    ((activationEvent s).2.map HandOver.weight).sum ≤ 84 := by
  have classes := classHands_weight (s := { s with breakin := firstBreakIn s }) (firstClasses s)
    ((List.length_filter_le ..).trans allPositions_length.le)
  have notes := (firstSettled h).few
  rw [activationEvent_start hb, List.map_cons, List.sum_cons]
  simp only [HandOver.weight]
  omega

end Sys2Proof.Machine
end

section
/-! SUPPORT. The settings that a reset loads, at a reference unit that it keeps (R64, R73, R76). -/

namespace Sys2Proof.Machine

open Sys2Proof

/-- A reference record under a changed preference, and the records posted (R73). -/
def preferenceOutcome (set : RefSettings) (now : Nat) (r : RefRec) : RefRec × List Note :=
  match r.state with
  | .warmup | .free | .holdover => (r, [])
  | .acquire | .track =>
    if r.selected = some (Source.other set.preferred) ∧ (r.monitor set.preferred).present then
      let new := r.toMeasuring .acquire set.preferred now
      (new, [refNote r.state new .preference])
    else (r, [])
  | .locked => (r.judgeSwitch set.preferred now, [])

/-- A reference record as its holdover expires: FREE, and passed on to ACQUIRE where a source is PRESENT (R67, R71). -/
def expiryOutcome (set : RefSettings) (now : Nat) (r : RefRec) : RefRec × List Note :=
  let freed := r.plain .free
  let ended := refNote r.state freed .holdoverExpired
  match selectSource set.preferred freed with
  | some src => (freed.toMeasuring .acquire src now, [ended, refNote .free (freed.toMeasuring .acquire src now) .sourceAppeared])
  | none => (freed, [ended])

/-- A reference record under a changed holdover limit, and the records posted (R64). -/
def limitOutcome (set : RefSettings) (now : Nat) (r : RefRec) : RefRec × List Note :=
  match r.state, r.heldSince with
  | .holdover, some since => if set.limit * hourMs ≤ now - since then expiryOutcome set now r else (r, [])
  | _, _ => (r, [])

/-- A reference record under changed settings, and the records posted. -/
def settingsOutcome (preferred limit : Bool) (set : RefSettings) (now : Nat) (r : RefRec) : RefRec × List Note :=
  let x := if preferred then preferenceOutcome set now r else (r, [])
  let y := if limit then limitOutcome set now x.1 else (x.1, [])
  (y.1, x.2 ++ y.2)

/-- An event at the reference unit replaces its record and posts some others, and hands on the gate, to every allocation
record where the gate is another (R74). -/
structure RefActs (s : State) (y : Handed) (x : RefRec × List Note) : Prop where
  reference : y.1.reference = x.1
  same : SameBut [.reference, .events] s y.1
  queues : QueuesAgree (s.postAll x.2) y.1
  gate : x.1.state.gateOpen = s.reference.state.gateOpen ∨ ∀ p, HandOver.alloc p .gate ∈ y.2
  hands : ∀ h ∈ y.2, ∃ p, h = .alloc p .gate

theorem mem_allocEverywhere {h : HandOver} {e : AllocEvent} : h ∈ allocEverywhere e ↔ ∃ p, h = .alloc p e := by
  simp [allocEverywhere, mem_allPositions, eq_comm]

section
variable (s : State)

theorem refActs_same : RefActs s (s, []) (s.reference, []) :=
  ⟨rfl, SameBut.refl _ s, ⟨rfl, rfl, fun _ => ⟨rfl, rfl⟩⟩, .inl rfl, by simp⟩

theorem refActs_quiet {x : RefRec} (h : x.state = s.reference.state) : RefActs s ({ s with reference := x }, []) (x, []) :=
  ⟨rfl, (setReference_sameBut s x).mono (by simp), ⟨rfl, rfl, fun _ => ⟨rfl, rfl⟩⟩, .inl (by rw [h]), by simp⟩

theorem refActs_enterRef (new : RefRec) (cause : RefCause) :
    RefActs s (enterRef new cause s) (new, [refNote s.reference.state new cause]) := by
  refine ⟨rfl, enterRef_sameBut new cause s, ⟨rfl, rfl, fun _ => ⟨rfl, rfl⟩⟩, ?_, fun h hh => ?_⟩
  · simp only [enterRef]
    split
    next h => exact .inl h.symm
    next => exact .inr fun p => mem_allocEverywhere.2 ⟨p, rfl⟩
  · simp only [enterRef] at hh
    split at hh
    · cases hh
    · exact mem_allocEverywhere.1 hh

variable {s}

theorem RefActs.andThen {y : Handed} {x x' : RefRec × List Note} {f : State → Handed} (h : RefActs s y x)
    (hf : RefActs y.1 (f y.1) x') : RefActs s (Machine.andThen y f) (x'.1, x.2 ++ x'.2) := by
  refine ⟨hf.reference, h.same.trans hf.same, ?_, ?_, fun k hk => ?_⟩
  · rw [postAll_append]
    exact (postAll_congr _ h.queues).trans hf.queues
  · rcases hf.gate with same | all
    · rw [h.reference] at same
      exact h.gate.imp same.trans fun all p => List.mem_append_left _ (all p)
    · exact .inr fun p => List.mem_append_right _ (all p)
  · rcases List.mem_append.1 hk with hk | hk
    · exact h.hands k hk
    · exact hf.hands k hk

theorem refActs_preferenceChanged :
    RefActs s (preferenceChanged s) (preferenceOutcome s.work.reference s.now s.reference) := by
  unfold preferenceChanged preferenceOutcome
  cases hs : s.reference.state with
  | warmup | free | holdover => exact refActs_same s
  | acquire | track =>
    by_cases h : s.reference.selected = some (Source.other s.preferred) ∧ (s.reference.monitor s.preferred).present = true
    · have entered := refActs_enterRef s (s.reference.toMeasuring .acquire s.preferred s.now) .preference
      rw [hs] at entered
      rw [if_pos h]
      exact (congrArg (RefActs s _) (if_pos h)).mpr entered
    · rw [if_neg h]
      exact (congrArg (RefActs s _) (if_neg h)).mpr (refActs_same s)
  | locked => exact refActs_quiet s (by unfold RefRec.judgeSwitch; split <;> rfl)

theorem refActs_passOnFree : RefActs s (passOnFree s) (match selectSource s.work.reference.preferred s.reference with
    | some src => (s.reference.toMeasuring .acquire src s.now,
      [refNote s.reference.state (s.reference.toMeasuring .acquire src s.now) .sourceAppeared])
    | none => (s.reference, [])) := by
  unfold passOnFree
  rw [State.preferred]
  cases selectSource s.work.reference.preferred s.reference with
  | none => exact refActs_same s
  | some src => exact refActs_enterRef s _ .sourceAppeared

theorem refActs_limitChanged : RefActs s (limitChanged s) (limitOutcome s.work.reference s.now s.reference) := by
  have expires : RefActs s (enterFree .holdoverExpired s) (expiryOutcome s.work.reference s.now s.reference) := by
    have first := refActs_enterRef s (s.reference.plain .free) .holdoverExpired
    have both := first.andThen (f := passOnFree) refActs_passOnFree
    unfold expiryOutcome
    have set : (enterRef (s.reference.plain .free) .holdoverExpired s).1.work = s.work := first.same .work (by simp)
    have now : (enterRef (s.reference.plain .free) .holdoverExpired s).1.now = s.now := first.same .clock (by simp)
    rw [first.reference, set, now] at both
    refine Eq.mp (congrArg (RefActs s _) ?_) both
    dsimp only
    cases selectSource s.work.reference.preferred (s.reference.plain .free) <;> rfl
  unfold limitChanged limitOutcome
  cases hs : s.reference.state with
  | holdover =>
    cases hh : s.reference.heldSince with
    | none => exact refActs_same s
    | some since =>
      by_cases h : s.work.reference.limit * hourMs ≤ s.now - since
      · have h' : s.work.reference.limit * hourMs ≤ elapsed s since := h
        dsimp only
        rwa [if_pos h, if_pos h']
      · have h' : ¬s.work.reference.limit * hourMs ≤ elapsed s since := h
        dsimp only
        rw [if_neg h, if_neg h']
        exact refActs_same s
  | _ => exact refActs_same s

/-- Changed settings act on the reference unit as on its record alone (R64, R73, R76). -/
theorem refActs_settingsEvent (preferred limit : Bool) :
    RefActs s (settingsEvent preferred limit s) (settingsOutcome preferred limit s.work.reference s.now s.reference) := by
  have first : RefActs s (if preferred then preferenceChanged s else (s, []))
      (if preferred then preferenceOutcome s.work.reference s.now s.reference else (s.reference, [])) := by
    cases preferred with
    | true => exact refActs_preferenceChanged
    | false => exact refActs_same s
  unfold settingsEvent settingsOutcome
  generalize (if preferred then preferenceChanged s else (s, [])) = y at first
  generalize (if preferred then preferenceOutcome s.work.reference s.now s.reference else (s.reference, [])) = x at first
  have set : y.1.work = s.work := first.same .work (by simp)
  have now : y.1.now = s.now := first.same .clock (by simp)
  have second : RefActs y.1 (if limit then limitChanged y.1 else (y.1, []))
      (if limit then limitOutcome s.work.reference s.now x.1 else (x.1, [])) := by
    rw [← set, ← now, ← first.reference]
    cases limit with
    | true => exact refActs_limitChanged
    | false => exact refActs_same y.1
  exact first.andThen (f := fun s => if limit then limitChanged s else (s, [])) second

end

section
variable (set : RefSettings) (now : Nat) (r : RefRec)

theorem preferenceOutcome_turns (hs : r.state = .acquire ∨ r.state = .track)
    (h : r.selected = some (Source.other set.preferred) ∧ (r.monitor set.preferred).present = true) :
    preferenceOutcome set now r = (r.entered .acquire set.preferred now,
      [refEvent .notice r.state .acquire (some set.preferred) 5 2]) := by
  rcases hs with hs | hs <;>
  · simp only [preferenceOutcome, hs, if_pos h]
    rfl

theorem preferenceOutcome_stays (h : r.state = .warmup ∨ r.state = .free ∨ r.state = .holdover ∨
    (r.state = .acquire ∨ r.state = .track) ∧
      ¬(r.selected = some (Source.other set.preferred) ∧ (r.monitor set.preferred).present = true)) :
    preferenceOutcome set now r = (r, []) := by
  rcases h with hs | hs | hs | ⟨hs | hs, h⟩
  · simp only [preferenceOutcome, hs]
  · simp only [preferenceOutcome, hs]
  · simp only [preferenceOutcome, hs]
  · simp only [preferenceOutcome, hs, if_neg h]
  · simp only [preferenceOutcome, hs, if_neg h]

theorem preferenceOutcome_locked (hs : r.state = .locked) :
    preferenceOutcome set now r = (r.judgeSwitch set.preferred now, []) := by
  simp only [preferenceOutcome, hs]

theorem limitOutcome_elsewhere (hs : r.state ≠ .holdover) : limitOutcome set now r = (r, []) := by
  unfold limitOutcome
  split
  next _ h _ => exact absurd h hs
  next => rfl

theorem limitOutcome_within (h : ∀ since, r.heldSince = some since → now - since < set.limit * 3600000) :
    limitOutcome set now r = (r, []) := by
  unfold limitOutcome
  split
  next since hs => exact if_neg (not_le.2 (h _ hs))
  next => rfl

theorem limitOutcome_expired {since : Nat} (hs : r.state = .holdover) (hh : r.heldSince = some since)
    (h : set.limit * 3600000 ≤ now - since) : limitOutcome set now r = expiryOutcome set now r := by
  simp only [limitOutcome, hs, hh]
  exact if_pos h

theorem selectSource_plain (src : Source) : selectSource src (r.plain .free) =
    if (r.monitor src).present then some src
    else if (r.monitor (Source.other src)).present then some (Source.other src) else none := by
  cases src <;> rfl

theorem expiryOutcome_passes {y : Source} (hs : r.state = .holdover)
    (h : selectSource set.preferred (r.plain .free) = some y) : expiryOutcome set now r = (r.entered .acquire y now,
      [refEvent .alarm .holdover .free none 8 1, refEvent .notice .free .acquire (some y) 1 2]) := by
  simp only [expiryOutcome, h, hs]
  rfl

theorem expiryOutcome_ends (hs : r.state = .holdover) (h : selectSource set.preferred (r.plain .free) = none) :
    expiryOutcome set now r = (r.freed, [refEvent .alarm .holdover .free none 8 1]) := by
  simp only [expiryOutcome, h, hs]
  rfl

/-- Where the preference leaves the unit outside HOLDOVER, the limit does nothing. -/
theorem settingsOutcome_preferred (limit : Bool) (h : (preferenceOutcome set now r).1.state ≠ .holdover) :
    settingsOutcome true limit set now r = preferenceOutcome set now r := by
  have none : (if limit then limitOutcome set now (preferenceOutcome set now r).1
      else ((preferenceOutcome set now r).1, [])) = ((preferenceOutcome set now r).1, []) := by
    split
    · exact limitOutcome_elsewhere set now _ h
    · rfl
  simp only [settingsOutcome, if_true, none, List.append_nil]

/-- Where the preference does nothing, the limit decides. -/
theorem settingsOutcome_limit (preferred : Bool) (h : preferred = true → preferenceOutcome set now r = (r, [])) :
    settingsOutcome preferred true set now r = limitOutcome set now r := by
  cases preferred with
  | true => simp only [settingsOutcome, if_true, h rfl, List.nil_append]
  | false => simp [settingsOutcome]

theorem settingsOutcome_none (preferred limit : Bool) (hp : preferred = true → preferenceOutcome set now r = (r, []))
    (hl : limit = true → limitOutcome set now r = (r, [])) : settingsOutcome preferred limit set now r = (r, []) := by
  cases limit with
  | true => rw [settingsOutcome_limit set now r preferred hp, hl rfl]
  | false =>
    cases preferred with
    | true => simp [settingsOutcome, hp rfl]
    | false => simp [settingsOutcome]

end

/-- What the reload has changed among a kept unit's settings comes to what R73 and R76 say. -/
theorem settingsOutcome_kept (old : RefSettings) (s : State) (r : RefRec) {x : RefRec × List Note}
    (h : settingsOutcome (old.preferred != s.work.reference.preferred) (old.limit != s.work.reference.limit)
      s.work.reference s.now r = x) : KeptUnder old s r x.1 x.2 := by
  refine ⟨fun hp => ?_, fun hl since hs hh expired => ?_, fun stays => ?_⟩
  · have changed : (old.preferred != s.work.reference.preferred) = true := bne_iff_ne.2 (Ne.symm hp)
    rw [changed] at h
    have outcome {y : RefRec × List Note} (hy : preferenceOutcome s.work.reference s.now r = y)
        (hs : y.1.state ≠ .holdover) : x = y := by
      rw [← h, settingsOutcome_preferred _ _ _ _ (hy ▸ hs), hy]
    refine ⟨fun hs turns => ?_, fun hs turns => ?_, fun hs => ?_⟩
    · rw [outcome (preferenceOutcome_turns _ _ _ hs turns) (by simp [RefRec.entered])]
      exact ⟨rfl, rfl⟩
    · rw [outcome (preferenceOutcome_stays _ _ _ (.inr (.inr (.inr ⟨hs, turns⟩)))) (by rcases hs with hs | hs <;> simp [hs])]
      exact ⟨rfl, rfl⟩
    · have locked : (r.judgeSwitch s.work.reference.preferred s.now).state ≠ .holdover := by
        unfold RefRec.judgeSwitch
        split <;> simp [hs]
      rw [outcome (preferenceOutcome_locked _ _ _ hs) locked]
      exact ⟨rfl, fun turns => if_pos ⟨hs, turns⟩, fun turns => if_neg fun c => turns c.2⟩
  · have changed : (old.limit != s.work.reference.limit) = true := bne_iff_ne.2 (Ne.symm hl)
    rw [changed, settingsOutcome_limit _ _ _ _ (fun _ => preferenceOutcome_stays _ _ _ (.inr (.inr (.inl hs)))),
      limitOutcome_expired _ _ _ hs hh expired] at h
    subst h
    have select := selectSource_plain r s.work.reference.preferred
    refine ⟨fun p => ?_, fun p a => ?_, fun p a => ?_⟩
    · rw [expiryOutcome_passes _ _ _ hs (select.trans (if_pos p))]
      exact ⟨rfl, rfl⟩
    · rw [expiryOutcome_passes _ _ _ hs (select.trans ((if_neg (by simp [p])).trans (if_pos a)))]
      exact ⟨rfl, rfl⟩
    · rw [expiryOutcome_ends _ _ _ hs (select.trans (by simp [p, a]))]
      exact ⟨rfl, rfl⟩
  · have same : settingsOutcome (old.preferred != s.work.reference.preferred) (old.limit != s.work.reference.limit)
        s.work.reference s.now r = (r, []) := by
      refine settingsOutcome_none _ _ _ _ _ (fun hp => ?_) fun hl => ?_
      · have hp := bne_iff_ne.1 hp
        refine preferenceOutcome_stays _ _ _ ?_
        rcases stays with hs | hs | ⟨same, -⟩ | ⟨hs, -⟩
        · exact .inl hs
        · exact .inr (.inl hs)
        · exact absurd same.symm hp
        · exact .inr (.inr (.inl hs))
      · have hl := bne_iff_ne.1 hl
        rcases stays with hs | hs | ⟨-, hs | same⟩ | ⟨hs, same | within⟩
        · exact limitOutcome_elsewhere _ _ _ (by simp [hs])
        · exact limitOutcome_elsewhere _ _ _ (by simp [hs])
        · exact limitOutcome_elsewhere _ _ _ hs
        · exact absurd same.symm hl
        · exact absurd same.symm hl
        · exact limitOutcome_within _ _ _ within
    rw [← h, same]
    exact ⟨rfl, rfl⟩

end Sys2Proof.Machine
end

section
/-! SUPPORT. What the hand-overs at the end of a reset keep, whatever their order and however many they are (R177). -/

namespace Sys2Proof.Machine

open Sys2Proof

/-- The invariant of settling, where the hand-overs may be too many to take. -/
theorem settle_keeps {I : State → List HandOver → Prop}
    (hperm : ∀ s hs ks, hs.Perm ks → I s hs → I s ks) (hchoice : ∀ s cs hs, I s hs → I { s with choices := cs } hs)
    (hstep : ∀ s h hs, I s (h :: hs) → I (handle h s).1 ((handle h s).2 ++ hs)) :
    ∀ fuel items s, I s items → ∃ rest, I (settle fuel items s) rest := by
  intro fuel
  induction fuel with
  | zero => exact fun items s h => ⟨items, h⟩
  | succ fuel ih =>
    intro items s h
    cases items with
    | nil => exact ⟨[], h⟩
    | cons k ks =>
      have hp := pick_perm (nextPlace (ks.length + 1) s.choices).1 k ks
      exact ih _ _ (hstep _ _ _ (hchoice _ _ _ (hperm _ _ _ hp.symm h)))

/-- The hand-overs of a reset's end and those that they give rise to, with what has changed in the settings of a kept
reference unit. -/
def HandOver.ofReset (preferred limit : Bool) : HandOver → Prop
  | .settings p l => p = preferred ∧ l = limit
  | .baseKey _ | .activation | .posts _ => True
  | .alloc _ e => e = .cls ∨ e = .gate ∨ ∃ ch, e = .rescue ch
  | _ => False

/-- The parts that they reach while no unit is fed. -/
def resetParts : List Part := [.reference, .alloc, .voters, .breakin, .events, .choices]

/-- An allocation record of a unit that no path feeds, formed of the tables in force (R103, R106). -/
structure StillVacant (s : State) (p : Position) (r : AllocRec) : Prop where
  status : r.status = .none (if (s.unit p).commissioned then .unreachable else .absent)
  override : r.override = s.override
  allocated : Allocated s p r

/-- What holds while the hand-overs of a reset's end are taken. -/
structure ResetRuns (new : State) (preferred limit : Bool) (s : State) (hs : List HandOver) : Prop where
  same : SameBut resetParts new s
  hands : ∀ h ∈ hs, h.ofReset preferred limit
  vacant : ∀ p, StillVacant s p (posGet s.alloc p)
  reference : preferred = false → limit = false → s.reference = new.reference

theorem StillVacant.congr {s t : State} {p : Position} {r : AllocRec} (hw : t.work = s.work) (hp : t.plans = s.plans)
    (h : StillVacant s p r) : StillVacant t p r := by
  have unit : t.unit p = s.unit p := by rw [State.unit, State.unit, hw]
  have override : t.override = s.override := by rw [State.override, State.override, activePlan_congr hw hp, hp]
  exact ⟨unit ▸ h.status, override ▸ h.override, h.allocated.congr hw⟩

/-- An event that brings a class, the gate or a rescue state leaves a vacant record vacant. -/
theorem StillVacant.allocAfter {s : State} {p : Position} {r : AllocRec} (h : StillVacant s p r) {e : AllocEvent}
    (he : e = .cls ∨ e = .gate ∨ ∃ ch, e = .rescue ch) : StillVacant s p (allocAfter s p e r) := by
  have absorbed : (absorb s p e r).status = r.status ∧ (absorb s p e r).override = r.override := by
    rcases he with rfl | rfl | ⟨ch, rfl⟩ <;> exact ⟨rfl, rfl⟩
  obtain ⟨status, override⟩ := absorbed
  unfold Machine.allocAfter
  split
  · obtain ⟨hs, -, -, -, ho⟩ := recompute_inputs s p (absorb s p e r)
    exact ⟨(hs.trans status).trans h.status, (ho.trans override).trans h.override, recompute_allocated s p _⟩
  next hr =>
    rcases he with rfl | rfl | ⟨ch, rfl⟩
    · exact absurd rfl hr
    · exact absurd rfl hr
    · refine ⟨h.status, h.override, h.allocated.margin, h.allocated.budget, h.allocated.none, fun side active => ?_⟩
      rw [status, h.status] at active
      cases active

/-- A base key hands its rescue state on alone. -/
theorem baseKeyed_hands (ch : ChannelNo) (s : State) : ∀ h ∈ (baseKeyed ch true s).2, ∃ p, h = .alloc p (.rescue ch) := by
  have voter (new : VoterRec) : ∀ h ∈ (setVoterState ch new .base s).2, ∃ p, h = .alloc p (.rescue ch) := by
    intro h hh
    simp only [setVoterState] at hh
    split at hh
    · exact mem_allocEverywhere.1 hh
    · split at hh
      · exact mem_allocEverywhere.1 hh
      · cases hh
  intro h hh
  simp only [baseKeyed, if_true] at hh
  split at hh
  · cases hh
  · split at hh <;> exact voter _ h hh

/-- Where no unit is fed, class changes concern no path. -/
theorem classHands_unfed {s : State} (h : ∀ p, (s.unitState p).side = none) (ps : List Position) :
    classHands s ps = ps.map (.alloc · .cls) := by
  have none : (allSpans.filter fun path => ps.any fun p => p.ring = path.ring && (s.unitState p).side = some path.side) = [] :=
    List.filter_eq_nil_iff.2 fun path _ => by simp [h]
  rw [classHands, none, List.map_nil, List.append_nil]

section
variable {new s : State} {preferred limit : Bool} {h : HandOver} {hs : List HandOver}

/-- What a hand-over of a reset hands on is of a reset. -/
theorem handle_ofReset (unfed : ∀ p, (s.unitState p).side = none) (hh : h.ofReset preferred limit) :
    ∀ k ∈ (handle h s).2, k.ofReset preferred limit := by
  intro k hk
  cases h with
  | settings p l =>
    obtain ⟨q, rfl⟩ := (refActs_settingsEvent p l).hands k hk
    exact .inr (.inl rfl)
  | baseKey ch =>
    obtain ⟨q, rfl⟩ := baseKeyed_hands ch s k hk
    exact .inr (.inr ⟨ch, rfl⟩)
  | activation =>
    rcases List.mem_append.1 hk with hk | hk
    · obtain rfl := List.mem_singleton.1 hk
      trivial
    · rw [classHands_unfed (by exact unfed)] at hk
      obtain ⟨q, -, rfl⟩ := List.mem_map.1 hk
      exact .inl rfl
  | posts notes =>
    match notes, hk with
    | _ :: _ :: _, hk =>
      obtain rfl := List.mem_singleton.1 hk
      trivial
  | alloc p e => cases hk
  | planner | flag | coverage | candidates | block => exact hh.elim

theorem ResetRuns.step (unfed : ∀ p, (new.unitState p).side = none) (run : ResetRuns new preferred limit s (h :: hs)) :
    ResetRuns new preferred limit (handle h s).1 ((handle h s).2 ++ hs) := by
  have hh := run.hands h (List.mem_cons_self ..)
  have same := handle_sameBut h s
  have parts : ∀ x ∈ h.parts, x ∈ resetParts := by
    cases h <;> simp_all [HandOver.ofReset, HandOver.parts, resetParts]
  have whole := run.same.trans (same.mono parts)
  have work : (handle h s).1.work = s.work := (same.mono parts) .work (by simp [resetParts])
  have plans : (handle h s).1.plans = s.plans := (same.mono parts) .plans (by simp [resetParts])
  have idle : ∀ p, (s.unitState p).side = none := fun p => by
    rw [State.unitState, run.same .rings (by simp [resetParts])]
    exact unfed p
  refine ⟨whole, fun k hk => ?_, fun p => ?_, fun hp hl => ?_⟩
  · rcases List.mem_append.1 hk with hk | hk
    · exact handle_ofReset idle hh k hk
    · exact run.hands k (List.mem_cons_of_mem _ hk)
  · refine StillVacant.congr work plans ?_
    cases h with
    | alloc q e =>
      rw [handle, allocEvent_alloc]
      split
      next hq =>
        subst hq
        exact (run.vacant p).allocAfter hh
      next => exact run.vacant p
    | settings | baseKey | activation | posts =>
      rw [same .alloc (by simp [HandOver.parts])]
      exact run.vacant p
    | planner | flag | coverage | candidates | block => exact hh.elim
  · cases h with
    | settings p l =>
      obtain ⟨rfl, rfl⟩ := hh
      subst hp hl
      exact run.reference rfl rfl
    | alloc | baseKey | activation | posts =>
      rw [same .reference (by simp [HandOver.parts])]
      exact run.reference hp hl
    | planner | flag | coverage | candidates | block => exact hh.elim

theorem ResetRuns.perm {ks : List HandOver} (hp : hs.Perm ks) (run : ResetRuns new preferred limit s hs) :
    ResetRuns new preferred limit s ks :=
  ⟨run.same, fun h hh => run.hands h (hp.mem_iff.2 hh), run.vacant, run.reference⟩

theorem ResetRuns.choices (cs : List Nat) (run : ResetRuns new preferred limit s hs) :
    ResetRuns new preferred limit { s with choices := cs } hs :=
  ⟨run.same.trans ((setChoices_sameBut s cs).mono (by simp [resetParts])), run.hands,
    fun p => StillVacant.congr (s := s) rfl rfl (run.vacant p), run.reference⟩

/-- What the hand-overs of a reset's end keep. -/
theorem ResetRuns.settled (unfed : ∀ p, (new.unitState p).side = none) {x : Handed}
    (run : ResetRuns new preferred limit x.1 x.2) : ∃ rest, ResetRuns new preferred limit (settled x) rest :=
  settle_keeps (I := ResetRuns new preferred limit) (fun _ _ _ hp => ResetRuns.perm hp)
    (fun _ cs _ => ResetRuns.choices cs) (fun _ _ _ => ResetRuns.step unfed) _ _ _ run

end

end Sys2Proof.Machine
end

section
/-! SUPPORT. The hand-overs at the end of a reset, each taken once (R73, R123, R132, R177): what they leave of the reference unit,
the voters and the break-in unit, and the records that they post. -/

namespace Sys2Proof.Machine

open Sys2Proof

/-! ### An event that is taken once -/

/-- An event is pending, once, or has been taken. -/
def Once (h : HandOver) (hs : List HandOver) (before after : Prop) : Prop :=
  (hs.count h = 1 ∧ before) ∨ (hs.count h = 0 ∧ after)

section
variable {h k : HandOver} {hs ks : List HandOver} {before after before' after' : Prop}

theorem Once.perm (hp : hs.Perm ks) (o : Once h hs before after) (hb : before → before') (ha : after → after') :
    Once h ks before' after' :=
  o.imp (fun o => ⟨hp.count_eq h ▸ o.1, hb o.2⟩) fun o => ⟨hp.count_eq h ▸ o.1, ha o.2⟩

theorem Once.due (o : Once h (h :: hs) before after) : before ∧ h ∉ hs := by
  rcases o with ⟨hc, hb⟩ | ⟨hc, -⟩
  · rw [List.count_cons_self] at hc
    exact ⟨hb, List.count_eq_zero.1 (Nat.succ.inj hc)⟩
  · rw [List.count_cons_self] at hc
    cases hc

/-- Another event leaves it pending, or taken. -/
theorem Once.passed (o : Once h (k :: hs) before after) (hne : k ≠ h) (hk : h ∉ ks) (hb : before → before')
    (ha : after → after') : Once h (ks ++ hs) before' after' := by
  have count : (ks ++ hs).count h = (k :: hs).count h := by
    rw [List.count_append, List.count_eq_zero.2 hk, List.count_cons_of_ne hne, Nat.zero_add]
  exact o.imp (fun o => ⟨count ▸ o.1, hb o.2⟩) fun o => ⟨count ▸ o.1, ha o.2⟩

theorem Once.taken (o : Once h (h :: hs) before after) (hk : h ∉ ks) (ha : before → after') :
    Once h (ks ++ hs) before' after' := by
  obtain ⟨hb, hn⟩ := o.due
  exact .inr ⟨by rw [List.count_append, List.count_eq_zero.2 hk, List.count_eq_zero.2 hn], ha hb⟩

theorem Once.over (o : Once h [] before after) : after := o.elim (fun o => by cases o.1) And.right

end

/-! ### The records pending -/

/-- The records that a hand-over is to post. -/
def HandOver.notes? : HandOver → Option (List Note)
  | .posts ns => some ns
  | _ => none

/-- Of some records to be posted in order the first are told, and the others pending together. -/
def Telling (hs : List HandOver) (told total : List Note) : Prop :=
  (hs.filterMap HandOver.notes? = [] ∧ told = total) ∨
    ∃ rest, hs.filterMap HandOver.notes? = [rest] ∧ told ++ rest = total

theorem notes_perm {hs ks : List HandOver} (hp : hs.Perm ks) {x : List (List Note)} (hx : x.length ≤ 1)
    (h : hs.filterMap HandOver.notes? = x) : ks.filterMap HandOver.notes? = x := by
  have := (hp.filterMap HandOver.notes?).symm
  rw [h] at this
  cases x with
  | nil => exact this.eq_nil
  | cons a x =>
    cases x with
    | nil => exact List.perm_singleton.1 this
    | cons b x => simp at hx

theorem Telling.congr {hs ks : List HandOver} {told total : List Note}
    (h : hs.filterMap HandOver.notes? = ks.filterMap HandOver.notes?) (ht : Telling hs told total) : Telling ks told total := by
  rwa [Telling, h] at ht

theorem Telling.perm {hs ks : List HandOver} (hp : hs.Perm ks) {told total : List Note} (h : Telling hs told total) :
    Telling ks told total := by
  rcases h with ⟨hn, ht⟩ | ⟨rest, hn, ht⟩
  · exact .inl ⟨notes_perm hp (by simp) hn, ht⟩
  · exact .inr ⟨rest, notes_perm hp (by simp) hn, ht⟩

theorem handle_posts (ns : List Note) (s : State) : (handle (.posts ns) s).1 = s.postAll (ns.take 1) := by
  match ns with
  | [] => rfl
  | [n] => rfl
  | n :: m :: ns => rfl

/-- The first of the pending records is posted. -/
theorem Telling.posted {ns told total : List Note} {hs : List HandOver} (h : Telling (.posts ns :: hs) told total) (s : State) :
    Telling ((handle (.posts ns) s).2 ++ hs) (told ++ ns.take 1) total := by
  obtain ⟨hn, -⟩ | ⟨rest, hn, ht⟩ := h
  · cases hn
  · obtain ⟨rfl, none⟩ := List.cons_eq_cons.1 hn
    match ns, ht with
    | [], ht => exact .inl ⟨none, by simpa using ht⟩
    | [n], ht => exact .inl ⟨none, ht⟩
    | n :: m :: ns, ht => exact .inr ⟨m :: ns, congrArg ((m :: ns) :: ·) none, by simpa using ht⟩

/-! ### The base keys (R118, R123) -/

/-- A voter as a reset leaves it once its base key is told (R123). -/
def keyedVoter (s : State) (ch : ChannelNo) : VoterRec :=
  ⟨if s.baseLane[ch] then .base else .idle, none, none, none, s.baseLane[ch], coverageOf s ch, [], none⟩

/-- RESCUE_ACTIVE for a base key (R123). -/
def keyNote (s : State) (ch : ChannelNo) : Note := ⟨.rescueActive, .notice, voterSubject s ch, [.channel ch, .named 2]⟩

/-- RESCUE_ACTIVE for each voter that is no longer IDLE. -/
def keyNotes (new s : State) : List Note :=
  ((List.finRange 4).filter fun ch => decide (s.voters[ch].state ≠ .idle)).map (keyNote new)

theorem baseKeyed_start {s : State} {ch : ChannelNo} {covers : PerRing Bool} (h : s.voters[ch] = .start covers) :
    baseKeyed ch true s = ((s.setVoter ch { VoterRec.start covers with state := .base, baseKey := true }).post (keyNote s ch),
      allocEverywhere (.rescue ch)) := by
  have enters : baseKeyed ch true s =
      setVoterState ch { VoterRec.start covers with state := .base, baseKey := true } .base s := by
    simp only [baseKeyed, h, VoterRec.start, Bool.false_eq_true, if_false, if_true]
  rw [enters]
  exact if_pos ⟨by rw [h]; rfl, VoterState.noConfusion⟩

theorem filter_perm_cons {α : Type} [DecidableEq α] {l : List α} (hl : l.Nodup) {a : α} (ha : a ∈ l) {p p' : α → Bool}
    (hp : p a = false) (hp' : p' a = true) (h : ∀ x, x ≠ a → p' x = p x) : (l.filter p').Perm (a :: l.filter p) := by
  obtain ⟨l₁, l₂, rfl⟩ := List.append_of_mem ha
  have away : a ∉ l₁ ++ l₂ := (List.nodup_cons.1 (List.perm_middle.nodup_iff.1 hl)).1
  have same : ∀ l', l' ⊆ l₁ ++ l₂ → l'.filter p' = l'.filter p := fun l' hsub =>
    List.filter_congr fun x hx => h x fun he => away (he ▸ hsub hx)
  rw [List.filter_append, List.filter_append, List.filter_cons_of_pos hp', List.filter_cons_of_neg (by simp [hp]),
    same l₁ (List.subset_append_left ..), same l₂ (List.subset_append_right ..)]
  exact List.perm_middle

/-- A voter that leaves IDLE adds its record. -/
theorem keyNotes_keyed {new s t : State} {ch : ChannelNo} (hs : s.voters[ch].state = .idle) (ht : t.voters[ch].state ≠ .idle)
    (h : ∀ c, c ≠ ch → t.voters[c] = s.voters[c]) : (keyNotes new t).Perm (keyNote new ch :: keyNotes new s) :=
  (filter_perm_cons (List.nodup_finRange 4) (List.mem_finRange ch) (by simp [-Fin.getElem_fin, hs])
    (by simpa [-Fin.getElem_fin] using ht) fun c hc => by rw [h c hc]).map (keyNote new)

/-! ### What holds while they are taken -/

/-- The records posted so far: those of the reference unit, those of the base keys, and the first ones of plan 0's. -/
structure ResetTells (new : State) (moves told all : List Note) (s : State) : Prop where
  queues : QueuesAgree (new.postAll all) s
  whole : all.Perm (moves ++ keyNotes new s ++ told)
  moves : moves.Sublist all
  told : told.Sublist all

/-- What holds while the hand-overs of a reset's end are taken, plan 0's templates being few. -/
structure ResetTakes (new : State) (preferred limit : Bool) (s : State) (hs : List HandOver) : Prop where
  runs : ResetRuns new preferred limit s hs
  activation : Once .activation hs (s.breakin = .start) (s.breakin = firstBreakIn new)
  keys : ∀ ch : ChannelNo, Once (.baseKey ch) hs
    (new.baseLane[ch] = true ∧ s.voters[ch] = .start (coverageOf new ch)) (s.voters[ch] = keyedVoter new ch)
  settings : Once (.settings preferred limit) hs (s.reference = new.reference)
    (s.reference = (settingsOutcome preferred limit new.work.reference new.now new.reference).1)
  records : ∃ moves told all, ResetTells new moves told all s ∧
    Once (.settings preferred limit) hs (moves = [])
      (moves = (settingsOutcome preferred limit new.work.reference new.now new.reference).2) ∧
    Once .activation hs (told = [] ∧ hs.filterMap HandOver.notes? = []) (Telling hs told (firstNotes new))

section
variable {new s t : State} {preferred limit : Bool} {h : HandOver} {hs : List HandOver} {moves told all : List Note}

theorem keyNotes_congr (h : t.voters = s.voters) : keyNotes new t = keyNotes new s := by
  rw [keyNotes, h]
  rfl

/-- Where nothing is posted and the voters are kept, what is told is as before. -/
theorem ResetTells.quiet (r : ResetTells new moves told all s) (hv : t.voters = s.voters) (hq : QueuesAgree s t) :
    ResetTells new moves told all t :=
  ⟨r.queues.trans hq, keyNotes_congr (new := new) hv ▸ r.whole, r.moves, r.told⟩

theorem ResetTells.moved (r : ResetTells new [] told all s) (hv : t.voters = s.voters) (hq : QueuesAgree (s.postAll moves) t) :
    ResetTells new moves told (all ++ moves) t := by
  refine ⟨?_, ?_, List.sublist_append_right _ _, r.told.trans (List.sublist_append_left _ _)⟩
  · rw [postAll_append]
    exact (postAll_congr moves r.queues).trans hq
  · rw [keyNotes_congr hv, List.append_assoc]
    exact (List.perm_append_comm).trans (List.Perm.append_left moves r.whole)

theorem ResetTells.keyed {ch : ChannelNo} (r : ResetTells new moves told all s) (hs : s.voters[ch].state = .idle)
    (ht : t.voters[ch].state ≠ .idle) (h : ∀ c, c ≠ ch → t.voters[c] = s.voters[c])
    (hq : QueuesAgree (s.postAll [keyNote new ch]) t) : ResetTells new moves told (all ++ [keyNote new ch]) t := by
  refine ⟨?_, ?_, r.moves.trans (List.sublist_append_left _ _), r.told.trans (List.sublist_append_left _ _)⟩
  · rw [postAll_append]
    exact (postAll_congr _ r.queues).trans hq
  · calc List.Perm (all ++ [keyNote new ch]) (keyNote new ch :: all) := List.perm_append_singleton _ _
      List.Perm _ (keyNote new ch :: (moves ++ keyNotes new s ++ told)) := r.whole.cons _
      List.Perm _ (moves ++ keyNote new ch :: keyNotes new s ++ told) := by
        rw [List.append_assoc, List.append_assoc]
        exact List.perm_middle.symm
      List.Perm _ (moves ++ keyNotes new t ++ told) :=
        ((keyNotes_keyed hs ht h).symm.append_left moves).append_right told

theorem ResetTells.posted {es : List Note} (r : ResetTells new moves told all s) (hv : t.voters = s.voters)
    (hq : QueuesAgree (s.postAll es) t) : ResetTells new moves (told ++ es) (all ++ es) t := by
  refine ⟨?_, ?_, r.moves.trans (List.sublist_append_left _ _), r.told.append_right es⟩
  · rw [postAll_append]
    exact (postAll_congr es r.queues).trans hq
  · rw [keyNotes_congr hv, ← List.append_assoc]
    exact r.whole.append_right es

end

end Sys2Proof.Machine
end

section
/-! SUPPORT. The end of a reset, event by event, and what stands once all are taken (R177). -/

namespace Sys2Proof.Machine

open Sys2Proof

theorem notes?_of_alloc {ks : List HandOver} (h : ∀ k ∈ ks, ∃ p e, k = .alloc p e) :
    ks.filterMap HandOver.notes? = [] := by
  refine List.filterMap_eq_nil_iff.2 fun k hk => ?_
  obtain ⟨p, e, rfl⟩ := h k hk
  rfl

/-- An event that leaves a record without a unit on a path posts nothing. -/
theorem allocEvent_quiet {s : State} {p : Position} {e : AllocEvent} {reason : NoneReason}
    (h : (allocAfter s p e (posGet s.alloc p)).status = .none reason) : QueuesAgree s (allocEvent p e s) := by
  have set (r : AllocRec) : QueuesAgree s (s.setAlloc p r) :=
    ⟨rfl, rfl, setAlloc_sameBut s p r .events (by simp)⟩
  simp only [allocEvent]
  split
  next hr =>
    rw [allocAfter, if_pos hr] at h
    have none : allocNotes p e (posGet s.alloc p) (recompute s p (absorb s p e (posGet s.alloc p))) = [] := by
      simp only [allocNotes, h]
    rw [none]
    exact set _
  next => exact set _

section
variable {new s : State} {preferred limit : Bool} {hs : List HandOver}

/-- What is handed on is none of the events of a reset's end themselves. -/
theorem not_mem_handle (h : HandOver) (s : State) {k : HandOver} (hk : ¬k.follows) : k ∉ (handle h s).2 :=
  fun hm => hk (handle_follows h s k hm)

theorem ResetTakes.alloc (unfed : ∀ p, (new.unitState p).side = none) {p : Position} {e : AllocEvent}
    (t : ResetTakes new preferred limit s (.alloc p e :: hs)) :
    ResetTakes new preferred limit (handle (.alloc p e) s).1 ((handle (.alloc p e) s).2 ++ hs) := by
  have same := handle_sameBut (.alloc p e) s
  have breakin : (handle (.alloc p e) s).1.breakin = s.breakin := same .breakin (by simp [HandOver.parts])
  have voters : (handle (.alloc p e) s).1.voters = s.voters := same .voters (by simp [HandOver.parts])
  have reference : (handle (.alloc p e) s).1.reference = s.reference := same .reference (by simp [HandOver.parts])
  have hand := t.runs.hands _ (List.mem_cons_self ..)
  have quiet : QueuesAgree s (handle (.alloc p e) s).1 := allocEvent_quiet ((t.runs.vacant p).allocAfter hand).status
  obtain ⟨moves, told, all, tells, moved, posts⟩ := t.records
  refine ⟨t.runs.step unfed, ?_, fun ch => ?_, ?_, moves, told, all, tells.quiet voters quiet, ?_, ?_⟩
  · rw [breakin]
    exact t.activation.passed (by simp) (by simp [handle]) id id
  · rw [voters]
    exact (t.keys ch).passed (by simp) (by simp [handle]) id id
  · rw [reference]
    exact t.settings.passed (by simp) (by simp [handle]) id id
  · exact moved.passed (by simp) (by simp [handle]) id id
  · exact posts.passed (by simp) (by simp [handle]) id id

theorem ResetTakes.posts (unfed : ∀ p, (new.unitState p).side = none) {ns : List Note}
    (t : ResetTakes new preferred limit s (.posts ns :: hs)) :
    ResetTakes new preferred limit (handle (.posts ns) s).1 ((handle (.posts ns) s).2 ++ hs) := by
  have same := handle_sameBut (.posts ns) s
  have breakin : (handle (.posts ns) s).1.breakin = s.breakin := same .breakin (by simp [HandOver.parts])
  have voters : (handle (.posts ns) s).1.voters = s.voters := same .voters (by simp [HandOver.parts])
  have reference : (handle (.posts ns) s).1.reference = s.reference := same .reference (by simp [HandOver.parts])
  have queues : QueuesAgree (s.postAll (ns.take 1)) (handle (.posts ns) s).1 := by
    rw [handle_posts]
    exact ⟨rfl, rfl, fun _ => ⟨rfl, rfl⟩⟩
  obtain ⟨moves, told, all, tells, moved, posts⟩ := t.records
  refine ⟨t.runs.step unfed, ?_, fun ch => ?_, ?_, moves, told ++ ns.take 1, all ++ ns.take 1,
    tells.posted voters queues, ?_, ?_⟩
  · rw [breakin]
    exact t.activation.passed (by simp) (not_mem_handle _ _ id) id id
  · rw [voters]
    exact (t.keys ch).passed (by simp) (not_mem_handle _ _ id) id id
  · rw [reference]
    exact t.settings.passed (by simp) (not_mem_handle _ _ id) id id
  · exact moved.passed (by simp) (not_mem_handle _ _ id) id id
  · refine posts.passed (by simp) (not_mem_handle _ _ id) (fun pending => ?_) fun telling => telling.posted s
    cases pending.2

theorem ResetTakes.settingsTaken (unfed : ∀ p, (new.unitState p).side = none)
    (t : ResetTakes new preferred limit s (.settings preferred limit :: hs)) :
    ResetTakes new preferred limit (handle (.settings preferred limit) s).1
      ((handle (.settings preferred limit) s).2 ++ hs) := by
  have same := handle_sameBut (.settings preferred limit) s
  have breakin : (handle (.settings preferred limit) s).1.breakin = s.breakin := same .breakin (by simp [HandOver.parts])
  have voters : (handle (.settings preferred limit) s).1.voters = s.voters := same .voters (by simp [HandOver.parts])
  have work : s.work = new.work := t.runs.same .work (by simp [resetParts])
  have now : s.now = new.now := t.runs.same .clock (by simp [resetParts])
  have acts := refActs_settingsEvent (s := s) preferred limit
  rw [work, now, t.settings.due.1] at acts
  have alloc : ∀ k ∈ (handle (.settings preferred limit) s).2, ∃ p e, k = .alloc p e := fun k hk => by
    obtain ⟨p, rfl⟩ := acts.hands k hk
    exact ⟨p, .gate, rfl⟩
  obtain ⟨moves, told, all, tells, moved, posts⟩ := t.records
  obtain rfl := moved.due.1
  refine ⟨t.runs.step unfed, ?_, fun ch => ?_, ?_, _, told, _, tells.moved voters acts.queues, ?_, ?_⟩
  · rw [breakin]
    exact t.activation.passed (by simp) (not_mem_handle _ _ id) id id
  · rw [voters]
    exact (t.keys ch).passed (by simp) (not_mem_handle _ _ id) id id
  · exact t.settings.taken (not_mem_handle _ _ id) fun _ => acts.reference
  · exact moved.taken (not_mem_handle _ _ id) fun _ => rfl
  · have notes : (HandOver.settings preferred limit :: hs).filterMap HandOver.notes? =
        ((handle (.settings preferred limit) s).2 ++ hs).filterMap HandOver.notes? := by
      rw [List.filterMap_append, notes?_of_alloc alloc]
      rfl
    exact posts.passed (by simp) (not_mem_handle _ _ id) (fun pending => ⟨pending.1, notes ▸ pending.2⟩)
      (Telling.congr notes)

theorem ResetTakes.baseKey (unfed : ∀ p, (new.unitState p).side = none) {ch : ChannelNo}
    (t : ResetTakes new preferred limit s (.baseKey ch :: hs)) :
    ResetTakes new preferred limit (handle (.baseKey ch) s).1 ((handle (.baseKey ch) s).2 ++ hs) := by
  obtain ⟨⟨lane, start⟩, -⟩ := (t.keys ch).due
  have same := handle_sameBut (.baseKey ch) s
  have breakin : (handle (.baseKey ch) s).1.breakin = s.breakin := same .breakin (by simp [HandOver.parts])
  have reference : (handle (.baseKey ch) s).1.reference = s.reference := same .reference (by simp [HandOver.parts])
  have keyed := baseKeyed_start start
  have voters : (handle (.baseKey ch) s).1.voters = s.voters.set ch (keyedVoter new ch) := by
    have final : keyedVoter new ch = { VoterRec.start (coverageOf new ch) with state := .base, baseKey := true } := by
      rw [keyedVoter, lane]
      rfl
    rw [handle, keyed, final]
    rfl
  have voter : (handle (.baseKey ch) s).1.voters[ch] = keyedVoter new ch := by
    rw [voters, vector_get_set, if_pos rfl]
  have others : ∀ c, c ≠ ch → (handle (.baseKey ch) s).1.voters[c] = s.voters[c] := fun c hc => by
    rw [voters, vector_get_set, if_neg hc]
  have subject : keyNote s ch = keyNote new ch := by
    have work : s.work = new.work := t.runs.same .work (by simp [resetParts])
    simp only [keyNote, voterSubject, rescueCarrier, work]
  have queues : QueuesAgree (s.postAll [keyNote new ch]) (handle (.baseKey ch) s).1 := by
    rw [handle, keyed, ← subject]
    exact ⟨rfl, rfl, fun _ => ⟨rfl, rfl⟩⟩
  obtain ⟨moves, told, all, tells, moved, posts⟩ := t.records
  refine ⟨t.runs.step unfed, ?_, fun c => ?_, ?_, moves, told, _, tells.keyed (by rw [start]; rfl) ?_ others queues, ?_, ?_⟩
  · rw [breakin]
    exact t.activation.passed (by simp) (not_mem_handle _ _ id) id id
  · by_cases hc : c = ch
    · subst hc
      exact (t.keys c).taken (not_mem_handle _ _ id) fun _ => voter
    · rw [others c hc]
      exact (t.keys c).passed (by simpa using Ne.symm hc) (not_mem_handle _ _ id) id id
  · rw [reference]
    exact t.settings.passed (by simp) (not_mem_handle _ _ id) id id
  · rw [voter, keyedVoter, lane]
    simp
  · exact moved.passed (by simp) (not_mem_handle _ _ id) id id
  · have notes : (HandOver.baseKey ch :: hs).filterMap HandOver.notes? =
        ((handle (.baseKey ch) s).2 ++ hs).filterMap HandOver.notes? := by
      have alloc : ∀ k ∈ (handle (.baseKey ch) s).2, ∃ p e, k = .alloc p e := fun k hk => by
        obtain ⟨p, rfl⟩ := baseKeyed_hands ch s k hk
        exact ⟨p, _, rfl⟩
      rw [List.filterMap_append, notes?_of_alloc alloc]
      rfl
    exact posts.passed (by simp) (not_mem_handle _ _ id) (fun pending => ⟨pending.1, notes ▸ pending.2⟩)
      (Telling.congr notes)

theorem ResetTakes.activated (unfed : ∀ p, (new.unitState p).side = none)
    (t : ResetTakes new preferred limit s (.activation :: hs)) :
    ResetTakes new preferred limit (handle .activation s).1 ((handle .activation s).2 ++ hs) := by
  have same := handle_sameBut .activation s
  have voters : (handle .activation s).1.voters = s.voters := same .voters (by simp [HandOver.parts])
  have reference : (handle .activation s).1.reference = s.reference := same .reference (by simp [HandOver.parts])
  have work : s.work = new.work := t.runs.same .work (by simp [resetParts])
  have now : s.now = new.now := t.runs.same .clock (by simp [resetParts])
  have plans : s.plans = new.plans := t.runs.same .plans (by simp [resetParts])
  have acts := activationEvent_start t.activation.due.1
  rw [firstBreakIn_congr now work plans, firstNotes_congr now work plans] at acts
  obtain ⟨moves, told, all, tells, moved, posts⟩ := t.records
  obtain ⟨rfl, -⟩ := posts.due.1
  refine ⟨t.runs.step unfed, ?_, fun ch => ?_, ?_, moves, [], all, ?_, ?_, ?_⟩
  · refine t.activation.taken (not_mem_handle _ _ id) fun _ => ?_
    rw [handle, acts]
  · rw [voters]
    exact (t.keys ch).passed (by simp) (not_mem_handle _ _ id) id id
  · rw [reference]
    exact t.settings.passed (by simp) (not_mem_handle _ _ id) id id
  · refine tells.quiet voters ?_
    rw [handle, acts]
    exact ⟨rfl, rfl, fun _ => ⟨rfl, rfl⟩⟩
  · exact moved.passed (by simp) (not_mem_handle _ _ id) id id
  · refine posts.taken (not_mem_handle _ _ id) fun pending => .inr ⟨firstNotes new, ?_, rfl⟩
    have idle : ∀ p, (s.unitState p).side = none := fun p => by
      rw [State.unitState, t.runs.same .rings (by simp [resetParts])]
      exact unfed p
    rw [handle, acts, classHands_unfed (by exact idle), List.filterMap_append, List.filterMap_cons_some (by rfl),
      notes?_of_alloc fun k hk => ?_]
    · exact congrArg (firstNotes new :: ·) pending.2
    · obtain ⟨p, -, rfl⟩ := List.mem_map.1 hk
      exact ⟨p, .cls, rfl⟩

/-- Each of the events of a reset's end is taken as it comes. -/
theorem ResetTakes.step (unfed : ∀ p, (new.unitState p).side = none) {h : HandOver}
    (t : ResetTakes new preferred limit s (h :: hs)) :
    ResetTakes new preferred limit (handle h s).1 ((handle h s).2 ++ hs) := by
  have hand := t.runs.hands h (List.mem_cons_self ..)
  cases h with
  | alloc p e => exact t.alloc unfed
  | posts ns => exact t.posts unfed
  | settings p l =>
    obtain ⟨rfl, rfl⟩ := hand
    exact t.settingsTaken unfed
  | baseKey ch => exact t.baseKey unfed
  | activation => exact t.activated unfed
  | planner | flag | coverage | candidates | block => exact hand.elim

theorem ResetTakes.perm {ks : List HandOver} (hp : hs.Perm ks) (t : ResetTakes new preferred limit s hs) :
    ResetTakes new preferred limit s ks := by
  obtain ⟨moves, told, all, tells, moved, posts⟩ := t.records
  exact ⟨t.runs.perm hp, t.activation.perm hp id id, fun ch => (t.keys ch).perm hp id id, t.settings.perm hp id id,
    moves, told, all, tells, moved.perm hp id id,
    posts.perm hp (fun pending => ⟨pending.1, notes_perm hp (by simp) pending.2⟩) (Telling.perm hp)⟩

theorem ResetTakes.choices (cs : List Nat) (t : ResetTakes new preferred limit s hs) :
    ResetTakes new preferred limit { s with choices := cs } hs := by
  obtain ⟨moves, told, all, tells, posts⟩ := t.records
  exact ⟨t.runs.choices cs, t.activation, t.keys, t.settings, moves, told, all,
    tells.quiet rfl ⟨rfl, rfl, fun _ => ⟨rfl, rfl⟩⟩, posts⟩

/-- A bound on what a hand-over gives rise to, with that of plan 0's activation. -/
def HandOver.resetWeight : HandOver → Nat
  | .activation => 85
  | h => h.weight

theorem resetWeight_of_follows {ks : List HandOver} (h : ∀ k ∈ ks, k.follows) :
    (ks.map HandOver.resetWeight).sum = (ks.map HandOver.weight).sum := by
  refine congrArg List.sum (List.map_congr_left fun k hk => ?_)
  cases k with
  | activation => exact (h _ hk).elim
  | _ => rfl

theorem ResetTakes.weight (few : new.activePlan.templates.length ≤ 4) {h : HandOver}
    (t : ResetTakes new preferred limit s (h :: hs)) :
    ((handle h s).2.map HandOver.resetWeight).sum + 1 ≤ h.resetWeight := by
  rw [resetWeight_of_follows (handle_follows h s)]
  by_cases ha : h = .activation
  · subst ha
    have plan : s.activePlan = new.activePlan :=
      activePlan_congr (t.runs.same .work (by simp [resetParts])) (t.runs.same .plans (by simp [resetParts]))
    exact Nat.succ_le_succ (activation_weight (plan ▸ few) t.activation.due.1)
  · have := handle_weight h s ha
    cases h with
    | activation => exact absurd rfl ha
    | _ => exact this

/-- With plan 0's templates few, an invariant of the events of a reset's end holds once all are taken. -/
theorem ResetTakes.settled_invariant (unfed : ∀ p, (new.unitState p).side = none)
    (few : new.activePlan.templates.length ≤ 4) {I : State → List HandOver → Prop}
    (hperm : ∀ s hs ks, hs.Perm ks → I s hs → I s ks) (hchoice : ∀ s cs hs, I s hs → I { s with choices := cs } hs)
    (hstep : ∀ s h hs, ResetTakes new preferred limit s (h :: hs) → I s (h :: hs) → I (handle h s).1 ((handle h s).2 ++ hs))
    {x : Handed} (start : ResetTakes new preferred limit x.1 x.2) (hI : I x.1 x.2)
    (hsum : (x.2.map HandOver.resetWeight).sum ≤ settleFuel) :
    ResetTakes new preferred limit (settled x) [] ∧ I (settled x) [] :=
  settle_invariant (I := fun s hs => ResetTakes new preferred limit s hs ∧ I s hs) HandOver.resetWeight
    (fun s hs ks hp h => ⟨h.1.perm hp, hperm s hs ks hp h.2⟩) (fun s cs hs h => ⟨h.1.choices cs, hchoice s cs hs h.2⟩)
    (fun s h hs ht => ⟨ht.1.step unfed, hstep s h hs ht.1 ht.2⟩) (fun _ _ _ h => h.1.weight few) settleFuel x.2 x.1
    ⟨start, hI⟩ hsum

/-! ### What the allocation records are told (R96, R106) -/

/-- An input of an allocation record is in force once all events are taken, where it is so at first and every event that
changes it is told to the record. -/
theorem ResetTakes.input (unfed : ∀ p, (new.unitState p).side = none) (few : new.activePlan.templates.length ≤ 4)
    {β : Type} (get : AllocRec → β) (val : State → β) (p : Position) (e : AllocEvent)
    (takes : ∀ s r, get (allocAfter s p e r) = val s) (keeps : ∀ s k r, k ≠ e → get (allocAfter s p k r) = get r)
    (choice : ∀ s cs, val { s with choices := cs } = val s)
    (tells : ∀ s h hs, ResetTakes new preferred limit s (h :: hs) →
      val (handle h s).1 = val s ∨ .alloc p e ∈ (handle h s).2)
    {x : Handed} (start : ResetTakes new preferred limit x.1 x.2) (hI : get (posGet x.1.alloc p) = val x.1)
    (hsum : (x.2.map HandOver.resetWeight).sum ≤ settleFuel) : get (posGet (settled x).alloc p) = val (settled x) := by
  refine Or.resolve_right (ResetTakes.settled_invariant (I := fun s hs => get (posGet s.alloc p) = val s ∨ .alloc p e ∈ hs)
    unfed few ?_ ?_ ?_ start (.inl hI) hsum).2 List.not_mem_nil
  · exact fun s hs ks hp h => h.imp_right hp.mem_iff.1
  · exact fun s cs hs h => h.imp_left fun h => h.trans (choice s cs).symm
  · intro s h hs ht hin
    rcases tells s h hs ht with same | told
    · rw [same]
      by_cases hh : h = .alloc p e
      · subst hh
        left
        rw [handle, allocEvent_alloc, if_pos rfl, takes]
      · have kept : get (posGet (handle h s).1.alloc p) = get (posGet s.alloc p) := by
          have hand := ht.runs.hands h (List.mem_cons_self ..)
          cases h with
          | alloc q k =>
            rw [handle, allocEvent_alloc]
            split
            next hq =>
              subst hq
              exact keeps s k _ fun hk => hh (by rw [hk])
            next => rfl
          | settings | baseKey | activation | posts =>
            rw [handle_sameBut _ s .alloc (by simp [HandOver.parts])]
          | planner | flag | coverage | candidates | block => exact hand.elim
        rw [kept]
        exact hin.imp_right fun hm => List.mem_append_right _ ((List.mem_cons.1 hm).resolve_left (Ne.symm hh))
    · exact .inr (List.mem_append_left _ told)

theorem allocAfter_gate (s : State) (p : Position) (e : AllocEvent) (r : AllocRec) :
    (allocAfter s p e r).gate = if e = .gate then s.gateOpen else r.gate := by
  have absorbed : (absorb s p e r).gate = if e = .gate then s.gateOpen else r.gate := by
    cases e with
    | carriage => cases h : r.status <;> simp [absorb, h]
    | _ => simp [absorb]
  unfold allocAfter
  split
  · obtain ⟨-, -, gate, -⟩ := recompute_inputs s p (absorb s p e r)
    exact gate.trans absorbed
  · exact absorbed

theorem allocAfter_rescue (s : State) (p : Position) (e : AllocEvent) (r : AllocRec) (ch : ChannelNo) :
    (allocAfter s p e r).rescue[ch] = if e = .rescue ch then s.voters[ch].state != .idle else r.rescue[ch] := by
  have absorbed : (absorb s p e r).rescue[ch] = if e = .rescue ch then s.voters[ch].state != .idle else r.rescue[ch] := by
    cases e with
    | carriage => cases h : r.status <;> simp [absorb, h]
    | rescue c =>
      simp only [absorb, vector_get_set, AllocEvent.rescue.injEq]
      exact if_ctx_congr eq_comm (fun h => by rw [h]) fun _ => rfl
    | _ => simp [absorb]
  unfold allocAfter
  split
  · obtain ⟨-, -, -, rescue, -⟩ := recompute_inputs s p (absorb s p e r)
    exact (congrArg (fun v : Vector Bool 4 => v[ch]) rescue).trans absorbed
  · exact absorbed

/-- A position whose announcement another carrying changes is a member of a zone that changes (R138). -/
theorem mem_carryingChanged {s : State} {b : BreakInUnit} {p : Position}
    (h : State.announced { s with breakin := b } p ≠ s.announced p) :
    p ∈ carryingChanged s s.breakin.carrying b.carrying := by
  refine List.mem_filter.2 ⟨mem_allPositions p, ?_⟩
  by_contra hn
  refine h (congrArg (List.any (List.finRange 8)) (funext fun z => ?_))
  have same : ¬(s.breakin.carrying[z] ≠ b.carrying[z] ∧ p ∈ s.work.zones[z]) := fun hz =>
    hn (List.any_eq_true.2 ⟨z, List.mem_finRange z, by simpa [-Fin.getElem_fin] using hz⟩)
  by_cases hm : p ∈ s.work.zones[z]
  · have carrying : s.breakin.carrying[z] = b.carrying[z] := not_not.1 fun hc => same ⟨hc, hm⟩
    simp only [carrying]
  · simp only [hm, decide_false, Bool.and_false]

/-- What the allocation records hold once all events are taken: the gate, the announcements and the voters' activity. -/
theorem ResetTakes.inputs (unfed : ∀ p, (new.unitState p).side = none) (few : new.activePlan.templates.length ≤ 4)
    {x : Handed} (start : ResetTakes new preferred limit x.1 x.2) (hsum : (x.2.map HandOver.resetWeight).sum ≤ settleFuel)
    (p : Position) :
    ((posGet x.1.alloc p).gate = x.1.gateOpen → (posGet (settled x).alloc p).gate = (settled x).gateOpen) ∧
    ((posGet x.1.alloc p).announced = x.1.announced p → (posGet (settled x).alloc p).announced = (settled x).announced p) ∧
    ∀ ch : ChannelNo, (posGet x.1.alloc p).rescue[ch] = (x.1.voters[ch].state != .idle) →
      (posGet (settled x).alloc p).rescue[ch] = ((settled x).voters[ch].state != .idle) := by
  refine ⟨fun h => ?_, fun h => ?_, fun ch h => ?_⟩
  · refine ResetTakes.input unfed few AllocRec.gate State.gateOpen p .gate (fun s r => ?_) (fun s k r hk => ?_)
      (fun _ _ => rfl) (fun s k hs ht => ?_) start h hsum
    · rw [allocAfter_gate, if_pos rfl]
    · rw [allocAfter_gate, if_neg hk]
    · have hand := ht.runs.hands k (List.mem_cons_self ..)
      cases k with
      | settings a b =>
        have acts := refActs_settingsEvent (s := s) a b
        refine acts.gate.imp (fun same => ?_) fun all => all p
        rw [State.gateOpen, handle, acts.reference, same, State.gateOpen]
      | alloc | baseKey | activation | posts =>
        left
        rw [State.gateOpen, handle_sameBut _ s .reference (by simp [HandOver.parts]), State.gateOpen]
      | planner | flag | coverage | candidates | block => exact hand.elim
  · refine ResetTakes.input unfed few AllocRec.announced (State.announced · p) p .cls (fun s r => ?_) (fun s k r hk => ?_)
      (fun _ _ => rfl) (fun s k hs ht => ?_) start h hsum
    · rw [allocAfter_announced, if_pos rfl]
    · rw [allocAfter_announced, if_neg hk]
    · have hand := ht.runs.hands k (List.mem_cons_self ..)
      cases k with
      | activation =>
        have acts := activationEvent_start ht.activation.due.1
        by_cases same : State.announced { s with breakin := firstBreakIn s } p = s.announced p
        · left
          rw [handle, acts]
          exact same
        · right
          have changed := mem_carryingChanged same
          rw [ht.activation.due.1] at changed
          rw [handle, acts]
          exact List.mem_cons_of_mem _ (List.mem_append_left _ (List.mem_map_of_mem changed))
      | alloc | baseKey | settings | posts =>
        left
        refine announced_congr ?_ ?_ p
        · exact handle_sameBut _ s .breakin (by simp [HandOver.parts])
        · exact handle_sameBut _ s .work (by simp [HandOver.parts])
      | planner | flag | coverage | candidates | block => exact hand.elim
  · refine ResetTakes.input unfed few (·.rescue[ch]) (fun s => s.voters[ch].state != .idle) p (.rescue ch) (fun s r => ?_)
      (fun s k r hk => ?_) (fun _ _ => rfl) (fun s k hs ht => ?_) start h hsum
    · exact (allocAfter_rescue s p (.rescue ch) r ch).trans (if_pos rfl)
    · exact (allocAfter_rescue s p k r ch).trans (if_neg hk)
    · have hand := ht.runs.hands k (List.mem_cons_self ..)
      cases k with
      | baseKey c =>
        have keyed := baseKeyed_start (ht.keys c).due.1.2
        rw [handle, keyed]
        by_cases hc : c = ch
        · subst hc
          exact .inr (mem_allocEverywhere.2 ⟨p, rfl⟩)
        · left
          rw [State.post_voters, State.setVoter_voters, vector_get_set, if_neg (Ne.symm hc)]
      | alloc | activation | settings | posts =>
        left
        rw [handle_sameBut _ s .voters (by simp [HandOver.parts])]
      | planner | flag | coverage | candidates | block => exact hand.elim

end

end Sys2Proof.Machine
end

section
/-! SUPPORT. The state that a reset brings the blocks to before its hand-overs are taken (R19, R43, R62, R76, R89, R106, R123,
R143, R162, R177, R179), and what these find there. -/

namespace Sys2Proof.Machine

open Sys2Proof

/-- A state with its tables loaded in working and in stored form, no write in flight, and plan 0 active. -/
def loaded (s : State) (x : Store) : State := { s with work := x, stored := x, inFlight := [], plans := .start }

/-- The blocks reset over loaded tables, and the events of the reset's end. -/
def resetHanded (kind : ResetKind) (straps : Nat) (s : State) (x : Store) : Handed :=
  let new := blocksReset kind straps (loaded s x)
  (new, changedSettings kind s.work.reference x.reference ++ assertedKeys new ++ [.activation])

theorem completeWrites_eq (keys : List StoreKey) (s : State) : ∃ w d f,
    keys.foldl (fun x key => completeWrite key x) s = { s with work := w, stored := d, inFlight := f } := by
  induction keys generalizing s with
  | nil => exact ⟨s.work, s.stored, s.inFlight, rfl⟩
  | cons key keys ih =>
    obtain ⟨w, d, f, h⟩ := ih (completeWrite key s)
    exact ⟨w, d, f, h⟩

theorem endReset_eq (kind : ResetKind) (straps : Nat) (written : List StoreKey) (s : State) :
    endReset kind straps written s = resetHanded kind straps s (s.finished written).stored.repaired := by
  obtain ⟨w, d, f, h⟩ := completeWrites_eq (written.filter (· ∈ s.inFlight)) s
  have reloaded : reload written s = loaded s (s.finished written).stored.repaired := by
    simp only [reload, loaded, State.finished, h]
  simp only [endReset, resetHanded, reloaded]
  rfl

section
variable (kind : ResetKind) (straps : Nat) (s : State) (x : Store)

/-- Whether the reload has changed the preferred source of a kept unit. -/
def preferredChanged : Bool := kind.keepsReference && s.work.reference.preferred != x.reference.preferred

/-- Whether the reload has changed the holdover limit of a kept unit. -/
def limitIsChanged : Bool := kind.keepsReference && s.work.reference.limit != x.reference.limit

theorem resetHanded_unfed (p : Position) : ((resetHanded kind straps s x).1.unitState p).side = none := by
  have units (r : Ring) (u : UnitNo) : ((resetRing (loaded s x) r).units[u]).side = none := by
    rw [resetRing, tabulate_getElem]
    split <;> rfl
  obtain ⟨r, u⟩ := p
  cases r <;> exact units _ u

theorem resetHanded_alloc (p : Position) : posGet (resetHanded kind straps s x).1.alloc p =
    resetAlloc (resetHanded kind straps s x).1 p := posGet_forPositions _ p

theorem resetHanded_vacant (p : Position) :
    StillVacant (resetHanded kind straps s x).1 p (posGet (resetHanded kind straps s x).1.alloc p) := by
  rw [resetHanded_alloc]
  refine ⟨rfl, rfl, ?_, rfl, fun _ _ => ⟨rfl, rfl, rfl, rfl, rfl, rfl, rfl⟩, fun side active => by cases active⟩
  simp only [resetAlloc, AllocRec.start, marginInForce]
  cases (resetHanded kind straps s x).1.override <;> rfl

/-- A unit that is not kept starts afresh (R76). -/
theorem resetHanded_reference_fresh (h : kind = .powerOn ∨ kind = .supplyDip) :
    (preferredChanged kind s x = false ∧ limitIsChanged kind s x = false) ∧
      (resetHanded kind straps s x).1.reference = { RefRec.start s.now with
        refIn := ⟨false, s.reference.refIn.valid, s.now⟩, pilot := ⟨false, s.reference.pilot.valid, s.now⟩ } := by
  rcases h with rfl | rfl <;> exact ⟨⟨rfl, rfl⟩, rfl⟩

/-- A kept unit is told of what the reload has changed (R76). -/
theorem resetHanded_reference_kept (h : kind = .resetLine ∨ kind = .restart) :
    (preferredChanged kind s x = (s.work.reference.preferred != x.reference.preferred) ∧
      limitIsChanged kind s x = (s.work.reference.limit != x.reference.limit)) ∧
      (resetHanded kind straps s x).1.reference = s.reference := by
  rcases h with rfl | rfl <;> exact ⟨⟨Bool.true_and _, Bool.true_and _⟩, rfl⟩

theorem resetHanded_voter (ch : ChannelNo) : (resetHanded kind straps s x).1.voters[ch] =
    .start (coverageOf (resetHanded kind straps s x).1 ch) := tabulate_getElem _ ch

theorem changedSettings_eq : changedSettings kind s.work.reference x.reference =
    if kind.keepsReference then [.settings (preferredChanged kind s x) (limitIsChanged kind s x)] else [] := by
  unfold changedSettings preferredChanged limitIsChanged
  cases kind.keepsReference <;> rfl

theorem mem_changedSettings {h : HandOver} (hh : h ∈ changedSettings kind s.work.reference x.reference) :
    h = .settings (preferredChanged kind s x) (limitIsChanged kind s x) := by
  rw [changedSettings_eq] at hh
  split at hh
  · exact List.mem_singleton.1 hh
  · cases hh

theorem mem_assertedKeys {t : State} {h : HandOver} :
    h ∈ assertedKeys t ↔ ∃ ch : ChannelNo, t.baseLane[ch] = true ∧ h = .baseKey ch := by
  rw [assertedKeys, List.mem_map]
  exact exists_congr fun ch => and_congr (List.mem_filter.trans (and_iff_right (List.mem_finRange ch))) eq_comm

theorem resetHanded_runs : ResetRuns (resetHanded kind straps s x).1 (preferredChanged kind s x) (limitIsChanged kind s x)
    (resetHanded kind straps s x).1 (resetHanded kind straps s x).2 := by
  refine ⟨SameBut.refl _ _, fun h hh => ?_, resetHanded_vacant kind straps s x, fun _ _ => rfl⟩
  rcases List.mem_append.1 hh with hh | hh
  · rcases List.mem_append.1 hh with hh | hh
    · obtain rfl := mem_changedSettings kind s x hh
      exact ⟨rfl, rfl⟩
    · obtain ⟨ch, -, rfl⟩ := mem_assertedKeys.1 hh
      trivial
  · obtain rfl := List.mem_singleton.1 hh
    trivial

theorem resetHanded_weight : ((resetHanded kind straps s x).2.map HandOver.resetWeight).sum ≤ settleFuel := by
  have settings : ((changedSettings kind s.work.reference x.reference).map HandOver.resetWeight).sum ≤ 97 := by
    rw [changedSettings_eq]
    split <;> simp [HandOver.resetWeight, HandOver.weight]
  have keys (t : State) : ((assertedKeys t).map HandOver.resetWeight).sum ≤ 100 := by
    have few (f : ChannelNo → Bool) : ((List.finRange 4).filter f).length ≤ 4 :=
      (List.length_filter_le f _).trans (List.length_finRange ..).le
    simp only [assertedKeys, List.map_map, Function.comp_def, HandOver.resetWeight, HandOver.weight, List.map_const',
      List.sum_replicate, smul_eq_mul]
    exact Nat.mul_le_mul_right 25 (few _)
  have keys := keys (resetHanded kind straps s x).1
  have fuel : 282 ≤ settleFuel := by decide
  simp only [resetHanded, List.map_append, List.sum_append] at keys ⊢
  simp only [List.map_cons, List.map_nil, List.sum_cons, List.sum_nil, HandOver.resetWeight]
  omega

theorem count_activation : (resetHanded kind straps s x).2.count .activation = 1 := by
  have settings : HandOver.activation ∉ changedSettings kind s.work.reference x.reference := fun h => by
    cases mem_changedSettings kind s x h
  have keys (t : State) : HandOver.activation ∉ assertedKeys t := fun h => by
    obtain ⟨ch, -, h⟩ := mem_assertedKeys.1 h
    cases h
  simp only [resetHanded, List.count_append, List.count_eq_zero.2 settings, List.count_eq_zero.2 (keys _)]
  rfl

theorem count_settings : (resetHanded kind straps s x).2.count
    (.settings (preferredChanged kind s x) (limitIsChanged kind s x)) = if kind.keepsReference then 1 else 0 := by
  have keys (a b : Bool) (t : State) : HandOver.settings a b ∉ assertedKeys t := fun h => by
    obtain ⟨ch, -, h⟩ := mem_assertedKeys.1 h
    cases h
  simp only [resetHanded, List.count_append, List.count_eq_zero.2 (keys _ _ _), changedSettings_eq]
  split <;> simp

theorem count_baseKey (ch : ChannelNo) :
    (resetHanded kind straps s x).2.count (.baseKey ch) = if s.baseLane[ch] then 1 else 0 := by
  have settings : HandOver.baseKey ch ∉ changedSettings kind s.work.reference x.reference := fun h => by
    cases mem_changedSettings kind s x h
  have keys (t : State) : (assertedKeys t).count (.baseKey ch) = if t.baseLane[ch] then 1 else 0 := by
    have nodup : (assertedKeys t).Nodup :=
      ((List.nodup_finRange 4).filter _).map fun _ _ h => HandOver.baseKey.inj h
    split
    next h => exact List.count_eq_one_of_mem nodup (mem_assertedKeys.2 ⟨ch, h, rfl⟩)
    next h =>
      refine List.count_eq_zero.2 fun hm => ?_
      obtain ⟨c, hc, he⟩ := mem_assertedKeys.1 hm
      obtain rfl := HandOver.baseKey.inj he
      exact h hc
  simp only [resetHanded, List.count_append, List.count_eq_zero.2 settings, keys, Nat.zero_add]
  rfl

theorem resetHanded_takes : ResetTakes (resetHanded kind straps s x).1 (preferredChanged kind s x) (limitIsChanged kind s x)
    (resetHanded kind straps s x).1 (resetHanded kind straps s x).2 := by
  have activation := count_activation kind straps s x
  have settings := count_settings kind straps s x
  have unchanged (h : kind.keepsReference = false) (set : RefSettings) (now : Nat) (r : RefRec) :
      settingsOutcome (preferredChanged kind s x) (limitIsChanged kind s x) set now r = (r, []) := by
    simp [preferredChanged, limitIsChanged, h, settingsOutcome]
  refine ⟨resetHanded_runs kind straps s x, .inl ⟨activation, rfl⟩, fun ch => ?_, ?_, [], [], [],
    ⟨⟨rfl, rfl, fun _ => ⟨rfl, rfl⟩⟩, ?_, .refl _, .refl _⟩, ?_, .inl ⟨activation, rfl, ?_⟩⟩
  · have count := count_baseKey kind straps s x ch
    cases lane : s.baseLane[ch] with
    | true => exact .inl ⟨by rw [count, lane]; rfl, lane, resetHanded_voter kind straps s x ch⟩
    | false =>
      refine .inr ⟨by rw [count, lane]; rfl, (resetHanded_voter kind straps s x ch).trans ?_⟩
      have lane' : (resetHanded kind straps s x).1.baseLane[ch] = false := lane
      rw [keyedVoter, lane']
      rfl
  · cases keeps : kind.keepsReference with
    | true => exact .inl ⟨by rw [settings, keeps]; rfl, rfl⟩
    | false => exact .inr ⟨by rw [settings, keeps]; rfl, by rw [unchanged keeps]⟩
  · have idle (ch : ChannelNo) : (resetHanded kind straps s x).1.voters[ch].state = .idle := by
      rw [resetHanded_voter]
      rfl
    have none : keyNotes (resetHanded kind straps s x).1 (resetHanded kind straps s x).1 = [] := by
      rw [keyNotes, List.filter_eq_nil_iff.2 (fun ch _ => by simp [-Fin.getElem_fin, idle]), List.map_nil]
    rw [none]
    exact .refl _
  · cases keeps : kind.keepsReference with
    | true => exact .inl ⟨by rw [settings, keeps]; rfl, rfl⟩
    | false => exact .inr ⟨by rw [settings, keeps]; rfl, by rw [unchanged keeps]⟩
  · refine List.filterMap_eq_nil_iff.2 fun h hh => ?_
    rcases List.mem_append.1 hh with hh | hh
    · rcases List.mem_append.1 hh with hh | hh
      · obtain rfl := mem_changedSettings kind s x hh
        rfl
      · obtain ⟨ch, -, rfl⟩ := mem_assertedKeys.1 hh
        rfl
    · obtain rfl := List.mem_singleton.1 hh
      rfl

end

end Sys2Proof.Machine
end

section
/-! SUPPORT. What a reset leaves once its hand-overs are taken (R177). -/

namespace Sys2Proof.Machine

open Sys2Proof

section
variable (kind : ResetKind) (straps : Nat) (s : State) (x : Store)

/-- The allocation records of a reset hold the inputs in force (R106). -/
theorem resetHanded_inputs (p : Position) :
    let new := (resetHanded kind straps s x).1
    (posGet new.alloc p).gate = new.gateOpen ∧ (posGet new.alloc p).announced = new.announced p ∧
      ∀ ch : ChannelNo, (posGet new.alloc p).rescue[ch] = (new.voters[ch].state != .idle) := by
  simp only [resetHanded_alloc, resetHanded_voter]
  refine ⟨rfl, ?_, fun ch => ?_⟩
  · refine (List.any_eq_false.2 fun z _ => ?_ : (resetHanded kind straps s x).1.announced p = false).symm
    have silent : (resetHanded kind straps s x).1.breakin.carrying[z] = false := Vector.getElem_replicate ..
    rw [silent]
    simp
  · exact Vector.getElem_replicate ..

/-- What the taking of the hand-overs leaves of the blocks that they do not reach. -/
theorem resetHanded_same : SameBut resetParts (resetHanded kind straps s x).1 (settled (resetHanded kind straps s x)) :=
  let ⟨_, run⟩ := (resetHanded_runs kind straps s x).settled (resetHanded_unfed kind straps s x)
  run.same

/-- Where the stored templates of plan 0 are few, all that the reset hands on is taken. -/
theorem resetHanded_taken (few : ∀ y, x.plans[(0 : PlanNo)] = some y → y.templates.length ≤ 4) :
    let new := (resetHanded kind straps s x).1
    let t := settled (resetHanded kind straps s x)
    FirstSettled new ∧ ResetTakes new (preferredChanged kind s x) (limitIsChanged kind s x) t [] ∧
      ∀ p, (posGet t.alloc p).gate = t.gateOpen ∧ (posGet t.alloc p).announced = t.announced p ∧
        ∀ ch : ChannelNo, (posGet t.alloc p).rescue[ch] = (t.voters[ch].state != .idle) := by
  have templates : (resetHanded kind straps s x).1.activePlan.templates.length ≤ 4 := by
    show (x.plans[(0 : PlanNo)].getD .standing).templates.length ≤ 4
    cases h : x.plans[(0 : PlanNo)] with
    | none => simp [PlanRecord.standing]
    | some y => exact few y h
  have unfed := resetHanded_unfed kind straps s x
  have takes := resetHanded_takes kind straps s x
  have weight := resetHanded_weight kind straps s x
  refine ⟨firstSettled templates, ?_, fun p => ?_⟩
  · exact (ResetTakes.settled_invariant (I := fun _ _ => True) unfed templates (fun _ _ _ _ _ => trivial)
      (fun _ _ _ _ => trivial) (fun _ _ _ _ _ => trivial) takes trivial weight).1
  · obtain ⟨gate, announced, rescue⟩ := resetHanded_inputs kind straps s x p
    obtain ⟨gate', announced', rescue'⟩ := takes.inputs unfed templates weight p
    exact ⟨gate' gate, announced' announced, fun ch => rescue' ch (rescue ch)⟩

theorem Telling.over {told total : List Note} (h : Telling [] told total) : told = total := by
  rcases h with ⟨-, h⟩ | ⟨rest, h, -⟩
  · exact h
  · cases h

theorem TemplatesPosted.congr {s t : State} (hw : t.work = s.work) {p : PlanNo} {q' : List BreakIn} {n' : Nat}
    {ts : List Template} {i : Nat} {q : List BreakIn} {n : Nat} {notes : List Note}
    (h : TemplatesPosted s p q' n' i ts q n notes) : TemplatesPosted t p q' n' i ts q n notes := by
  induction ts generalizing i q n notes with
  | nil => exact h
  | cons a ts ih =>
    obtain ⟨unready, full, taken⟩ := h
    refine ⟨fun hr => ?_, fun hr hroom => ?_, fun hr hroom => ?_⟩
    all_goals rw [hw] at hr
    · obtain ⟨more, hn, h⟩ := unready hr
      exact ⟨more, hn, ih h⟩
    · obtain ⟨more, hn, h⟩ := full hr hroom
      exact ⟨more, hn, ih h⟩
    · obtain ⟨id, evicted, q₁, more, acc, hn, h⟩ := taken hr hroom
      exact ⟨id, evicted, q₁, more, acc, hn, ih h⟩

/-- In the end the records of the base keys are those of the keys asserted (R123). -/
theorem keyNotes_settled {new s t : State} {preferred limit : Bool} (takes : ResetTakes new preferred limit t [])
    (lane : t.baseLane = s.baseLane) (work : t.work = new.work) :
    keyNotes new t = ((List.finRange 4).filter fun ch => s.baseLane[ch]).map
      fun ch => ⟨.rescueActive, .notice, voterSubject t ch, [.channel ch, .named 2]⟩ := by
  have lanes : new.baseLane = s.baseLane := (takes.runs.same .baseLane (by simp [resetParts])).symm.trans lane
  have active (ch : ChannelNo) : decide (t.voters[ch].state ≠ .idle) = s.baseLane[ch] := by
    rw [(takes.keys ch).over, keyedVoter, lanes]
    cases s.baseLane[ch] <;> rfl
  have subject (ch : ChannelNo) : voterSubject new ch = voterSubject t ch := by
    simp only [voterSubject, rescueCarrier, work]
  simp only [keyNotes, active]
  exact List.map_congr_left fun ch _ => by rw [keyNote, subject]

/-- What R177 says of a reset, on the tables that it loads. -/
theorem afterReset : AfterReset kind straps s (settled (resetHanded kind straps s x)) := by
  obtain ⟨rest, run⟩ := (resetHanded_runs kind straps s x).settled (resetHanded_unfed kind straps s x)
  have taken := resetHanded_taken kind straps s x
  have logs := settled_logs (resetHanded kind straps s x)
  generalize settled (resetHanded kind straps s x) = t at run taken logs
  have part (y : Part) (hy : y ∉ resetParts := by simp [resetParts]) : y.same (resetHanded kind straps s x).1 t :=
    run.same y hy
  have work : t.work = x := part .work
  have plans : t.plans = .start := part .plans
  have now : t.now = s.now := part .clock
  have lane : t.baseLane = s.baseLane := part .baseLane
  have unit (p : Position) : (loaded s x).unit p = t.unit p := by rw [State.unit, State.unit, work]; rfl
  have length (r : Ring) : (loaded s x).ringLength r = t.ringLength r := by simp only [State.ringLength, unit]
  have rings (r : Ring) : t.rings.get r = resetRing (loaded s x) r := by
    rw [show t.rings = ⟨resetRing (loaded s x) .n, resetRing (loaded s x) .s⟩ from part .rings]
    cases r <;> rfl
  have coverage (ch : ChannelNo) : coverageOf (resetHanded kind straps s x).1 ch = coverageOf t ch :=
    (coverageOf_congr (s := (resetHanded kind straps s x).1) work plans ch).symm
  have plan : (loaded s x).activePlan = t.activePlan := (activePlan_congr (s := loaded s x) work plans).symm
  replace taken (few : ∀ y, t.work.plans[(0 : PlanNo)] = some y → y.templates.length ≤ 4) := taken (work ▸ few)
  refine ⟨⟨now, lane, part .pending⟩, ⟨(part .resets).1, (part .resets).2.1, (part .resets).2.2.1, part .straps⟩,
    ⟨work.trans (part .stored).symm, part .inFlight⟩, fun p => ?_, fun p => ?_, fun r => ?_, fun p => ?_, fun hk => ?_,
    fun hk set => ?_, fun path => ?_, fun p => ?_, fun few p => ?_, fun few ch => ?_, fun few => ?_, plans, fun c => ?_,
    fun port => ?_, ?_, fun few => ?_, ?_⟩
  · rw [show t.spans = ⟨.start s.now, .start s.now, .start s.now, .start s.now⟩ from part .spans]
    obtain ⟨r, d⟩ := p
    cases r <;> cases d <;> rfl
  · rw [show t.beacons = forPositions (resetBeacon (loaded s x)) from part .beacons, posGet_forPositions, resetBeacon, unit]
    split <;> rfl
  · rw [rings, ← length]
    exact ⟨rfl, rfl⟩
  · rw [State.unitState, rings, ← unit]
    exact ⟨tabulate_getElem _ p.unit, Vector.getElem_replicate .., Vector.getElem_replicate ..⟩
  · obtain ⟨⟨preferred, limit⟩, reference⟩ := resetHanded_reference_fresh kind straps s x hk
    exact (run.reference preferred limit).trans reference
  · obtain ⟨⟨preferred, limit⟩, reference⟩ := resetHanded_reference_kept kind straps s x hk
    rw [← work, set, bne_self_eq_false] at preferred limit
    exact (run.reference (work ▸ preferred) (work ▸ limit)).trans reference
  · rw [show t.carriage = ⟨.start (loaded s x).activePlan.listN, .start (loaded s x).activePlan.listN,
      .start (loaded s x).activePlan.listS, .start (loaded s x).activePlan.listS⟩ from part .carriage, plan]
    obtain ⟨r, d⟩ := path
    cases r <;> cases d <;> rfl
  · exact ⟨(run.vacant p).status, (run.vacant p).override, (run.vacant p).allocated⟩
  · obtain ⟨-, takes, inputs⟩ := taken few
    obtain ⟨gate, announced, rescue⟩ := inputs p
    refine ⟨gate, announced, fun ch => (rescue ch).trans ?_⟩
    rw [(takes.keys ch).over]
    show ((if s.baseLane[ch] = true then VoterState.base else .idle) != .idle) = s.baseLane[ch]
    cases s.baseLane[ch] <;> rfl
  · obtain ⟨-, takes, -⟩ := taken few
    rw [(takes.keys ch).over, keyedVoter, coverage]
    rfl
  · obtain ⟨first, takes, -⟩ := taken few
    have zone (p : Position) : (resetHanded kind straps s x).1.zoneOfPosition p = t.zoneOfPosition p := by
      rw [State.zoneOfPosition, State.zoneOfPosition, work]
      rfl
    rw [takes.activation.over, now]
    exact ⟨first.queue, first.carrying, fun p => zone p ▸ first.heard p⟩
  · rw [show t.contacts = tabulate (resetContact (loaded s x)) from part .contacts, tabulate_getElem]
    rfl
  · have quiet : (t.mgmt.get port).quiet = ((resetHanded kind straps s x).1.mgmt.get port).quiet :=
      part .ports (by simp [resetParts]) port
    rw [quiet, ← keptExchange_eq]
    cases port <;> rfl
  · obtain ⟨es, logs⟩ := logs
    exact ⟨(resetHanded kind straps s x).1, rfl, rfl, ⟨es, logs.2.2⟩, fun port => by cases port <;> exact ⟨rfl, rfl⟩⟩
  · obtain ⟨first, takes, -⟩ := taken few
    obtain ⟨moves, told, all, tells, moved, posts⟩ := takes.records
    obtain rfl := posts.over.over
    obtain rfl := moved.over
    have air : (firstBreakIn (resetHanded kind straps s x).1).queue = t.breakin.queue := by rw [takes.activation.over]
    have keys := keyNotes_settled takes (t := t) lane work
    have whole := tells.whole
    have sub := tells.told
    rw [firstNotes, air] at whole sub
    rw [keys] at whole
    refine ⟨(resetHanded kind straps s x).1, (firstPosts (resetHanded kind straps s x).1).queue, _,
      (firstPosts (resetHanded kind straps s x).1).notes, all, ⟨rfl, rfl, fun port => by cases port <;> exact ⟨rfl, rfl⟩⟩,
      fun hk => ?_, fun hk => ?_, ?_, ?_, whole, tells.moves, sub, tells.queues.2.2⟩
    · obtain ⟨⟨preferred, limit⟩, -⟩ := resetHanded_reference_fresh kind straps s x hk
      rw [preferred, limit]
      rfl
    · obtain ⟨⟨preferred, limit⟩, reference⟩ := resetHanded_reference_kept kind straps s x hk
      rw [takes.settings.over]
      refine settingsOutcome_kept s.work.reference t s.reference ?_
      rw [work, now, preferred, limit, reference]
      rfl
    · rw [← air]
      exact first.posted.1
    · rw [takes.activation.over, ← plan]
      exact first.posted.2.congr work
  · rw [show t.watch = resetWatch (loaded s x) from part .watch, work]
    rfl

end

end Sys2Proof.Machine
end

section
/-! SUPPORT. The end of a reset and RESTART as commands (R15, R127, R177, R178). -/

namespace Sys2Proof.Machine

open Sys2Proof

/-- What a reset leaves is told by the clock, the lanes and pins, the reference unit, the contacts and the ports' exchanges of
the state before it. -/
theorem AfterReset.congr {kind : ResetKind} {straps : Nat} {u s t : State} (now : u.now = s.now)
    (lane : u.baseLane = s.baseLane) (pending : u.pending = s.pending) (reference : u.reference = s.reference)
    (settings : u.work.reference = s.work.reference) (contacts : u.contacts = s.contacts)
    (exchange : ∀ port, (u.mgmt.get port).exchange = (s.mgmt.get port).exchange) (h : AfterReset kind straps u t) :
    AfterReset kind straps s t := by
  obtain ⟨frame, reset, store, spans, beacons, hops, units, fresh, kept, carriage, alloc, inputs, voters, requests, plans, cs,
    ports, events, records, watch⟩ := h
  simp only [now, lane, pending, reference, settings, contacts] at frame reset spans fresh kept inputs voters cs
  simp only [now, lane, reference, settings, exchange] at ports events records watch
  exact ⟨frame, reset, store, spans, beacons, hops, units, fresh, kept, carriage, alloc, inputs, voters, requests, plans, cs,
    ports, events, records, watch⟩

theorem settled_resetHanded_restarts (kind : ResetKind) (straps : Nat) (s : State) (x : Store) :
    (settled (resetHanded kind straps s x)).restarts = s.restarts :=
  let ⟨_, _, _, restarts⟩ := resetHanded_same kind straps s x .resets (by simp [resetParts])
  restarts

theorem recordedKind_eq (causes : List ResetKind) : recordedKind causes = firstCause causes := rfl

/-- The clips that a reset loads (R127). -/
theorem repairClips_loaded (t : Vector Clip 64) (c : ClipNo) :
    let shares (d : ClipNo) : Prop := t[d].state = .ready ∧
      t[d].first < t[c].first + t[c].pages ∧ t[c].first < t[d].first + t[d].pages
    (t[c].state = .empty → (repairClips t)[c] = t[c]) ∧
    (t[c].state = .loading → (repairClips t)[c] = ⟨.empty, 0, 0, 0⟩) ∧
    (t[c].state = .ready → (∃ d < c, shares d) → (repairClips t)[c] = ⟨.empty, 0, 0, 0⟩) ∧
    (t[c].state = .ready → (∀ d < c, ¬shares d) → (repairClips t)[c] = t[c]) := by
  have shared (d : ClipNo) : sharePage t[d] t[c] = true ↔
      t[d].first < t[c].first + t[c].pages ∧ t[c].first < t[d].first + t[d].pages := by
    rw [sharePage, Bool.and_eq_true, decide_eq_true_iff, decide_eq_true_iff]
  simp only [repairClips_get, shared]
  refine ⟨fun h => ?_, fun h => ?_, fun h hs => ?_, fun h hs => ?_⟩
  · rw [h]
  · rw [h]
    rfl
  · rw [h]
    exact if_pos hs
  · rw [h]
    exact if_neg fun ⟨d, hd, hs'⟩ => hs d hd hs'

/-- A RESTART while a store write is in flight is refused with BUSY (R178). -/
theorem exec_restart_busy {port : MgmtPort} {tag : Byte} {s : State} (h : Serves s port .restart) (hf : s.inFlight ≠ []) :
    exec (.restart port tag) s = .next ((watchFrame port s).withReply port ⟨0x07, tag, .busy, []⟩) := by
  have hw := watchFrame_sameBut port s
  have room : ((watchFrame port s).mgmt.get port).outstanding < 2 := by
    rw [outstanding_of_quiet (hw .ports (by simp) port)]
    exact h.1.2.2
  have listens : s.listening port = true := by simp [State.listening, State.inReset, h.1.1, h.1.2.1]
  have taken : takeRequestOn port tag 0x07 (.request .restart) (watchFrame port s) =
      conclude port tag 0x07 (refuse (watchFrame port s) .busy) := by
    simp only [takeRequestOn, admission_serves h, watchFrame_inFlight, hf, and_false, if_false]
    rfl
  have received : receive port tag .restart s = settled (frameTaken port tag 0x07 (.request .restart) s) := by
    simp [receive, receiveFrame, listens, Request.decoded]
    rfl
  rw [exec_request rfl, received, frameTaken, if_pos room, taken, conclude_refuse, settled_nil]

theorem beginReset_sameBut (kind : ResetKind) (restarts : Nat) (s : State) :
    SameBut [.resets] s (beginReset kind { s with restarts := restarts }) := by
  intro y hy
  cases y <;> simp [Part.same, beginReset] at hy ⊢

/-- What a RESTART leaves: a reset of its kind with the tables as stored (R177, R178). -/
theorem afterRestart (port : MgmtPort) (s : State) :
    let t := settled (restartReset (watchFrame port s))
    AfterReset .restart (Config.strapPins s.restarts).val s t ∧ t.restarts = s.restarts + 1 ∧
      t.stored = s.stored.repaired := by
  intro t
  have same := watchFrame_sameBut port s
  have restarts := watchFrame_restarts (port := port) (s := s)
  generalize hu : beginReset .restart { watchFrame port s with restarts := (watchFrame port s).restarts + 1 } = u
  have ht : t = settled (endReset .restart (Config.strapPins s.restarts).val [] u) := by
    rw [← hu, ← restarts]
    rfl
  have begun : SameBut [.resets, .watch, .events] s u := by
    rw [← hu]
    exact (same.mono (by simp)).trans
      ((beginReset_sameBut .restart ((watchFrame port s).restarts + 1) (watchFrame port s)).mono (by simp))
  refine ⟨?_, ?_, ?_⟩
  · rw [ht, endReset_eq]
    refine (afterReset .restart _ u _).congr (begun .clock (by simp)) (begun .baseLane (by simp)) (begun .pending (by simp))
      (begun .reference (by simp)) ?_ (begun .contacts (by simp)) fun p => ?_
    · rw [begun .work (by simp)]
    · exact (congrArg MgmtRec.exchange (begun .ports (by simp) p) :)
  · rw [ht, endReset_eq, settled_resetHanded_restarts, ← hu, ← restarts]
    rfl
  · rw [ht, settled_endReset_stored]
    exact congrArg Store.repaired (begun .stored (by simp))

end Sys2Proof.Machine
end

section
open Sys2Proof Sys2Proof.Machine

/-- Settles O55: the blocks stand at their reset state over the loaded tables (`afterReset`), and what the reset hands on is
taken event by event (`ResetTakes.step`). -/
theorem resetsRestoreEveryBlock : Obligations.ResetsRestoreEveryBlock := by
  unfold Obligations.ResetsRestoreEveryBlock
  intro loads s straps written
  have loading (x : Store) (t : State) (h : t.stored = x.repaired) : loads x t :=
    ⟨by rw [h]; rfl, fun c => by rw [h]; exact repairClips_loaded x.clips c⟩
  refine ⟨fun hc => ?_, fun hc => ?_, fun port tag hs => ⟨exec_restart_busy hs, fun hf => ?_⟩⟩
  · have idle : s.inReset = false := by simp [State.inReset, hc]
    exact congrArg Host.Outcome.next (if_neg (by simp [idle]))
  · have stored := settled_endReset_stored (recordedKind s.causes) straps written s
    refine ⟨_, exec_resetEnd hc straps written, ?_, ?_, loading _ _ stored, fun none => ?_, fun key hk one => ?_⟩
    · rw [endReset_eq]
      exact afterReset _ straps s _
    · rw [endReset_eq]
      exact settled_resetHanded_restarts _ straps s _
    · rw [stored, State.finished, none]
      rfl
    · rw [stored, State.finished, one, List.filter_cons_of_pos (by simpa using hk)]
      rfl
  · obtain ⟨after, restarts, stored⟩ := afterRestart port s
    exact ⟨_, exec_restart hs hf, after, restarts, stored, loading _ _ stored⟩

end

section
/-! SUPPORT. Span ports: replies that are READY, port numbers, a hop that changes with what its ring's recomputation posts and
hands on, and a port in each of its states. -/

namespace Sys2Proof.Machine

open Sys2Proof

/-! ### Replies that are READY -/

/-- A served request that is carried out: its reply is READY, and what it hands on is taken. -/
theorem exec_done {i : Instr} {port : MgmtPort} {tag : Byte} {r : Request} (hi : i.request? = some (port, tag, r))
    {s : State} (h : Serves s port r) (hd : Request.decoded r = .request r) (hr : r ≠ .restart)
    {a : Answer} {p : List Field} {x : Handed} (hc : carry port (s.mgmt.get port).authority r (watchFrame port s) =
      done a p x) :
    exec i s = .next (settled (x.1.withReply port ⟨BitVec.ofNat 8 (Request.kind r), tag, a, p⟩, x.2)) := by
  rw [exec_serves hi h hd hr, hc, conclude_done]

/-- Where two states differ makes no difference to a reply that is READY in both. -/
theorem withReply_congr {changed : List Part} {s t : State} (h : SameBut changed s t) (port : MgmtPort) (r : Reply) :
    SameBut changed (s.withReply port r) (t.withReply port r) := by
  have quiet (u : State) (q : MgmtPort) : ((u.withReply port r).mgmt.get q).quiet = if q = port
      then { (u.mgmt.get port).quiet with ready := (u.mgmt.get port).quiet.ready ++ [r] } else (u.mgmt.get q).quiet := by
    simp only [State.withReply, State.setMgmt_mgmt, PerMgmt.get_set]
    split <;> rfl
  intro x hx
  have hxs := h x hx
  cases x with
  | ports =>
    intro q
    rw [quiet, quiet, hxs port, hxs q]
  | events =>
    intro q
    obtain ⟨he, ho⟩ := withReply_sameBut t port r .events (by simp) q
    obtain ⟨he', ho'⟩ := withReply_sameBut s port r .events (by simp) q
    exact ⟨he.trans ((hxs q).1.trans he'.symm), ho.trans ((hxs q).2.trans ho'.symm)⟩
  | _ => exact hxs

/-! ### Port numbers and one port's record -/

theorem spanOf_eq_some {n : Nat} {p : SpanPort} : spanOf n = some p ↔ spanNumber p = n := by
  obtain ⟨r, d⟩ := p
  unfold spanOf
  split <;> cases r <;> cases d <;> simp_all [spanNumber] <;> omega

@[simp] theorem spanOf_spanNumber (p : SpanPort) : spanOf (spanNumber p) = some p := spanOf_eq_some.2 rfl

theorem spanOf_eq_none {n : Nat} : spanOf n = none ↔ ∀ p, spanNumber p ≠ n := by
  simp [Option.eq_none_iff_forall_ne_some, spanOf_eq_some]

@[simp] theorem setSpan_setSpan (s : State) (p : SpanPort) (x y : Span) : (s.setSpan p x).setSpan p y = s.setSpan p y := by
  obtain ⟨r, d⟩ := p
  cases r <;> cases d <;> rfl

/-- The port that a record is set at has it. -/
theorem get_setSpan_self (s : State) (p : SpanPort) (x : Span) : (s.setSpan p x).spans.get p = x := by simp

theorem bump_eq (n : Nat) : bump n = min 65535 (n + 1) := by
  unfold bump
  split <;> omega

/-! ### A hop that changes (R20, R27, R52, R53) -/

/-- The record of a port has become `y`, `note` is posted, and the ring's topology record is formed afresh. -/
def hopHanded (p : SpanPort) (y : Span) (note : Note) (s : State) : Handed :=
  feedEvent p.ring .hop [] ((s.setSpan p y).post note)

theorem leaveUp_eq (p : SpanPort) (cause : DownCause) (next : Span → Span) (s : State) : leaveUp p cause next s =
    hopHanded p (next { s.spans.get p with buffer := ⟨[], false, false, (s.spans.get p).buffer.slips, [], false⟩ })
      (portDownNote p cause) s := rfl

theorem enterUp_eq (p : SpanPort) (g : Grade) (m : LinkMode) (partner : Partner) (s : State) : enterUp p g m partner s =
    hopHanded p { s.spans.get p with
      state := .up g m, timer := none, partner := partner, failed := 0, latch := none
      buffer := ⟨[], false, true, (s.spans.get p).buffer.slips, [], false⟩ } (portUpNote p g m) s := rfl

section
variable (p : SpanPort) (y : Span) (note : Note) (s : State)

/-- What the port's record was before makes no difference. -/
theorem hopHanded_setSpan (x : Span) : hopHanded p y note (s.setSpan p x) = hopHanded p y note s := by
  rw [hopHanded, setSpan_setSpan, hopHanded]

/-- The ring's new topology record. -/
theorem hopHanded_eq : hopHanded p y note s =
    applyRing p.ring .hop (recomputeRing (s.setSpan p y) p.ring []) ((s.setSpan p y).post note) :=
  congrArg (applyRing p.ring .hop · _) (recomputeRing_congr rfl rfl rfl rfl rfl p.ring [])

theorem hopHanded_ofRing : ∀ h ∈ (hopHanded p y note s).2, h.ofRing := by
  rw [hopHanded_eq, applyRing_hands]
  exact ringHands_ofRing _ _ _ _

theorem hopHanded_sameBut : SameBut [.spans, .rings, .events] s (hopHanded p y note s).1 := by
  rw [hopHanded_eq]
  exact (((setSpan_sameBut s p y).mono (by simp)).trans ((post_sameBut _ note).mono (by simp))).trans
    (applyRing_sameBut _ _ _ _)

variable {p y note s}

/-- The event of a changed hop, told of any state that has its ports and rings and has posted on. A port that has come to
UP has its mark already. -/
theorem hopEvent_of_logs {t : State} (hm : y.marked = y) (hs : t.spans = (hopHanded p y note s).1.spans)
    (hr : t.rings = (hopHanded p y note s).1.rings) (hl : Logs (hopHanded p y note s).1 t) : hopEvent p y note s t := by
  rw [hopHanded_eq] at hs hr hl
  have rings := hr.trans (applyRing_rings _ _ _ _)
  have spans (q : SpanPort) : t.spans.get q = pathMarked ((s.setSpan p y).post note) t q := by
    rw [hs]
    exact (applyRing_spans _ _ _ _ q).trans (pathMarked_congr rfl rfl hr.symm q)
  let units := (recomputeRing (s.setSpan p y) p.ring []).units
  refine ⟨?_, fun q hq => ?_, rings, (feedGroups (s.rings.get p.ring).units units).map (feedNote p.ring .hop), ?_,
    Posts.of_logs ?_ hl⟩
  · rw [spans]
    unfold pathMarked
    split <;> simp [hm]
  · rw [spans]
    unfold pathMarked
    simp [hq, fedFrom_eq_members]
  · rw [rings, State.post_rings, State.setSpan_rings, PerRing.get_set, if_pos rfl]
    exact feedGroups_reported p.ring .hop _ _
  · have set := setSpan_sameBut s p y
    exact (postAll_congr _ (post_congr note ⟨set .clock (by simp), (set .resets (by simp)).1, set .events (by simp)⟩)).trans
      (applyRing_queues _ _ _ _)

/-- A changed hop and all that follows it. -/
theorem hopHanded_settled (hm : y.marked = y) : SameBut fedParts s (settled (hopHanded p y note s)) ∧
    hopEvent p y note s (settled (hopHanded p y note s)) := by
  have taken := settled_ofRing (hopHanded_ofRing p y note s)
  refine ⟨((hopHanded_sameBut p y note s).mono (by simp [fedParts])).trans (taken.mono (by simp [ringParts, fedParts])), ?_⟩
  exact hopEvent_of_logs hm (taken .spans (by simp [ringParts])) (taken .rings (by simp [ringParts])) (settled_logs _)

/-- A request that changes a hop: its reply is READY. -/
theorem hopHanded_replied (hm : y.marked = y) (port : MgmtPort) (r : Reply) :
    let t := settled ((hopHanded p y note s).1.withReply port r, (hopHanded p y note s).2)
    SameBut fedParts (s.withReply port r) t ∧ hopEvent p y note s t := by
  intro t
  have taken : SameBut ringParts ((hopHanded p y note s).1.withReply port r) t :=
    settled_ofRing (x := ((hopHanded p y note s).1.withReply port r, (hopHanded p y note s).2)) (hopHanded_ofRing p y note s)
  refine ⟨((withReply_congr (hopHanded_sameBut p y note s) port r).mono (by simp [fedParts])).trans
    (taken.mono (by simp [ringParts, fedParts])), ?_⟩
  refine hopEvent_of_logs hm (taken .spans (by simp [ringParts])) (taken .rings (by simp [ringParts])) ?_
  exact (Logs.of_sameBut (withReply_sameBut _ port r) (by simp) (by simp) (by simp)).trans (settled_logs _)

end

end Sys2Proof.Machine
end

section
/-! SUPPORT. What the operations of a span port come to in each of its states. -/

namespace Sys2Proof.Machine

open Sys2Proof

/-! ### Grades (R25) -/

theorem GradeSet.has_inter (a b : GradeSet) (g : Grade) : GradeSet.has (GradeSet.inter a b) g =
    (GradeSet.has a g && GradeSet.has b g) := by
  cases g <;> rfl

theorem GradeSet.highest_eq_some {a : GradeSet} {g : Grade} (hg : GradeSet.has a g = true)
    (hmax : ∀ h, GradeSet.has a h = true → Grade.number h ≤ Grade.number g) : GradeSet.highest a = some g := by
  have above {h : Grade} (hn : Grade.number g < Grade.number h) : GradeSet.has a h = false :=
    Bool.eq_false_iff.2 fun hh => by have := hmax h hh; omega
  have g4 (hn : Grade.number g < 4) : a.g4 = false := above (h := .g4) hn
  have g3 (hn : Grade.number g < 3) : a.g3 = false := above (h := .g3) hn
  have g2 (hn : Grade.number g < 2) : a.g2 = false := above (h := .g2) hn
  cases g with
  | g1 => simp [GradeSet.highest, g4 (by decide), g3 (by decide), g2 (by decide), show a.g1 = true from hg]
  | g2 => simp [GradeSet.highest, g4 (by decide), g3 (by decide), show a.g2 = true from hg]
  | g3 => simp [GradeSet.highest, g4 (by decide), show a.g3 = true from hg]
  | g4 => exact if_pos hg

theorem GradeSet.highest_eq_none {a : GradeSet} (h : ∀ g, GradeSet.has a g = false) : GradeSet.highest a = none := by
  simp [GradeSet.highest, show a.g1 = false from h .g1, show a.g2 = false from h .g2, show a.g3 = false from h .g3,
    show a.g4 = false from h .g4]

section
variable {s : State} {p : SpanPort} {g : Grade} {m : LinkMode}

/-! ### What a port sends (R20, R23, R24, R39) -/

theorem lineSignal_silent (h : (s.spans.get p).state = .disabled ∨ (s.spans.get p).state = .breaking) :
    lineSignal s p = .silent := by
  rcases h with h | h <;> simp [lineSignal, h]

theorem lineSignal_advertise (h : (s.spans.get p).state = .advertise) :
    lineSignal s p = .advertisement (s.spans.get p).advertising (s.spans.get p).ownAck p := by
  simp [lineSignal, h]

theorem lineSignal_up (h : (s.spans.get p).state = .up g m) : lineSignal s p = .traffic := by
  simp [lineSignal, h]

theorem lineSignal_test {t : SpanTest} (h : (s.spans.get p).state = .test) (ht : (s.spans.get p).test = some t) :
    lineSignal s p = if t.loop = .far then .pattern t.pattern else .silent := by
  simp [lineSignal, h, ht]

/-! ### Negotiation (R23 to R27) -/

theorem breakEnded_breaking (h : (s.spans.get p).state = .breaking) : breakEnded p s =
    s.setSpan p ((s.spans.get p).toAdvertise s.now ((s.settings p).grades p.side)) := by
  simp [breakEnded, h]

theorem breakEnded_other (h : (s.spans.get p).state ≠ .breaking) : breakEnded p s = s := by
  simp only [breakEnded]

theorem failAttempt_none : failAttempt p none s = (s.setSpan p { (s.spans.get p).toBreak s.now with
    failed := min 65535 ((s.spans.get p).failed + 1) }, []) := by
  simp [failAttempt, bump_eq]

/-- The kind of event of a fault that an ADVERTISE period ends with (R26). -/
def LinkFault.event : LinkFault → EventKind
  | .negotiation => .negotiationFault
  | .parallel => .parallelFault

theorem failAttempt_some (kind : LinkFault) (detail : List Field) : failAttempt p (some (kind, detail)) s =
    (if (s.spans.get p).latch = some kind then s.setSpan p { (s.spans.get p).toBreak s.now with
        failed := min 65535 ((s.spans.get p).failed + 1) }
      else (s.setSpan p { (s.spans.get p).toBreak s.now with
        failed := min 65535 ((s.spans.get p).failed + 1), latch := some kind }).post
          ⟨kind.event, .warning, .span p, detail⟩, []) := by
  simp only [failAttempt, bump_eq]
  split
  · rfl
  · cases kind <;> rfl

theorem resolve_shared {theirs : GradeSet} {identity : Nat} (hg : GradeSet.has (s.spans.get p).advertising g = true ∧
      GradeSet.has theirs g = true)
    (hmax : ∀ h, GradeSet.has (s.spans.get p).advertising h = true ∧ GradeSet.has theirs h = true →
      Grade.number h ≤ Grade.number g) :
    resolve p theirs identity s = enterUp p g .negotiated (.advertised theirs identity) s := by
  have highest : GradeSet.highest (GradeSet.inter (s.spans.get p).advertising theirs) = some g :=
    GradeSet.highest_eq_some (by simp [GradeSet.has_inter, hg]) fun h hh => hmax h (by simpa [GradeSet.has_inter] using hh)
  rw [resolve, highest]

theorem resolve_none {theirs : GradeSet} {identity : Nat}
    (h : ∀ g, ¬(GradeSet.has (s.spans.get p).advertising g = true ∧ GradeSet.has theirs g = true)) :
    resolve p theirs identity s = failAttempt p (some (.negotiation, gradesField theirs)) s := by
  have highest : GradeSet.highest (GradeSet.inter (s.spans.get p).advertising theirs) = none :=
    GradeSet.highest_eq_none fun g => by
      rw [GradeSet.has_inter, Bool.eq_false_iff, Ne, Bool.and_eq_true]
      exact h g
  rw [resolve, highest]

theorem advertised_advertise (theirs : GradeSet) (ack : Bool) (identity : Nat)
    (h : (s.spans.get p).state = .advertise) : advertised p theirs ack identity s =
      let y := { s.spans.get p with
        partner := .advertised theirs identity, ownAck := true, heardAck := (s.spans.get p).heardAck || ack
        seen1 := false, seen2 := false }
      if y.heardAck then resolve p theirs identity (s.setSpan p y) else (s.setSpan p y, []) := by
  simp only [advertised, h]

theorem advertised_up (theirs : GradeSet) (ack : Bool) (identity : Nat) (h : (s.spans.get p).state = .up g m) :
    advertised p theirs ack identity s = leaveUp p .partnerRestart (Span.toBreak · s.now) s := by
  simp only [advertised, h]

theorem advertised_other (theirs : GradeSet) (ack : Bool) (identity : Nat)
    (h : (s.spans.get p).state = .disabled ∨ (s.spans.get p).state = .breaking ∨ (s.spans.get p).state = .test) :
    advertised p theirs ack identity s = (s, []) := by
  rcases h with h | h | h <;> simp only [advertised, h]

end

end Sys2Proof.Machine
end

section
open Sys2Proof Sys2Proof.Machine

/-- Settles O32: by the port's state. -/
theorem breakEndsInAdvertise : Obligations.BreakEndsInAdvertise := by
  intro s p hc x set
  have run : exec (.breakTimerExpiry p) s = .next (breakEnded p s) := congrArg Host.Outcome.next (inService_eq hc _)
  have grades : (s.settings p).grades p.side = set := by
    obtain ⟨r, d⟩ := p
    cases d <;> rfl
  refine ⟨lineSignal_silent, lineSignal_advertise, fun g m => lineSignal_up, fun h => ?_, fun h => ?_⟩
  · intro t
    have ended : breakEnded p s = t := by rw [breakEnded_breaking h, grades]; rfl
    have port : t.spans.get p = _ := get_setSpan_self s p _
    refine ⟨by rw [run, ended], ?_⟩
    rw [lineSignal_advertise (by rw [port]), port]
  · rw [run, breakEnded_other h]

/-- Settles O33: by the port's state, and in ADVERTISE by whether an acknowledge has been heard and a grade is shared. -/
theorem advertisementsResolve : Obligations.AdvertisementsResolve := by
  intro s p theirs ack identity hc x y cmd shared
  have run : exec cmd s = .next (settled (advertised p theirs ack identity s)) :=
    congrArg Host.Outcome.next (inService_eq hc _)
  have port : (s.setSpan p y).spans.get p = y := get_setSpan_self s p y
  have resolves (hs : x.state = .advertise) (hy : y.heardAck = true) :
      advertised p theirs ack identity s = resolve p theirs identity (s.setSpan p y) :=
    (advertised_advertise theirs ack identity hs).trans (if_pos hy)
  refine ⟨fun h => ?_, fun hs hy => ?_, fun g hs hy hg hmax => ?_, fun hs hy hno => ?_, fun g m hs => ?_⟩
  · rw [run, advertised_other _ _ _ h, settled_nil]
  · rw [run, (advertised_advertise theirs ack identity hs).trans (if_neg (Bool.eq_false_iff.1 hy)), settled_nil]
  · rw [run, resolves hs hy, resolve_shared (by rw [port]; exact hg) (by rw [port]; exact hmax), enterUp_eq, port,
      hopHanded_setSpan]
    exact ⟨_, rfl, hopHanded_settled rfl⟩
  · intro z
    rw [run, resolves hs hy, resolve_none (by rw [port]; exact hno), failAttempt_some, settled_nil, port]
    rw [setSpan_setSpan, setSpan_setSpan]
    by_cases hl : x.latch = some .negotiation
    · have latched : z = { y.toBreak s.now with failed := min 65535 (y.failed + 1) } := by
        simp only [z, ← hl]
        rfl
      rw [if_pos hl, if_pos hl, latched]
      rfl
    · rw [if_neg hl, if_neg hl]
      rfl
  · rw [run, advertised_up _ _ _ hs, leaveUp_eq]
    exact ⟨_, rfl, hopHanded_settled rfl⟩
end

section
/-! SUPPORT. Fixed idle patterns, the end of the advertise timer, the requests on a port and the span test, by the port's
state. -/

namespace Sys2Proof.Machine

open Sys2Proof

section
variable {s : State} {p : SpanPort} {g : Grade} {m : LinkMode} {pattern : IdlePattern}

/-! ### Idle patterns (R24, R26, R27) -/

/-- The port has recorded an advertisement of its partner (R24). -/
def Partner.recorded (x : Partner) : Prop := ∃ g i, x = .advertised g i

theorem patternSeen_idle (h : (s.spans.get p).state = .disabled ∨ (s.spans.get p).state = .breaking ∨
      (s.spans.get p).state = .test ∨ ((s.spans.get p).state = .advertise ∧ (s.spans.get p).partner.recorded) ∨
      (s.spans.get p).state = .up (patternGrade pattern) .parallel) : patternSeen p pattern s = (s, []) := by
  rcases h with h | h | h | ⟨h, g, i, hp⟩ | h
  · simp only [patternSeen, h]
  · simp only [patternSeen, h]
  · simp only [patternSeen, h]
  · simp only [patternSeen, h, hp]
  · simp [patternSeen, h]

/-- The port has noted a pattern (R24). -/
def Span.noting (x : Span) : IdlePattern → Span
  | .grade1 => { x with seen1 := true }
  | .grade2 => { x with seen2 := true }

theorem patternSeen_noted (h : (s.spans.get p).state = .advertise) (hp : ¬(s.spans.get p).partner.recorded) :
    patternSeen p pattern s = (s.setSpan p ((s.spans.get p).noting pattern), []) := by
  cases hq : (s.spans.get p).partner with
  | advertised g i => exact absurd ⟨g, i, hq⟩ hp
  | none => cases pattern <;> simp only [patternSeen, h, hq, Span.noting]
  | notNegotiating _ => cases pattern <;> simp only [patternSeen, h, hq, Span.noting]

theorem patternSeen_up (h : (s.spans.get p).state = .up g m) (hne : m ≠ .parallel ∨ g ≠ patternGrade pattern) :
    patternSeen p pattern s = leaveUp p .partnerRestart (Span.toBreak · s.now) s := by
  simp only [patternSeen, h]
  exact if_neg fun he => hne.elim (· he.1) (· he.2)

/-! ### The end of the advertise timer (R26) -/

theorem advertiseEnded_other (h : (s.spans.get p).state ≠ .advertise) : advertiseEnded p s = (s, []) := by
  simp only [advertiseEnded]

theorem advertiseEnded_failed (h : (s.spans.get p).state = .advertise) (hf : (s.spans.get p).partner.recorded ∨
    ((s.spans.get p).seen1 = false ∧ (s.spans.get p).seen2 = false)) : advertiseEnded p s = failAttempt p none s := by
  simp only [advertiseEnded, h]
  rcases hf with ⟨g, i, hp⟩ | ⟨h1, h2⟩
  · simp only [hp]
  · cases (s.spans.get p).partner <;> simp only [h1, h2]

theorem advertiseEnded_both (h : (s.spans.get p).state = .advertise) (hp : ¬(s.spans.get p).partner.recorded)
    (h1 : (s.spans.get p).seen1 = true) (h2 : (s.spans.get p).seen2 = true) :
    advertiseEnded p s = failAttempt p (some (.parallel, [])) s := by
  simp only [advertiseEnded, h]
  cases hq : (s.spans.get p).partner with
  | advertised g i => exact absurd ⟨g, i, hq⟩ hp
  | none => simp only [h1, h2]
  | notNegotiating _ => simp only [h1, h2]

theorem advertiseEnded_one (h : (s.spans.get p).state = .advertise) (hp : ¬(s.spans.get p).partner.recorded)
    (h1 : (s.spans.get p).seen1 = decide (pattern = .grade1)) (h2 : (s.spans.get p).seen2 = decide (pattern = .grade2)) :
    advertiseEnded p s = parallelUp p pattern s := by
  simp only [advertiseEnded, h]
  cases hq : (s.spans.get p).partner with
  | advertised g i => exact absurd ⟨g, i, hq⟩ hp
  | none => cases pattern <;> simp [h1, h2]
  | notNegotiating _ => cases pattern <;> simp [h1, h2]

/-! ### The span test (R38 to R40) -/

theorem running_of_test {x : Span} (h : x.state = .test) : x.running = x.test := by
  simp only [Span.running, h]

theorem running_of_not_test {x : Span} (h : x.state ≠ .test) : x.running = none := by
  simp only [Span.running]

section
variable {t : SpanTest}

theorem stopTest_idle (ending : TestEnding) (cond : SpanTest → Bool) (h : (s.spans.get p).running = none) :
    stopTest p ending cond s = s := by
  simp only [stopTest, h]

theorem stopTest_running (ending : TestEnding) (cond : SpanTest → Bool) (h : (s.spans.get p).running = some t) :
    stopTest p ending cond s = if cond t then endTest p t ending (Span.toBreak · s.now) s else s := by
  simp only [stopTest, h]

theorem testLocked_idle (h : (s.spans.get p).running = none) : testLocked p s = s := by
  simp only [testLocked, h]

theorem testLocked_running (h : (s.spans.get p).running = some t) :
    testLocked p s = s.setSpan p { s.spans.get p with test := some { t with locked := true } } := by
  simp only [testLocked, h]

theorem testError_idle (h : (s.spans.get p).running = none) : testError p s = s := by
  simp only [testError, h]

theorem testError_running (h : (s.spans.get p).running = some t) : testError p s = if t.locked then
    s.setSpan p { s.spans.get p with test := some { t with errors := min 65535 (t.errors + 1) } } else s := by
  simp only [testError, h, bump_eq]

/-- A test that has no error until it ends otherwise than unlocked or by a lost line has passed (R40). -/
theorem endTest_passable (ending : TestEnding) (next : Span → Span) (hl : ending ≠ .noLock) (hs : ending ≠ .lineLoss) :
    endTest p t ending next s = (s.setSpan p { next (s.spans.get p) with
      test := none
      lastTest := some ⟨t.errors == 0, t.errors, t.pattern, t.loop,
        if ending = .duration then t.duration else (s.now - t.since) / 1000, ending⟩ }).post
      ⟨.testDone, if t.errors = 0 then .notice else .warning, .span p,
        [.named (if t.errors = 0 then 0 else 1), .count t.errors, .named ending.ctorIdx]⟩ := by
  have pass : (ending != .noLock && ending != .lineLoss && t.errors == 0) = (t.errors == 0) := by
    rw [bne_iff_ne.2 hl, bne_iff_ne.2 hs, Bool.true_and, Bool.true_and]
  simp only [endTest, if_neg hl, pass, beq_iff_eq, elapsed]

theorem signalLost_up (h : (s.spans.get p).state = .up g m) : signalLost p s = leaveUp p .lossOfSignal
    (Span.toBreak · s.now) (s.setSpan p { s.spans.get p with lossOfSignal := true }) := by
  simp only [signalLost, h]

theorem signalLost_test (h : (s.spans.get p).state = .test) : signalLost p s =
    (stopTest p .lineLoss (fun t => t.loop = .far) (s.setSpan p { s.spans.get p with lossOfSignal := true }), []) := by
  simp only [signalLost, h]

theorem signalLost_other (h : (s.spans.get p).state = .disabled ∨ (s.spans.get p).state = .breaking ∨
    (s.spans.get p).state = .advertise) :
    signalLost p s = (s.setSpan p { s.spans.get p with lossOfSignal := true }, []) := by
  rcases h with h | h | h <;> simp only [signalLost, h]

end

end

end Sys2Proof.Machine
end

section
open Sys2Proof Sys2Proof.Machine

/-- Settles O34: by the port's state, and in ADVERTISE by what has been recorded and seen. -/
theorem patternsAndAdvertiseEnd : Obligations.PatternsAndAdvertiseEnd := by
  intro s p pattern hc x recorded failed
  have seen : exec (.idlePatternReceived p pattern) s = .next (settled (patternSeen p pattern s)) :=
    congrArg Host.Outcome.next (inService_eq hc _)
  have ended : exec (.advertiseTimerExpiry p) s = .next (settled (advertiseEnded p s)) :=
    congrArg Host.Outcome.next (inService_eq hc _)
  refine ⟨fun h => ?_, fun hs hr => ?_, fun g m hs hne => ?_, fun hs => ?_, fun hs hf => ?_, fun hs hr h1 h2 => ?_,
    fun hs hr h1 h2 => ⟨fun hg => ?_, fun hg => ?_⟩⟩
  · rw [seen, patternSeen_idle h, settled_nil]
  · rw [seen, patternSeen_noted hs hr, settled_nil]
    rfl
  · rw [seen, patternSeen_up hs hne, leaveUp_eq]
    exact ⟨_, rfl, hopHanded_settled rfl⟩
  · rw [ended, advertiseEnded_other hs, settled_nil]
  · rw [ended, advertiseEnded_failed hs hf, failAttempt_none, settled_nil]
    rfl
  · rw [ended, advertiseEnded_both hs hr h1 h2, failAttempt_some, settled_nil]
    rfl
  · rw [ended, advertiseEnded_one hs hr h1 h2, parallelUp, if_pos hg, enterUp_eq]
    exact ⟨_, rfl, hopHanded_settled rfl⟩
  · rw [ended, advertiseEnded_one hs hr h1 h2, parallelUp, if_neg (Bool.eq_false_iff.1 hg), failAttempt_some, settled_nil]
    rfl

/-- Settles O35: by the port's state, and in TEST by the loop. -/
theorem lossOfSignalLeavesUp : Obligations.LossOfSignalLeavesUp := by
  intro s p hc x y
  have run : exec (.lossOfSignal p) s = .next (settled (signalLost p s)) := congrArg Host.Outcome.next (inService_eq hc _)
  have port : (s.setSpan p y).spans.get p = y := get_setSpan_self s p y
  refine ⟨congrArg Host.Outcome.next (inService_eq hc _), fun h => ?_, fun g m hs => ?_, fun test hs ht => ?_⟩
  · rw [run, signalLost_other h, settled_nil]
  · rw [run, signalLost_up hs, leaveUp_eq, hopHanded_setSpan, port]
    exact ⟨_, rfl, hopHanded_settled rfl⟩
  · have running : ((s.setSpan p y).spans.get p).running = some test := by
      rw [port]
      exact (running_of_test (x := y) hs).trans ht
    have stopped : exec (.lossOfSignal p) s = .next (if test.loop = .far
        then endTest p test .lineLoss (Span.toBreak · s.now) (s.setSpan p y) else s.setSpan p y) := by
      rw [run, signalLost_test hs, stopTest_running _ _ running, settled_nil]
      simp only [decide_eq_true_eq]
      rfl
    refine ⟨fun hl => ?_, fun hl => ?_⟩
    · rw [stopped, if_neg (by simp [hl])]
    · rw [stopped, if_pos hl]
      simp only [endTest, port, setSpan_setSpan]
      rfl

/-- Settles O37: each event and STOP on the running test, and on a port without one. -/
theorem spanTestRunsAndEnds : Obligations.SpanTestRunsAndEnds := by
  refine ⟨fun s port tag n h hn => exec_ready rfl h rfl (by simp) ?_, ?_⟩
  · show spanTestStop n (watchFrame port s) = _
    rw [spanTestStop, spanOf_eq_none.2 hn]
    rfl
  intro s port tag p hc w x stop ended
  have same : w.spans.get p = x := by rw [watchFrame_spans]
  have lock : exec (.testLock p) s = .next (testLocked p s) := congrArg Host.Outcome.next (inService_eq hc _)
  have error : exec (.testBitError p) s = .next (testError p s) := congrArg Host.Outcome.next (inService_eq hc _)
  have timeout : exec (.testLockTimeout p) s = .next (stopTest p .noLock (fun t => !t.locked) s) :=
    congrArg Host.Outcome.next (inService_eq hc _)
  have expiry : exec (.spanTestTimerExpiry p) s = .next (stopTest p .duration (fun _ => true) s) :=
    congrArg Host.Outcome.next (inService_eq hc _)
  refine ⟨fun hs => ?_, fun t hs ht => ?_⟩
  · have idle : x.running = none := running_of_not_test hs
    refine ⟨fun h => exec_ready rfl h rfl (by simp) ?_, ?_, ?_, ?_, ?_⟩
    · show spanTestStop (spanNumber p) w = _
      simp only [spanTestStop, spanOf_spanNumber, same, idle]
      rfl
    · rw [lock, testLocked_idle idle]
    · rw [error, testError_idle idle]
    · rw [timeout, stopTest_idle _ _ idle]
    · rw [expiry, stopTest_idle _ _ idle]
  · have running : x.running = some t := (running_of_test hs).trans ht
    refine ⟨fun hl => ?_, fun hl => ?_, fun h => ?_, ?_, ?_, ?_, ?_⟩
    · rw [lineSignal_test hs ht, if_pos hl]
    · rw [lineSignal_test hs ht, if_neg (by simp [hl])]
    · have done : spanTestStop (spanNumber p) w = done .accepted [] (endTest p t .stopped (Span.toBreak · w.now) w, []) := by
        simp only [spanTestStop, spanOf_spanNumber, same, running]
      have test : endTest p t .stopped (Span.toBreak · w.now) w =
          ended w t (t.errors == 0) t.errors ((s.now - t.since) / 1000) .stopped 1 := by
        rw [endTest_passable _ _ (by simp) (by simp), same, watchFrame_now]
        simp only [ended, beq_iff_eq]
        rfl
      rw [exec_done rfl h rfl (by simp) done, test, settled_nil]
      rfl
    · rw [lock, testLocked_running running]
    · rw [error, testError_running running]
    · rw [timeout, stopTest_running _ _ running]
      cases t.locked <;> rfl
    · rw [expiry, stopTest_running _ _ running, if_pos rfl, endTest_passable _ _ (by simp) (by simp)]
      simp only [ended, beq_iff_eq]
      rfl
end

section
/-! SUPPORT. The requests of a span port by its state, the checks of SPAN TEST START, and the elasticity buffer. -/

namespace Sys2Proof.Machine

open Sys2Proof

section
variable {s : State} {p : SpanPort} {g : Grade} {m : LinkMode}

/-! ### Requests (R28, R29) -/

theorem portRenegotiate_refused (h : (s.spans.get p).state = .disabled ∨ (s.spans.get p).state = .test) :
    portRenegotiate (spanNumber p) s = refuse s .wrongState := by
  rcases h with h | h <;> simp only [portRenegotiate, spanOf_spanNumber, h]

theorem portRenegotiate_down (h : (s.spans.get p).state = .breaking ∨ (s.spans.get p).state = .advertise) :
    portRenegotiate (spanNumber p) s =
      done .accepted [] (s.setSpan p { (s.spans.get p).toBreak s.now with latch := none }, []) := by
  rcases h with h | h <;> simp only [portRenegotiate, spanOf_spanNumber, h]

theorem portRenegotiate_up (h : (s.spans.get p).state = .up g m) : portRenegotiate (spanNumber p) s =
    done .accepted [] (leaveUp p .renegotiate (fun y => { y.toBreak s.now with latch := none }) s) := by
  simp only [portRenegotiate, spanOf_spanNumber, h]

theorem portDisable_disabled (h : (s.spans.get p).state = .disabled) :
    portDisable (spanNumber p) s = done .accepted [] (s, []) := by
  simp only [portDisable, spanOf_spanNumber, h]

theorem portDisable_down (h : (s.spans.get p).state = .breaking ∨ (s.spans.get p).state = .advertise) :
    portDisable (spanNumber p) s = done .accepted [] (s.setSpan p (s.spans.get p).toDisabled, []) := by
  rcases h with h | h <;> simp only [portDisable, spanOf_spanNumber, h]

theorem portDisable_up (h : (s.spans.get p).state = .up g m) :
    portDisable (spanNumber p) s = done .accepted [] (leaveUp p .disabled Span.toDisabled s) := by
  simp only [portDisable, spanOf_spanNumber, h]

theorem portDisable_test {t : SpanTest} (h : (s.spans.get p).state = .test) (ht : (s.spans.get p).test = some t) :
    portDisable (spanNumber p) s = done .accepted [] (endTest p t .disabled Span.toDisabled s, []) := by
  simp only [portDisable, spanOf_spanNumber, h, ht]

theorem portEnable_disabled (h : (s.spans.get p).state = .disabled) : portEnable (spanNumber p) s =
    done .accepted [] (s.setSpan p { (s.spans.get p).toBreak s.now with latch := none }, []) := by
  simp only [portEnable, spanOf_spanNumber, h]

theorem portEnable_other (h : (s.spans.get p).state ≠ .disabled) :
    portEnable (spanNumber p) s = done .accepted [] (s, []) := by
  simp only [portEnable, spanOf_spanNumber]

end

/-! ### SPAN TEST START (R38) -/

theorem clampNat_eq (lo hi : Nat) (h : lo ≤ hi) (v : Int) : clampNat lo hi v = (max (lo : Int) (min (hi : Int) v)).toNat := by
  rw [clampNat, clamp_eq _ _ _ (by omega)]

theorem clampAnswer_eq (a b : Int) : clampAnswer (a != b) = if a = b then .accepted else .acceptedClamped := by
  by_cases h : a = b <;> simp [clampAnswer, h]

theorem testable_iff (x : Span) (l : Loop) : testable x.state l = true ↔
    x.isUp = true ∨ (l = .internal ∧ (x.state = .breaking ∨ x.state = .advertise)) := by
  unfold testable Span.isUp
  cases x.state <;> cases l <;> simp

/-- The units on a path, by the state of each (R54). -/
theorem mem_members {s : State} {r : Ring} {side : Side} {u : UnitNo} :
    u ∈ (s.rings.get r).members side ↔ (s.unitState ⟨r, u⟩).side = some side := by
  simp [RingRec.members, State.unitState]

theorem UnitState.side_eq_a {x : UnitState} : x.side = some .a ↔ x = .fedA := by cases x <;> simp [UnitState.side]

theorem UnitState.side_eq_b {x : UnitState} : x.side = some .b ↔ x = .fedB := by cases x <;> simp [UnitState.side]

theorem protectedFor_a (s : State) (r : Ring) : protectedFor s ⟨r, .a⟩ = true ↔
    ∀ u : UnitNo, s.unitState ⟨r, u⟩ = .fedA → (s.rings.get r).reachB[u] = true := by
  simp only [protectedFor, List.all_eq_true, mem_members, UnitState.side_eq_a]

theorem protectedFor_b (s : State) (r : Ring) : protectedFor s ⟨r, .b⟩ = true ↔
    ∀ u : UnitNo, s.unitState ⟨r, u⟩ ≠ .fedB := by
  simp only [protectedFor, List.isEmpty_iff, List.eq_nil_iff_forall_not_mem, mem_members, UnitState.side_eq_b]

/-- A port in TEST, the test just begun (R38). -/
def Span.tested (x : Span) (pattern : Pattern) (l : Loop) (duration now : Nat) : Span := { x with
  state := .test, timer := none, test := some ⟨pattern, l, duration, now, false, 0⟩, lastTest := none }

section
variable {s : State} {p : SpanPort} {a : SpanTestArgs} {pattern : Pattern} {l : Loop}

theorem spanTestStart_badValue (hp : a.port = spanNumber p) (h : 1 < a.pattern ∨ 1 < a.loop) :
    spanTestStart a s = refuse s .badValue := by
  have pattern (h : 1 < a.pattern) : patternOf a.pattern = none := by
    unfold patternOf
    split <;> first | omega | rfl
  have loop (h : 1 < a.loop) : loopOf a.loop = none := by
    unfold loopOf
    split <;> first | omega | rfl
  simp only [spanTestStart, hp, spanOf_spanNumber]
  rcases h with h | h
  · simp only [pattern h]
  · cases patternOf a.pattern <;> simp only [loop h]

variable (hp : a.port = spanNumber p) (hq : patternOf a.pattern = some pattern) (hl : loopOf a.loop = some l)
include hp hq hl

theorem spanTestStart_wrongState (h : testable (s.spans.get p).state l = false) :
    spanTestStart a s = refuse s .wrongState := by
  simp [spanTestStart, hp, hq, hl, h]

theorem spanTestStart_unprotected (h : testable (s.spans.get p).state l = true) (hf : protectedFor s p = false) :
    spanTestStart a s = refuse s .noProtection := by
  simp [spanTestStart, hp, hq, hl, h, hf]

theorem spanTestStart_passed (h : testable (s.spans.get p).state l = true) (hf : protectedFor s p = true) :
    let d := (max 1 (min 600 a.duration)).toNat
    spanTestStart a s = done (if (d : Int) = a.duration then .accepted else .acceptedClamped) []
      (if (s.spans.get p).isUp then leaveUp p .test (Span.tested · pattern l d s.now) s
        else (s.setSpan p ((s.spans.get p).tested pattern l d s.now), [])) := by
  intro d
  have duration : clampNat 1 600 a.duration = d := clampNat_eq 1 600 (by decide) a.duration
  simp only [spanTestStart, hp, spanOf_spanNumber, hq, hl, h, hf, Bool.not_true, Bool.false_eq_true, if_false, duration,
    clampAnswer_eq]
  rfl

end

/-! ### The elasticity buffer (R34 to R37) -/

theorem slip_eq (b : Buffer) (now : Nat) :
    b.slip now = { b with slips := min 65535 (b.slips + 1), record := b.recent now } := by
  rw [Buffer.slip, bump_eq]
  rfl

/-- A slip at a port: its buffer with the slip entered, and the record of a burst that it completes (R37). -/
theorem slipAt_eq (p : SpanPort) (b : Buffer) (s : State) : slipAt p b s =
    (s.setSpan p { s.spans.get p with buffer := b.slipped s.now }).postAll (b.burstNotes p s.now) := by
  simp only [slipAt, slip_eq, Buffer.burstNotes, Buffer.slipped]
  by_cases h : b.burst = false ∧ 8 ≤ (b.recent s.now).length
  · rw [if_pos h, if_pos h, h.1, decide_eq_true h.2]
    rfl
  · have burst : (b.burst || decide (8 ≤ (b.recent s.now).length)) = b.burst := by
      cases hb : b.burst <;> simp_all
    rw [if_neg h, if_neg h, burst]
    rfl

section
variable {s : State} {p : SpanPort} {block : UplinkBlock}

theorem blockArrived_down (h : (s.spans.get p).isUp = false) : blockArrived p block s = s := by
  simp [blockArrived, h]

theorem blockArrived_filling (h : (s.spans.get p).isUp = true) (hr : (s.spans.get p).buffer.running = false) :
    blockArrived p block s = s.setSpan p { s.spans.get p with buffer := { (s.spans.get p).buffer with
      blocks := (s.spans.get p).buffer.blocks ++ [block]
      running := decide ((s.settings p).threshold p.side ≤ (s.spans.get p).buffer.blocks.length + 1) } } := by
  simp [blockArrived, h, hr]

theorem blockArrived_running (h : (s.spans.get p).isUp = true) (hr : (s.spans.get p).buffer.running = true) :
    blockArrived p block s = if (s.spans.get p).buffer.blocks.length < 8
      then s.setSpan p { s.spans.get p with buffer := { (s.spans.get p).buffer with
        blocks := (s.spans.get p).buffer.blocks ++ [block] } }
      else slipAt p { (s.spans.get p).buffer with
        blocks := (s.spans.get p).buffer.blocks.drop 1 ++ [block], mark := true } s := by
  simp only [blockArrived, h, hr, if_true]

end

end Sys2Proof.Machine
end

section
open Sys2Proof Sys2Proof.Machine

/-- Settles O29: by the port's state; a port that leaves UP is a changed hop (`hopHanded_replied`). -/
theorem renegotiateGoesToBreak : Obligations.RenegotiateGoesToBreak := by
  intro s port tag n h w
  refine ⟨rfl, fun hn => exec_ready rfl h rfl (by simp) ?_, ?_⟩
  · show portRenegotiate n w = _
    rw [portRenegotiate, spanOf_eq_none.2 hn]
    rfl
  rintro p rfl x y
  have same : w.spans.get p = x := by rw [watchFrame_spans]
  have now : w.now = s.now := watchFrame_now port s
  refine ⟨fun hs => exec_ready rfl h rfl (by simp) (portRenegotiate_refused (by rwa [same])), fun hs => ?_, fun g m hs => ?_⟩
  · rw [exec_done rfl h rfl (by simp) (portRenegotiate_down (by rwa [same])), settled_nil, same, now]
    rfl
  · rw [exec_done rfl h rfl (by simp) (portRenegotiate_up (same ▸ hs)), leaveUp_eq, same, now]
    exact ⟨_, rfl, hopHanded_replied rfl port _⟩

/-- Settles O30: by the port's state. -/
theorem disableAndEnable : Obligations.DisableAndEnable := by
  refine ⟨?_, ?_⟩
  · intro s port tag n hn w
    refine ⟨fun h => exec_ready rfl h rfl (by simp) ?_, fun h => exec_ready rfl h rfl (by simp) ?_⟩
    · show portDisable n w = _
      rw [portDisable, spanOf_eq_none.2 hn]
      rfl
    · show portEnable n w = _
      rw [portEnable, spanOf_eq_none.2 hn]
      rfl
  intro s port tag p w x
  have same : w.spans.get p = x := by rw [watchFrame_spans]
  have now : w.now = s.now := watchFrame_now port s
  refine ⟨fun h => ⟨fun hs => ?_, fun hs => ?_, fun g m hs => ?_, fun test hs ht => ?_⟩, fun h => ⟨fun hs => ?_, fun hs => ?_⟩⟩
  · rw [exec_done rfl h rfl (by simp) (portDisable_disabled (same ▸ hs)), settled_nil]
    rfl
  · rw [exec_done rfl h rfl (by simp) (portDisable_down (by rwa [same])), settled_nil, same]
    rfl
  · rw [exec_done rfl h rfl (by simp) (portDisable_up (same ▸ hs)), leaveUp_eq, same]
    exact ⟨_, rfl, hopHanded_replied rfl port _⟩
  · rw [exec_done rfl h rfl (by simp) (portDisable_test (same ▸ hs) (same ▸ ht)), settled_nil,
      endTest_passable _ _ (by simp) (by simp), same, now]
    rfl
  · rw [exec_done rfl h rfl (by simp) (portEnable_disabled (same ▸ hs)), settled_nil, same, now]
    rfl
  · rw [exec_done rfl h rfl (by simp) (portEnable_other (by rwa [same])), settled_nil]
    rfl

/-- Settles O36: the checks in their order, and the test that begins. -/
theorem spanTestStarts : Obligations.SpanTestStarts := by
  refine ⟨?_, ?_⟩
  · intro s port tag a h w
    refine ⟨fun hn => exec_ready rfl h rfl (by simp) ?_, fun p hp hv =>
      exec_ready rfl h rfl (by simp) (spanTestStart_badValue hp hv)⟩
    show spanTestStart a w = _
    rw [spanTestStart, spanOf_eq_none.2 hn]
    rfl
  intro s port tag p a pattern loop h hp hq hl w x d reply y admits protects
  have same : w.spans.get p = x := by rw [watchFrame_spans]
  have now : w.now = s.now := watchFrame_now port s
  have testable_w : testable (w.spans.get p).state loop = true ↔ admits := by rw [same]; exact testable_iff x loop
  have protected_w : protectedFor w p = true ↔ protects := by
    obtain ⟨r, side⟩ := p
    cases side with
    | a =>
      rw [protectedFor_a, watchFrame_rings]
      simp only [w, watchFrame_unitState]
      rfl
    | b =>
      rw [protectedFor_b]
      simp only [w, watchFrame_unitState]
      rfl
  refine ⟨fun ha => exec_ready rfl h rfl (by simp) (spanTestStart_wrongState hp hq hl ?_), fun ha hn =>
    exec_ready rfl h rfl (by simp) (spanTestStart_unprotected hp hq hl (testable_w.2 ha) ?_), ?_⟩
  · exact Bool.eq_false_iff.2 fun ht => ha (testable_w.1 ht)
  · exact Bool.eq_false_iff.2 fun ht => hn (protected_w.1 ht)
  intro sends
  have signal (t : State) (ht : ∃ b, t.spans.get p = { y with buffer := b }) : lineSignal t p = sends loop pattern := by
    obtain ⟨b, ht⟩ := ht
    rw [lineSignal_test (by rw [ht]) (by rw [ht])]
    cases loop <;> rfl
  refine ⟨fun ha hpr hu => ?_, fun hpr hu => ?_⟩
  · have begun := exec_done (i := .spanTestStart port tag a) rfl h rfl (by simp)
      (spanTestStart_passed hp hq hl (testable_w.2 ha) (protected_w.2 hpr))
    rw [same, hu, if_neg Bool.false_ne_true, settled_nil, now] at begun
    exact ⟨begun, signal _ ⟨x.buffer, get_setSpan_self w p y⟩⟩
  · have begun := exec_done (i := .spanTestStart port tag a) rfl h rfl (by simp)
      (spanTestStart_passed hp hq hl (testable_w.2 (.inl hu)) (protected_w.2 hpr))
    rw [same, hu, if_pos rfl, leaveUp_eq, same, now] at begun
    obtain ⟨frame, hop⟩ := hopHanded_replied (s := w) (p := p) (note := ⟨.portDown, .notice, .span p, [.named 4]⟩)
      (y := { y with buffer := ⟨[], false, false, x.buffer.slips, [], false⟩ }) rfl port reply
    exact ⟨_, begun, frame, signal _ ⟨_, hop.1⟩, hop⟩

/-- Settles O39: by the port's state and its buffer. -/
theorem blocksJoinTheBuffer : Obligations.BlocksJoinTheBuffer := by
  intro s p block hc x b threshold
  have run : exec (.uplinkBlockArrival p block) s = .next (blockArrived p block s) :=
    congrArg Host.Outcome.next (inService_eq hc _)
  have set : (s.settings p).threshold p.side = threshold := by
    obtain ⟨r, d⟩ := p
    cases d <;> rfl
  refine ⟨fun h => ?_, fun h hr => ?_, fun h hr hl => ?_, fun h hr hl => ?_, congrArg Host.Outcome.next (inService_eq hc _)⟩
  · rw [run, blockArrived_down h]
  · rw [run, blockArrived_filling h hr, set]
  · rw [run, blockArrived_running h hr, if_pos hl]
  · rw [run, blockArrived_running h hr, if_neg (Nat.not_lt.2 hl), slipAt_eq]
    rfl
end

section
/-! SUPPORT. What the allocation records are told of a feed change, a ring that is formed afresh or left, and the return of
its waiting units. -/

namespace Sys2Proof.Machine

open Sys2Proof

/-! ### The status of an allocation record (R53, R91, R96) -/

/-- The status that a unit's state and its amplifier give its allocation record (R91). -/
def State.dueStatus (s : State) (p : Position) : AllocStatus := allocStatus (s.unitState p) (posGet s.beacons p).amplifier

/-- A hand-over that has the status of a position's allocation record judged: FEED or AMPLIFIER there, or an event at the
planner of a path that the unit has joined. -/
def HandOver.refeeds (p : Position) : HandOver → Prop
  | .alloc q e => q = p ∧ (e = .feed ∨ e = .amplifier)
  | .planner path _ joined => path.ring = p.ring ∧ p.unit ∈ joined
  | _ => False

theorem allocAfter_dueStatus (s : State) (p : Position) {e : AllocEvent} (he : e = .feed ∨ e = .amplifier) (r : AllocRec) :
    (allocAfter s p e r).status = s.dueStatus p := by
  rcases he with rfl | rfl
  · exact recompute_status s p _
  · exact recompute_status s p _

theorem handle_dueStatus (h : HandOver) (s : State) (p : Position) : (handle h s).1.dueStatus p = s.dueStatus p := by
  have same := handle_sameBut h s
  rw [State.dueStatus, State.unitState, same .rings (by cases h <;> simp [HandOver.parts]),
    same .beacons (by cases h <;> simp [HandOver.parts])]
  rfl

/-- A status that is due stands through every hand-over. -/
theorem handle_status (h : HandOver) {s : State} {p : Position} (hd : (posGet s.alloc p).status = s.dueStatus p) :
    (posGet (handle h s).1.alloc p).status = s.dueStatus p := by
  cases h with
  | alloc q e =>
    rw [handle, allocEvent_alloc]
    split
    next hq =>
      subst hq
      by_cases he : e = .feed ∨ e = .amplifier
      · exact allocAfter_dueStatus s p he _
      · rw [allocAfter_status s p (fun hf => he (.inl hf)) (fun ha => he (.inr ha)), hd]
    next => exact hd
  | planner q cause joined => rw [handle_sameBut (.planner q cause joined) s .alloc (by simp [HandOver.parts]), hd]
  | flag path => rw [handle_sameBut (.flag path) s .alloc (by simp [HandOver.parts]), hd]
  | coverage ch => rw [handle_sameBut (.coverage ch) s .alloc (by simp [HandOver.parts]), hd]
  | candidates ch => rw [handle_sameBut (.candidates ch) s .alloc (by simp [HandOver.parts]), hd]
  | block ch outputs => rw [handle_sameBut (.block ch outputs) s .alloc (by simp [HandOver.parts]), hd]
  | baseKey ch => rw [handle_sameBut (.baseKey ch) s .alloc (by simp [HandOver.parts]), hd]
  | activation => rw [handle_sameBut .activation s .alloc (by simp [HandOver.parts]), hd]
  | settings preferred limit => rw [handle_sameBut (.settings preferred limit) s .alloc (by simp [HandOver.parts]), hd]
  | posts notes => rw [handle_sameBut (.posts notes) s .alloc (by simp [HandOver.parts]), hd]

/-- A record whose status is due, or is still to be judged, has it in the end. -/
theorem settled_status {x : Handed} (hne : ∀ h ∈ x.2, h ≠ .activation) (hsum : (x.2.map HandOver.weight).sum ≤ settleFuel)
    {p : Position} (hd : (posGet x.1.alloc p).status = x.1.dueStatus p ∨ ∃ h ∈ x.2, h.refeeds p) :
    (posGet (settled x).alloc p).status = x.1.dueStatus p := by
  let I (s : State) (hs : List HandOver) : Prop := (∀ h ∈ hs, h ≠ .activation) ∧ s.dueStatus p = x.1.dueStatus p ∧
    ((posGet s.alloc p).status = s.dueStatus p ∨ ∃ h ∈ hs, h.refeeds p)
  suffices h : I (settled x) [] by
    obtain ⟨-, hdue, hstatus⟩ := h
    exact (hstatus.resolve_right (by simp)).trans hdue
  refine settled_invariant (I := I) ?_ (fun _ _ _ h => h) (fun s h hs hI => hI.1 h (List.mem_cons_self ..)) ?_
    ⟨hne, rfl, hd⟩ hsum
  · exact fun s hs ks hp h => ⟨fun k hk => h.1 k (hp.mem_iff.2 hk), h.2.1,
      h.2.2.imp_right fun ⟨k, hk, hr⟩ => ⟨k, hp.mem_iff.1 hk, hr⟩⟩
  · rintro s h hs ⟨hne, hdue, hstatus⟩
    refine ⟨fun k hk => ?_, (handle_dueStatus h s p).trans hdue, ?_⟩
    · rcases List.mem_append.1 hk with hk | hk
      · rintro rfl
        exact handle_follows h s _ hk
      · exact hne k (List.mem_cons_of_mem _ hk)
    rw [handle_dueStatus]
    rcases hstatus with hstatus | ⟨k, hk, hr⟩
    · exact .inl (handle_status h hstatus)
    rcases List.mem_cons.1 hk with rfl | hk
    · cases k with
      | alloc q e =>
        obtain ⟨rfl, he⟩ := hr
        left
        rw [handle, allocEvent_alloc, if_pos rfl]
        exact allocAfter_dueStatus s q he _
      | planner path cause joined =>
        obtain ⟨hring, hj⟩ := hr
        exact .inr ⟨.alloc ⟨path.ring, p.unit⟩ .feed, List.mem_append_left _ (List.mem_append_left _
          (List.mem_map_of_mem hj)), by rw [hring], .inl rfl⟩
      | _ => exact hr.elim
    · exact .inr ⟨k, List.mem_append_right _ hk, hr⟩

theorem HandOver.ofRing.ne_activation {h : HandOver} (hk : h.ofRing) : h ≠ .activation := by
  rintro rfl
  exact hk

/-! ### A ring formed afresh, or left (R49, R52) -/

/-- No unit whose state has changed, no record (R52). -/
theorem FeedReported.none (r : Ring) (cause : Nat) (units : Vector UnitState 12) : FeedReported r cause units units [] :=
  ⟨[], rfl, by simp, by simp, by simp⟩

/-- A recomputation of a ring where one of its inputs has changed. -/
def fedIf (hears : Bool) (r : Ring) (cause : FeedCause) (judged : List UnitNo) (s : State) : Handed :=
  if hears then feedEvent r cause judged s else (s, [])

section
variable (hears : Bool) (r : Ring) (cause : FeedCause) (judged : List UnitNo) (s : State)

theorem fedIf_sameBut : SameBut [.spans, .rings, .events] s (fedIf hears r cause judged s).1 := by
  unfold fedIf
  split
  · exact applyRing_sameBut _ _ _ _
  · exact SameBut.refl _ s

theorem fedIf_rings : (fedIf hears r cause judged s).1.rings =
    s.rings.set r (if hears then recomputeRing s r judged else s.rings.get r) := by
  unfold fedIf
  split
  · exact applyRing_rings _ _ _ _
  · cases r <;> rfl

theorem fedIf_spans (q : SpanPort) :
    (fedIf hears r cause judged s).1.spans.get q = pathMarked s (fedIf hears r cause judged s).1 q := by
  unfold fedIf
  split
  · exact applyRing_spans _ _ _ _ q
  · exact (pathMarked_of_rings rfl q).symm

theorem fedIf_reported : ∃ feeds, FeedReported r cause.ctorIdx (s.rings.get r).units
    (if hears then recomputeRing s r judged else s.rings.get r).units feeds ∧
    QueuesAgree (s.postAll feeds) (fedIf hears r cause judged s).1 := by
  unfold fedIf
  split
  · exact ⟨_, feedGroups_reported r cause _ _, applyRing_queues _ _ _ _⟩
  · exact ⟨[], FeedReported.none _ _ _, rfl, rfl, fun _ => ⟨rfl, rfl⟩⟩

theorem fedIf_ofRing : ∀ h ∈ (fedIf hears r cause judged s).2, h.ofRing := by
  unfold fedIf
  split
  · rw [feedEvent, applyRing_hands]
    exact ringHands_ofRing _ _ _ _
  · simp

theorem fedIf_weight : ((fedIf hears r cause judged s).2.map HandOver.weight).sum ≤ 66 := by
  unfold fedIf
  split
  · rw [feedEvent, applyRing_hands]
    exact ringHands_weight _ _ _ _
  · simp

end

/-! ### The return of waiting units (R56, R57) -/

/-- The topology record of a ring whose waiting units have returned. -/
def restoredRing (x : RingRec) : RingRec := { x with
  timer := none
  units := tabulate fun u => if waiting x.units x.reachA u then .fedA else x.units[u] }

theorem restoreEvent_running {r : Ring} {s : State} (cause : FeedCause) (h : (s.rings.get r).timer ≠ none) :
    restoreEvent r cause s = applyRing r cause (restoredRing (s.rings.get r)) s := by
  obtain ⟨since, h⟩ := Option.ne_none_iff_exists'.1 h
  simp only [restoreEvent, h, restoredRing]

theorem restoreEvent_stopped {r : Ring} {s : State} (cause : FeedCause) (h : (s.rings.get r).timer = none) :
    restoreEvent r cause s = (s, []) := by
  simp only [restoreEvent, h]

section
variable (x : RingRec)

theorem waiting_iff (u : UnitNo) : waiting x.units x.reachA u = true ↔ x.units[u] = .fedB ∧ x.reachA[u] = true := by
  simp [waiting]

theorem restoredRing_units (u : UnitNo) : (restoredRing x).units[u] =
    if x.units[u] = .fedB ∧ x.reachA[u] = true then .fedA else x.units[u] :=
  (tabulate_getElem _ u).trans (if_congr (waiting_iff x u) rfl rfl)

/-- Both paths change where a unit returns, and neither where none does. -/
theorem restoredRing_members (side : Side) : (restoredRing x).members side = x.members side ↔
    ¬∃ v : UnitNo, x.units[v] = .fedB ∧ x.reachA[v] = true := by
  constructor
  · rintro h ⟨v, hv⟩
    have mem : v ∈ (restoredRing x).members side ↔ v ∈ x.members side := by rw [h]
    have returned : (restoredRing x).units[v] = .fedA := by rw [restoredRing_units, if_pos hv]
    simp only [RingRec.members, List.mem_filter, List.mem_finRange, returned, hv.1] at mem
    cases side <;> simp [UnitState.side] at mem
  · intro h
    refine List.filter_congr fun u _ => ?_
    rw [restoredRing_units, if_neg fun hu => h ⟨u, hu⟩]

end

theorem Posts.congr {first : List Note} {s s' t : State} (h : QueuesAgree s s') (k : Posts first s t) : Posts first s' t := by
  obtain ⟨more, k⟩ := k
  refine ⟨more, fun port => ?_⟩
  have same := (postAll_congr (first ++ more) h).2.2 port
  exact ⟨(k port).1.trans same.1.symm, (k port).2.trans same.2.symm⟩

section
variable {r : Ring} {cause : FeedCause} {s t : State}

/-- The units of a ring have returned, told of any state that has the ports and the rings of the return, has posted on and
has judged the status of the units that returned. -/
theorem restored_of_logs (h : (s.rings.get r).timer ≠ none) (hs : t.spans = (restoreEvent r cause s).1.spans)
    (hr : t.rings = (restoreEvent r cause s).1.rings) (hl : Logs (restoreEvent r cause s).1 t)
    (ha : ∀ v : UnitNo, (s.rings.get r).units[v] = .fedB ∧ (s.rings.get r).reachA[v] = true →
      (posGet t.alloc ⟨r, v⟩).status = allocStatus .fedA (posGet s.beacons ⟨r, v⟩).amplifier) :
    Restored r cause.ctorIdx s t := by
  rw [restoreEvent_running cause h] at hs hr hl
  have rings := hr.trans (applyRing_rings _ _ _ _)
  have ring : t.rings.get r = restoredRing (s.rings.get r) := by rw [rings, PerRing.get_set, if_pos rfl]
  have units (v : UnitNo) : t.unitState ⟨r, v⟩ = _ :=
    (congrArg (fun y : RingRec => y.units[v]) ring).trans (restoredRing_units _ v)
  refine ⟨by rw [ring]; rfl, by rw [ring]; rfl, by rw [ring]; rfl, by rw [ring]; rfl, fun r' hne => ?_, fun v => ⟨fun hv => ?_,
    fun hv => ?_⟩, fun q => ?_, ⟨_, ?_, Posts.of_logs (applyRing_queues _ _ _ _) hl⟩, ha⟩
  · rw [rings, PerRing.get_set, if_neg hne]
  · rw [units, if_pos hv]
  · rw [units, if_neg hv]
  · rw [hs]
    refine (applyRing_spans _ _ _ _ q).trans ((pathMarked_congr rfl rfl hr.symm q).trans ?_)
    by_cases hq : q.ring = r
    · subst hq
      have members := restoredRing_members (s.rings.get q.ring) q.side
      simp only [pathMarked, fedFrom_eq_members, ring, true_and]
      by_cases hv : ∃ v : UnitNo, (s.rings.get q.ring).units[v] = .fedB ∧ (s.rings.get q.ring).reachA[v] = true
      · rw [if_neg fun h => members.1 h hv, if_pos hv]
      · rw [if_pos (members.2 hv), if_neg hv]
    · simp only [pathMarked, fedFrom_eq_members, rings, PerRing.get_set, if_neg hq, if_true]
      rw [if_neg fun h => hq h.1]
  · rw [ring]
    exact feedGroups_reported r cause _ _

theorem restoreEvent_ofRing : ∀ h ∈ (restoreEvent r cause s).2, h.ofRing := by
  by_cases h : (s.rings.get r).timer = none
  · simp [restoreEvent_stopped cause h]
  · rw [restoreEvent_running cause h, applyRing_hands]
    exact ringHands_ofRing _ _ _ _

theorem restoreEvent_weight : ((restoreEvent r cause s).2.map HandOver.weight).sum ≤ settleFuel := by
  refine Nat.le_trans ?_ (show 66 ≤ settleFuel by decide)
  by_cases h : (s.rings.get r).timer = none
  · simp [restoreEvent_stopped cause h]
  · rw [restoreEvent_running cause h, applyRing_hands]
    exact ringHands_weight _ _ _ _

theorem restoreEvent_sameBut : SameBut [.spans, .rings, .events] s (restoreEvent r cause s).1 := by
  by_cases h : (s.rings.get r).timer = none
  · rw [restoreEvent_stopped cause h]
    exact SameBut.refl _ s
  · rw [restoreEvent_running cause h]
    exact applyRing_sameBut _ _ _ _

/-- The planner of path A is told of a unit that returns (R53). -/
theorem restoreEvent_refeeds (h : (s.rings.get r).timer ≠ none) {v : UnitNo}
    (hv : (s.rings.get r).units[v] = .fedB ∧ (s.rings.get r).reachA[v] = true) :
    ∃ k ∈ (restoreEvent r cause s).2, k.refeeds ⟨r, v⟩ := by
  have changed : (s.rings.get r).members .a ≠ (restoredRing (s.rings.get r)).members .a := fun he =>
    (restoredRing_members _ .a).1 he.symm ⟨v, hv⟩
  have joined : v ∈ joinedUnits (s.rings.get r) (restoredRing (s.rings.get r)) .a := by
    have returned : (restoredRing (s.rings.get r)).units[v] = .fedA := by rw [restoredRing_units, if_pos hv]
    simp only [joinedUnits, RingRec.members, List.mem_filter, List.mem_finRange, returned, hv.1]
    simp [UnitState.side]
  refine ⟨.planner ⟨r, .a⟩ .feed _, ?_, rfl, joined⟩
  rw [restoreEvent_running cause h, applyRing_hands]
  refine List.mem_append_left _ (List.mem_append_left _ (List.mem_append_left _ ?_))
  rw [pathHands, if_pos changed]
  exact List.mem_singleton_self _

/-- The units have returned once all is taken, also with a reply given meanwhile. -/
theorem restored_settled (h : (s.rings.get r).timer ≠ none) {u : State}
    (hu : SameBut [.ports, .inFlight] (restoreEvent r cause s).1 u) :
    Restored r cause.ctorIdx s (settled (u, (restoreEvent r cause s).2)) := by
  have taken := settled_ofRing (x := (u, (restoreEvent r cause s).2)) restoreEvent_ofRing
  refine restored_of_logs h ((taken .spans (by simp [ringParts])).trans (hu .spans (by simp)))
    ((taken .rings (by simp [ringParts])).trans (hu .rings (by simp)))
    ((Logs.of_sameBut hu (by simp) (by simp) (by simp)).trans (settled_logs _)) fun v hv => ?_
  refine (settled_status (x := (u, (restoreEvent r cause s).2)) (fun k hk => (restoreEvent_ofRing k hk).ne_activation)
    restoreEvent_weight (.inr (restoreEvent_refeeds h hv))).trans ?_
  have rings : u.rings = s.rings.set r (restoredRing (s.rings.get r)) := by
    rw [hu .rings (by simp), restoreEvent_running cause h, applyRing_rings]
  have beacons : u.beacons = s.beacons :=
    (hu .beacons (by simp)).trans (restoreEvent_sameBut .beacons (by simp))
  rw [State.dueStatus, State.unitState, rings, beacons, PerRing.get_set, if_pos rfl, restoredRing_units, if_pos hv]

end

end Sys2Proof.Machine
end

section
/-! SUPPORT. A beacon that is handed on, and the end of a silence timer: the ring formed afresh, the records and what is handed
on. -/

namespace Sys2Proof.Machine

open Sys2Proof

/-! ### The position that a beacon names (R30) -/

theorem positionAt_eq_some {r : Ring} {i : Nat} {q : Position} : positionAt r i = some q ↔ q.ring = r ∧ i = q.unit.val + 1 := by
  obtain ⟨qr, qu⟩ := q
  simp only [positionAt, Option.map_eq_some_iff, identOf_eq_some, Position.mk.injEq]
  constructor
  · rintro ⟨u, hi, hr, rfl⟩
    exact ⟨hr.symm, hi⟩
  · rintro ⟨rfl, hi⟩
    exact ⟨qu, hi, rfl, rfl⟩

/-- A beacon at a port names a commissioned position of the port's ring. -/
def BeaconNames (s : State) (p : SpanPort) (b : Beacon) (q : Position) : Prop :=
  q.ring = p.ring ∧ b.ring = p.ring ∧ b.number = q.unit.val + 1 ∧ (s.unit q).commissioned = true

theorem beaconPosition_eq_some {s : State} {p : SpanPort} {b : Beacon} {q : Position} :
    beaconPosition s p b = some q ↔ BeaconNames s p b q := by
  unfold beaconPosition BeaconNames
  split
  next h =>
    simp only [Option.filter_eq_some_iff, positionAt_eq_some, h, true_and, and_assoc]
  next h => simp [h]

section
variable {s : State} {p : SpanPort} {b : Beacon}

theorem beaconArrived_down (h : (s.spans.get p).isUp = false) : beaconArrived p b s = (s, []) := by
  simp [beaconArrived, h]

theorem beaconArrived_stray (h : (s.spans.get p).isUp = true) (hq : ∀ q, ¬BeaconNames s p b q) : beaconArrived p b s =
    (s.setSpan p { s.spans.get p with stray := min 65535 ((s.spans.get p).stray + 1) }, []) := by
  have none : beaconPosition s p b = none :=
    Option.eq_none_iff_forall_ne_some.2 fun q h => hq q (beaconPosition_eq_some.1 h)
  simp [beaconArrived, h, none, bump_eq]

theorem beaconArrived_named {q : Position} (h : (s.spans.get p).isUp = true) (hq : BeaconNames s p b q) :
    beaconArrived p b s = handBeacon q b s := by
  simp [beaconArrived, h, beaconPosition_eq_some.2 hq]

end

/-! ### What a beacon changes (R31 to R33) -/

/-- The record of a position after its beacon. -/
def beaconRecord (b : Beacon) (now : Nat) : BeaconRec :=
  ⟨some .present, some now, some b.identity, some (b.upstream, b.downstream), b.amplifier, b.loopback⟩

section
variable (q : Position) (b : Beacon) (s : State)

/-- The verdict on the position's identity has changed (R32). -/
def beaconJudges : Bool := s.mismatched q != (s.setBeacon q (beaconRecord b s.now)).mismatched q

/-- The position was not PRESENT (R31). -/
def beaconFinds : Bool := decide ((posGet s.beacons q).status ≠ some .present)

/-- An input of the Ring Feed Controller has changed (R49). -/
def beaconHears : Bool :=
  beaconFinds q s || beaconJudges q b s || decide ((posGet s.beacons q).reports ≠ (beaconRecord b s.now).reports)

/-- The records of a beacon (R31 to R33). -/
def beaconNotes : List Note :=
  (if (posGet s.beacons q).status = some .lost then [⟨.ruFound, .notice, .position q, []⟩] else []) ++
  (if beaconJudges q b s then [mismatchNote q ((s.setBeacon q (beaconRecord b s.now)).mismatched q) b.identity] else []) ++
  (if (posGet s.beacons q).amplifier = b.amplifier then [] else [amplifierNote q b.amplifier])

/-- The cause of the recomputation that a beacon makes: UNIT, or HOP where the reports alone have changed (R52). -/
def beaconCause : FeedCause := if beaconFinds q s || beaconJudges q b s then .unit else .hop

/-- The state with a beacon's records posted and the ring formed afresh where it hears of a change, and what it hands on. -/
def beaconFed : Handed := fedIf (beaconHears q b s) q.ring (beaconCause q b s)
  (if beaconJudges q b s then [q.unit] else []) ((s.setBeacon q (beaconRecord b s.now)).postAll (beaconNotes q b s))

theorem handBeacon_eq : handBeacon q b s = ((beaconFed q b s).1, (beaconFed q b s).2 ++
    if (posGet s.beacons q).amplifier = b.amplifier then [] else [.alloc q .amplifier]) := by
  have found : (((posGet s.beacons q).status != some .present) : Bool) = beaconFinds q s := by
    rw [Bool.eq_iff_iff, bne_iff_ne, beaconFinds, decide_eq_true_iff]
  have reports : ((posGet s.beacons q).reports != some (b.upstream, b.downstream)) =
      decide ((posGet s.beacons q).reports ≠ (beaconRecord b s.now).reports) := by
    rw [Bool.eq_iff_iff, bne_iff_ne, decide_eq_true_iff]
    rfl
  have judged : (s.mismatched q != (s.setBeacon q ⟨some .present, some s.now, some b.identity,
      some (b.upstream, b.downstream), b.amplifier, b.loopback⟩).mismatched q) = beaconJudges q b s := rfl
  simp only [handBeacon, beaconFed, fedIf, beaconHears, beaconNotes, beaconCause, found, reports, judged, List.flatten_cons,
    List.flatten_nil, List.append_nil, List.append_assoc, ite_not]
  rfl

theorem beaconFed_sameBut : SameBut [.beacons, .spans, .rings, .events] s (beaconFed q b s).1 :=
  (((setBeacon_sameBut s q _).mono (by simp)).trans ((postAll_sameBut _ _).mono (by simp))).trans
    ((fedIf_sameBut _ _ _ _ _).mono (by simp))

theorem beaconFed_beacons : (beaconFed q b s).1.beacons = (s.setBeacon q (beaconRecord b s.now)).beacons :=
  (fedIf_sameBut _ _ _ _ _ .beacons (by simp)).trans (State.postAll_beacons _ _)

/-- The ring's topology record after a beacon. -/
def beaconRing : RingRec := if beaconHears q b s
  then recomputeRing (s.setBeacon q (beaconRecord b s.now)) q.ring (if beaconJudges q b s then [q.unit] else [])
  else s.rings.get q.ring

theorem beaconFed_ring : (if beaconHears q b s
    then recomputeRing ((s.setBeacon q (beaconRecord b s.now)).postAll (beaconNotes q b s)) q.ring
      (if beaconJudges q b s then [q.unit] else [])
    else ((s.setBeacon q (beaconRecord b s.now)).postAll (beaconNotes q b s)).rings.get q.ring) = beaconRing q b s := by
  have posts := postAll_sameBut (s.setBeacon q (beaconRecord b s.now)) (beaconNotes q b s)
  rw [recomputeRing_congr (posts .clock (by simp)) (posts .work (by simp)) (posts .beacons (by simp))
    (posts .rings (by simp)) (posts .spans (by simp)), State.postAll_rings]
  rfl

theorem beaconFed_rings : (beaconFed q b s).1.rings = s.rings.set q.ring (beaconRing q b s) := by
  rw [beaconFed, fedIf_rings, beaconFed_ring, State.postAll_rings]
  rfl

theorem beaconFed_spans (port : SpanPort) :
    (beaconFed q b s).1.spans.get port = pathMarked s (beaconFed q b s).1 port :=
  (fedIf_spans _ _ _ _ _ port).trans (pathMarked_congr (State.postAll_spans _ _) (State.postAll_rings _ _) rfl port)

theorem beaconFed_reported : ∃ feeds, FeedReported q.ring (beaconCause q b s).ctorIdx (s.rings.get q.ring).units
    (beaconRing q b s).units feeds ∧ QueuesAgree (s.postAll (beaconNotes q b s ++ feeds)) (beaconFed q b s).1 := by
  obtain ⟨feeds, told, posted⟩ := fedIf_reported (beaconHears q b s) q.ring (beaconCause q b s)
    (if beaconJudges q b s then [q.unit] else []) ((s.setBeacon q (beaconRecord b s.now)).postAll (beaconNotes q b s))
  rw [beaconFed_ring, State.postAll_rings] at told
  refine ⟨feeds, told, ?_⟩
  rw [postAll_append]
  have recorded := setBeacon_sameBut s q (beaconRecord b s.now)
  exact (postAll_congr _ (postAll_congr _
    ⟨recorded .clock (by simp), (recorded .resets (by simp)).1, recorded .events (by simp)⟩)).trans posted

/-- What a beacon hands on reaches no further than a feed change. -/
theorem handBeacon_reach : ∀ h ∈ (handBeacon q b s).2, h ≠ .activation ∧ ∀ part ∈ h.reach, part ∈ ringParts := by
  rw [handBeacon_eq]
  intro h hm
  rcases List.mem_append.1 hm with hm | hm
  · have := fedIf_ofRing _ _ _ _ _ h hm
    exact ⟨this.ne_activation, this.reach⟩
  · split at hm
    · simp at hm
    · obtain rfl := List.mem_singleton.1 hm
      exact ⟨nofun, by simp [HandOver.reach, ringParts]⟩

theorem handBeacon_weight : ((handBeacon q b s).2.map HandOver.weight).sum ≤ settleFuel := by
  have fed := fedIf_weight (beaconHears q b s) q.ring (beaconCause q b s) (if beaconJudges q b s then [q.unit] else [])
    ((s.setBeacon q (beaconRecord b s.now)).postAll (beaconNotes q b s))
  have amplifier : ((if (posGet s.beacons q).amplifier = b.amplifier then [] else
      [HandOver.alloc q .amplifier]).map HandOver.weight).sum ≤ 1 := by
    split <;> simp [HandOver.weight]
  rw [handBeacon_eq, List.map_append, List.sum_append, settleFuel]
  exact Nat.le_trans (Nat.add_le_add fed amplifier) (by decide)

/-- The amplifier's change is told to the position's allocation record. -/
theorem handBeacon_status (h : (posGet s.beacons q).amplifier ≠ b.amplifier) :
    (posGet (settled (handBeacon q b s)).alloc q).status = (handBeacon q b s).1.dueStatus q := by
  refine settled_status (fun h hm => (handBeacon_reach q b s h hm).1) (handBeacon_weight q b s)
    (.inr ⟨.alloc q .amplifier, ?_, rfl, .inr rfl⟩)
  rw [handBeacon_eq, if_neg h]
  exact List.mem_append_right _ (List.mem_singleton_self _)

/-- A beacon that repeats the last but for its time and loopback changes nothing further. -/
theorem handBeacon_repeats (hh : beaconHears q b s = false) (ha : (posGet s.beacons q).amplifier = b.amplifier) :
    handBeacon q b s = (s.setBeacon q (beaconRecord b s.now), []) := by
  have quiet := hh
  simp only [beaconHears, Bool.or_eq_false_iff] at quiet
  obtain ⟨⟨found, judged⟩, -⟩ := quiet
  have present : (posGet s.beacons q).status = some .present := by
    simpa [beaconFinds] using found
  have notes : beaconNotes q b s = [] := by
    rw [beaconNotes, present, judged, if_pos ha]
    rfl
  have fed : beaconFed q b s = (s.setBeacon q (beaconRecord b s.now), []) := by
    rw [beaconFed, hh, notes]
    rfl
  rw [handBeacon_eq, fed, if_pos ha]
  rfl

end

/-! ### The end of a silence timer (R31) -/

section
variable (q : Position) (s : State)

/-- A position that has fallen silent is LOST. -/
def silenced : State := s.setBeacon q { posGet s.beacons q with status := some .lost, silence := none }

theorem silenceEnded_idle (h : (posGet s.beacons q).status ≠ some .present ∨ (posGet s.beacons q).silence = some s.now) :
    silenceEnded q s = (s, []) := by
  refine if_neg fun ⟨hp, hb⟩ => h.elim (· hp) fun hs => ?_
  simp [justBegun, hs] at hb

/-- The state with the loss posted and the ring formed afresh, and what it hands on. -/
def silenceFed : Handed := fedIf true q.ring .unit [] ((silenced q s).post ⟨.ruLost, .alarm, .position q, []⟩)

theorem silenceEnded_lost (hp : (posGet s.beacons q).status = some .present)
    (hs : (posGet s.beacons q).silence ≠ some s.now) : silenceEnded q s = silenceFed q s :=
  if_pos ⟨hp, decide_eq_false hs⟩

theorem silenceFed_sameBut : SameBut [.beacons, .spans, .rings, .events] s (silenceFed q s).1 :=
  (((setBeacon_sameBut s q _).mono (by simp)).trans ((post_sameBut _ _).mono (by simp))).trans
    ((fedIf_sameBut _ _ _ _ _).mono (by simp))

theorem silenceFed_beacons : (silenceFed q s).1.beacons = (silenced q s).beacons :=
  (fedIf_sameBut _ _ _ _ _ .beacons (by simp)).trans (post_sameBut _ _ .beacons (by simp))

theorem silenceFed_ring : recomputeRing ((silenced q s).post ⟨.ruLost, .alarm, .position q, []⟩) q.ring [] =
    recomputeRing (silenced q s) q.ring [] :=
  have posts := post_sameBut (silenced q s) ⟨.ruLost, .alarm, .position q, []⟩
  recomputeRing_congr (posts .clock (by simp)) (posts .work (by simp)) (posts .beacons (by simp)) (posts .rings (by simp))
    (posts .spans (by simp)) _ _

theorem silenceFed_rings : (silenceFed q s).1.rings = s.rings.set q.ring (recomputeRing (silenced q s) q.ring []) := by
  rw [silenceFed, fedIf_rings, if_pos rfl, silenceFed_ring, post_sameBut _ _ .rings (by simp)]
  rfl

theorem silenceFed_spans (port : SpanPort) :
    (silenceFed q s).1.spans.get port = pathMarked s (silenceFed q s).1 port :=
  (fedIf_spans _ _ _ _ _ port).trans (pathMarked_congr (post_sameBut _ _ .spans (by simp))
    (post_sameBut _ _ .rings (by simp)) rfl port)

theorem silenceFed_reported : ∃ feeds, FeedReported q.ring 1 (s.rings.get q.ring).units
    (recomputeRing (silenced q s) q.ring []).units feeds ∧
    QueuesAgree (s.postAll (⟨.ruLost, .alarm, .position q, []⟩ :: feeds)) (silenceFed q s).1 := by
  obtain ⟨feeds, told, posted⟩ := fedIf_reported true q.ring .unit []
    ((silenced q s).post ⟨.ruLost, .alarm, .position q, []⟩)
  rw [if_pos rfl, silenceFed_ring, post_sameBut _ _ .rings (by simp)] at told
  refine ⟨feeds, told, ?_⟩
  have lost := setBeacon_sameBut s q { posGet s.beacons q with status := some .lost, silence := none }
  exact (postAll_congr _ ⟨lost .clock (by simp), (lost .resets (by simp)).1, lost .events (by simp)⟩).trans posted

end

end Sys2Proof.Machine
end

section
open Sys2Proof Sys2Proof.Machine

/-- Settles O38: the ring is formed afresh where the beacon has it hear of a change (`beaconFed`), and what is handed on of it
is taken in whatever order. -/
theorem beaconsAreHandedOn : Obligations.BeaconsAreHandedOn := by
  intro s p b hc x names
  have run : exec (.beaconReceived p b) s = .next (settled (beaconArrived p b s)) :=
    congrArg Host.Outcome.next (inService_eq hc _)
  refine ⟨fun hd => ?_, fun hu hq => ?_, fun q hu hq => ?_, fun q => ?_⟩
  · rw [run, beaconArrived_down hd, settled_nil]
  · rw [run, beaconArrived_stray hu hq, settled_nil]
  · intro old new u judged found hears ring
    rw [run, beaconArrived_named hu hq]
    refine ⟨fun hh ha => by rw [handBeacon_repeats q b s hh ha, settled_nil]; rfl, _, rfl, ?_⟩
    have taken : SameBut ringParts (beaconFed q b s).1 (settled (handBeacon q b s)) := by
      have := settled_sameBut ringParts (handBeacon q b s) (by simp [ringParts]) fun h hm =>
        (handBeacon_reach q b s h hm).2
      rwa [handBeacon_eq] at this ⊢
    have rings : (settled (handBeacon q b s)).rings = s.rings.set q.ring ring :=
      (taken .rings (by simp [ringParts])).trans (beaconFed_rings q b s)
    have beacons : (settled (handBeacon q b s)).beacons = u.beacons :=
      (taken .beacons (by simp [ringParts])).trans (beaconFed_beacons q b s)
    obtain ⟨feeds, told, posted⟩ := beaconFed_reported q b s
    refine ⟨((beaconFed_sameBut q b s).mono (by simp [fedParts])).trans (taken.mono (by simp [ringParts, fedParts])), beacons,
      rings, fun port => ?_, ⟨feeds, ?_, ?_⟩, fun ha => ?_⟩
    · rw [taken .spans (by simp [ringParts])]
      exact (beaconFed_spans q b s port).trans (pathMarked_congr rfl rfl (taken .rings (by simp [ringParts])).symm port)
    · rw [rings, PerRing.get_set, if_pos rfl]
      have cause : (beaconCause q b s).ctorIdx = if found || judged then 1 else 0 := by
        show (if found || judged then FeedCause.unit else .hop).ctorIdx = _
        split <;> rfl
      rwa [cause] at told
    · have logs : Logs (beaconFed q b s).1 (settled (handBeacon q b s)) := by
        have := settled_logs (handBeacon q b s)
        rwa [handBeacon_eq] at this ⊢
      have posts := Posts.of_logs posted logs
      have notes : beaconNotes q b s = _ := rfl
      unfold beaconNotes at posts
      exact posts
    · have beacon : (posGet (handBeacon q b s).1.beacons q).amplifier = b.amplifier := by
        rw [handBeacon_eq, beaconFed_beacons, State.setBeacon_beacons, posGet_posSet, if_pos rfl]
        rfl
      rw [handBeacon_status q b s ha, State.dueStatus, beacon, State.unitState, State.unitState, rings, handBeacon_eq,
        beaconFed_rings]
      rfl
  · intro old u
    have run : exec (.silenceTimerExpiry q) s = .next (settled (silenceEnded q s)) :=
      congrArg Host.Outcome.next (inService_eq hc _)
    refine ⟨fun h => by rw [run, silenceEnded_idle q s h, settled_nil], fun hp hs => ?_⟩
    rw [run, silenceEnded_lost q s hp hs]
    obtain ⟨feeds, told, posted⟩ := silenceFed_reported q s
    have taken := settled_ofRing (x := silenceFed q s) (fedIf_ofRing _ _ _ _ _)
    have rings : (settled (silenceFed q s)).rings = s.rings.set q.ring (recomputeRing u q.ring []) :=
      (taken .rings (by simp [ringParts])).trans (silenceFed_rings q s)
    refine ⟨_, rfl, ((silenceFed_sameBut q s).mono (by simp [fedParts])).trans (taken.mono (by simp [ringParts, fedParts])),
      (taken .beacons (by simp [ringParts])).trans (silenceFed_beacons q s), rings, fun port => ?_, feeds, ?_,
      Posts.of_logs posted (settled_logs _)⟩
    · rw [taken .spans (by simp [ringParts])]
      exact (silenceFed_spans q s port).trans (pathMarked_congr rfl rfl (taken .rings (by simp [ringParts])).symm port)
    · rw [rings, PerRing.get_set, if_pos rfl]
      exact told
end

section
/-! SUPPORT. PORT CONFIG: the grades it names, the settings it replaces, and what the ring hears of a changed time. -/

namespace Sys2Proof.Machine

open Sys2Proof

/-! ### A list of grades read as a set (R21) -/

theorem gradeOf_eq_some {n : Nat} {g : Grade} : gradeOf n = some g ↔ n = Grade.number g := by
  constructor
  · unfold gradeOf
    split <;> simp only [Option.some.injEq, reduceCtorEq, false_implies] <;> rintro rfl <;> rfl
  · rintro rfl
    cases g <;> rfl

theorem gradeOf_eq_none {n : Nat} : gradeOf n = none ↔ n = 0 ∨ 4 < n := by
  rcases n with _ | _ | _ | _ | _ | n
  case succ.succ.succ.succ.succ => simp [gradeOf]
  all_goals simp [gradeOf]

/-- The set of a list that was read holds the grades whose numbers the list names. -/
theorem gradeSet_of_allOf {ns : List Nat} {gs : List Grade} (h : allOf gradeOf ns = some gs) : GradeSet.ofList gs =
    ⟨decide (1 ∈ ns), decide (2 ∈ ns), decide (3 ∈ ns), decide (4 ∈ ns)⟩ := by
  have named (g : Grade) : g ∈ gs ↔ Grade.number g ∈ ns := by
    have := congrArg (some g ∈ ·) (allOf_eq_some_iff.1 h)
    simpa [gradeOf_eq_some] using this.symm
  simp only [GradeSet.ofList, named, Grade.number]

theorem allOf_gradeOf_eq_none {ns : List Nat} : allOf gradeOf ns = none ↔ ∃ g ∈ ns, g = 0 ∨ 4 < g := by
  rw [← Option.isNone_iff_eq_none, allOf_isNone_iff]
  simp only [gradeOf_eq_none]

/-- A return of units is told of any state with the same rings, ports, beacons and records as the one it began in. -/
theorem Restored.congr {r : Ring} {code : Nat} {s s' t : State} (hr : s'.rings = s.rings) (hs : s'.spans = s.spans)
    (hb : s'.beacons = s.beacons) (hq : QueuesAgree s s') (h : Restored r code s t) : Restored r code s' t := by
  unfold Restored at h ⊢
  rw [hr, hs, hb]
  obtain ⟨timer, hops, reachA, reachB, others, units, spans, ⟨feeds, told, posts⟩, status⟩ := h
  exact ⟨timer, hops, reachA, reachB, others, units, spans, ⟨feeds, told, posts.congr hq⟩, status⟩

/-! ### The settings and the ports after a PORT CONFIG (R21, R36) -/

section
variable (p : SpanPort) (set : GradeSet) (t r : Nat) (s : State)

/-- The ring settings record with one port's settings and the wait-to-restore time replaced (R21). -/
def configSettings (old : RingSettings) (side : Side) : RingSettings :=
  { old.withPort side set t with restore := r }

theorem configSettings_eq (old : RingSettings) (side : Side) : configSettings set t r old side = match side with
    | .a => ⟨set, old.gradesB, t, old.thresholdB, r⟩
    | .b => ⟨old.gradesA, set, old.thresholdA, t, r⟩ := by
  cases side <;> rfl

theorem settingsFields_configSettings (old : RingSettings) (side : Side) :
    settingsFields (configSettings set t r old side) side = gradesField set ++ [.quantity t, .quantity r] := by
  cases side <;> rfl

/-- The ports after a PORT CONFIG: a port in UP whose threshold changes starts its buffer again (R36). -/
def configSpans : PerSpan Span :=
  if (s.settings p).threshold p.side ≠ t ∧ (s.spans.get p).isUp = true then
    s.spans.set p { s.spans.get p with buffer := { (s.spans.get p).buffer with blocks := [], running := false, mark := true } }
  else s.spans

/-- The state with the settings replaced, and with the buffer that a changed threshold starts again. -/
def configured : State :=
  { s.setSettings p.ring (configSettings set t r (s.settings p) p.side) with spans := configSpans p t s }

/-- The state with the settings in force, and what a changed time hands on (R58). -/
def configHanded : Handed :=
  if (s.settings p).restore = r then (configured p set t r s, []) else restoreTimeChanged p.ring (configured p set t r s)

theorem configured_eq : configured p set t r s =
    if (s.settings p).threshold p.side = t then s.setSettings p.ring (configSettings set t r (s.settings p) p.side)
    else thresholdChanged p (s.setSettings p.ring (configSettings set t r (s.settings p) p.side)) := by
  unfold configured configSpans thresholdChanged
  by_cases ht : (s.settings p).threshold p.side = t
  · rw [if_pos ht, if_neg fun h => h.1 ht]
    rfl
  · rw [if_neg ht]
    by_cases hu : (s.spans.get p).isUp = true
    · rw [if_pos ⟨ht, hu⟩]
      exact (if_pos hu).symm
    · rw [if_neg fun h => hu h.2]
      exact (if_neg hu).symm

theorem configured_restore : ((configured p set t r s).work.rings.get p.ring).restore = r := by
  simp only [configured, State.setSettings, PerRing.get_set, if_pos]
  rfl

theorem configured_sameBut :
    SameBut [.spans] (s.setSettings p.ring (configSettings set t r (s.settings p) p.side)) (configured p set t r s) := by
  intro y hy
  cases y <;> simp [Part.same, configured] at hy ⊢

variable {p r s}

theorem restoreTimeChanged_reached {since : Nat} (ht : (s.rings.get p.ring).timer = some since)
    (h : (s.work.rings.get p.ring).restore * 1000 ≤ s.now - since) :
    restoreTimeChanged p.ring s = restoreEvent p.ring .restore s := by
  simp only [restoreTimeChanged, ht]
  exact if_pos h

theorem restoreTimeChanged_short (h : ∀ since, (s.rings.get p.ring).timer = some since →
    s.now - since < (s.work.rings.get p.ring).restore * 1000) : restoreTimeChanged p.ring s = (s, []) := by
  unfold restoreTimeChanged
  split
  next since ht => exact if_neg (Nat.not_le.2 (h since ht))
  next => rfl

theorem configHanded_reached {since : Nat} (ht : (s.rings.get p.ring).timer = some since) (hr : r ≠ (s.settings p).restore)
    (h : r * 1000 ≤ s.now - since) :
    configHanded p set t r s = restoreEvent p.ring .restore (configured p set t r s) := by
  rw [configHanded, if_neg hr.symm]
  exact restoreTimeChanged_reached ht (by rwa [configured_restore])

theorem configHanded_short (h : ∀ since, (s.rings.get p.ring).timer = some since →
    r = (s.settings p).restore ∨ s.now - since < r * 1000) :
    configHanded p set t r s = (configured p set t r s, []) := by
  unfold configHanded
  split
  next => rfl
  next hr =>
    refine restoreTimeChanged_short fun since ht => ?_
    rw [configured_restore]
    exact (h since ht).resolve_left fun he => hr he.symm

/-- What a changed time hands on is a feed change of the ring. -/
theorem configHanded_ofRing : ∀ h ∈ (configHanded p set t r s).2, h.ofRing := by
  unfold configHanded restoreTimeChanged
  split
  · simp
  · split
    · split
      · exact restoreEvent_ofRing
      · simp
    · simp

theorem configHanded_sameBut : SameBut [.spans, .rings, .events]
    (s.setSettings p.ring (configSettings set t r (s.settings p) p.side)) (configHanded p set t r s).1 := by
  refine ((configured_sameBut p set t r s).mono (by simp)).trans ?_
  unfold configHanded restoreTimeChanged
  split
  · exact SameBut.refl _ _
  · split
    · split
      · exact restoreEvent_sameBut
      · exact SameBut.refl _ _
    · exact SameBut.refl _ _

/-- The state after an accepted PORT CONFIG, with its reply held. -/
def configSettled (p : SpanPort) (set : GradeSet) (t r : Nat) (port : MgmtPort) (reply : Reply) (s : State) : State :=
  settled ((configHanded p set t r s).1.withHeld port (.ring p.ring) reply, (configHanded p set t r s).2)

variable (port : MgmtPort) (reply : Reply)

theorem configSettled_taken : SameBut ringParts ((configHanded p set t r s).1.withHeld port (.ring p.ring) reply)
    (configSettled p set t r port reply s) :=
  settled_ofRing (configHanded_ofRing set t)

theorem configSettled_sameBut : SameBut fedParts
    ((s.setSettings p.ring (configSettings set t r (s.settings p) p.side)).withHeld port (.ring p.ring) reply)
    (configSettled p set t r port reply s) :=
  ((withHeld_congr (configHanded_sameBut set t) _ _ _).mono (by simp [fedParts])).trans
    ((configSettled_taken set t port reply).mono (by simp [ringParts, fedParts]))

theorem configSettled_short (h : ∀ since, (s.rings.get p.ring).timer = some since →
    r = (s.settings p).restore ∨ s.now - since < r * 1000) : (configSettled p set t r port reply s).rings = s.rings ∧
      (configSettled p set t r port reply s).spans = configSpans p t s := by
  have taken := configSettled_taken set t (p := p) (r := r) (s := s) port reply
  have rings := taken .rings (by simp [ringParts])
  have spans := taken .spans (by simp [ringParts])
  rw [configHanded_short set t h] at rings spans
  exact ⟨rings, spans⟩

theorem configSettled_reached {since : Nat} (ht : (s.rings.get p.ring).timer = some since)
    (hr : r ≠ (s.settings p).restore) (h : r * 1000 ≤ s.now - since) :
    Restored p.ring 3 { s with spans := configSpans p t s } (configSettled p set t r port reply s) := by
  have returned : Restored p.ring FeedCause.restore.ctorIdx (configured p set t r s)
      (configSettled p set t r port reply s) := by
    rw [configSettled, configHanded_reached set t ht hr h]
    refine restored_settled ?_ (withHeld_sameBut _ port (.ring p.ring) reply)
    show (s.rings.get p.ring).timer ≠ none
    simp [ht]
  exact Restored.congr (s := configured p set t r s) rfl rfl rfl ⟨rfl, rfl, fun _ => ⟨rfl, rfl⟩⟩ returned

end

/-! ### The request (R21) -/

/-- The wait-to-restore time that a PORT CONFIG leaves in force (R21). -/
def configRestore (old : Nat) (restore : Option Int) : Nat := (restore.map (clampNat 10 600)).getD old

theorem configRestore_eq (old : Nat) (restore : Option Int) : configRestore old restore = match restore with
    | none => old
    | some v => (max 10 (min 600 v)).toNat := by
  cases restore with
  | none => rfl
  | some v => exact clampNat_eq 10 600 (by decide) v

section
variable {s : State} {a : PortConfigArgs}

theorem portConfig_badId (h : ∀ p, spanNumber p ≠ a.port) : portConfig a s = refuse s .badId := by
  rw [portConfig, spanOf_eq_none.2 h]

variable {p : SpanPort} (hp : a.port = spanNumber p) (hw : s.writing (.ring p.ring) = false)
include hp hw

theorem portConfig_badValue (h : a.grades = [] ∨ ∃ g ∈ a.grades, g = 0 ∨ 4 < g) : portConfig a s = refuse s .badValue := by
  simp only [portConfig, hp, spanOf_spanNumber, hw, Bool.false_eq_true, if_false]
  split
  next => rfl
  next gs hgs =>
    have empty : gs = [] := by
      rcases h with h | h
      · rw [h] at hgs
        exact (Option.some.inj hgs).symm
      · rw [allOf_gradeOf_eq_none.2 h] at hgs
        cases hgs
    rw [empty]
    rfl

theorem portConfig_set (hne : a.grades ≠ []) (hg : ∀ g ∈ a.grades, 1 ≤ g ∧ g ≤ 4) :
    let set : GradeSet := ⟨decide (1 ∈ a.grades), decide (2 ∈ a.grades), decide (3 ∈ a.grades), decide (4 ∈ a.grades)⟩
    let t := clampNat 1 4 a.threshold
    let r := configRestore (s.settings p).restore a.restore
    portConfig a s = written (.ring p.ring)
      (clampAnswer ((t : Int) != a.threshold || a.restore.any fun v => (r : Int) != v))
      (gradesField set ++ [.quantity t, .quantity r]) (configHanded p set t r s) := by
  obtain ⟨gs, hgs⟩ : ∃ gs, allOf gradeOf a.grades = some gs :=
    Option.ne_none_iff_exists'.1 fun h => by
      obtain ⟨g, hm, hbad⟩ := allOf_gradeOf_eq_none.1 h
      have := hg g hm
      omega
  have nonempty : gs.isEmpty = false := by
    cases gs with
    | nil => exact absurd (List.length_eq_zero_iff.1 (allOf_length hgs).symm) hne
    | cons => rfl
  intro set t r
  simp only [portConfig, hp, spanOf_spanNumber, hw, Bool.false_eq_true, if_false, hgs, nonempty, gradeSet_of_allOf hgs]
  rw [← settingsFields_configSettings set t r (s.settings p) p.side, configHanded, configured_eq]
  rfl

end

/-- The answer of a PORT CONFIG tells whether some value was clamped (R169). -/
theorem configAnswer_eq (threshold : Int) (t r : Nat) (restore : Option Int) [Decidable ((t : Int) ≠ threshold ∨ ∃ v, restore = some v ∧ (r : Int) ≠ v)] :
    clampAnswer ((t : Int) != threshold || restore.any fun v => (r : Int) != v) =
      if (t : Int) ≠ threshold ∨ ∃ v, restore = some v ∧ (r : Int) ≠ v then .acceptedClamped else .accepted := by
  unfold clampAnswer
  refine if_congr ?_ rfl rfl
  cases restore <;> simp

end Sys2Proof.Machine
end

section
open Sys2Proof Sys2Proof.Machine

/-- Settles O31: a changed time that a running timer has reached is a return of the ring's waiting units (`Restored`), which
the held reply leaves as it is. -/
theorem portConfigTakesEffect : Obligations.PortConfigTakesEffect := by
  refine ⟨fun s port tag a h hp => ?_, fun s port tag p grades threshold restore h hw => ?_⟩
  · exact exec_ready rfl h rfl (by simp) (portConfig_badId hp)
  intro w cmd
  have free : w.writing (.ring p.ring) = false := (watchFrame_writing port s _).trans (writing_eq_false hw)
  refine ⟨fun hbad => exec_ready rfl h rfl (by simp) (portConfig_badValue rfl free hbad), fun hne hg => ?_⟩
  intro set t' old r' new clamped
  have threshold_eq : clampNat 1 4 threshold = t' := clampNat_eq 1 4 (by decide) threshold
  have settings_eq : w.settings p = old := congrArg (·.rings.get p.ring) (watchFrame_work port s)
  have restore_eq : configRestore (w.settings p).restore restore = r' := by
    rw [settings_eq]
    exact configRestore_eq old.restore restore
  have new_eq : configSettings set t' r' (w.settings p) p.side = new := by
    rw [settings_eq]
    exact configSettings_eq set t' r' old p.side
  have spans_eq : configSpans p t' w = if old.threshold p.side ≠ t' ∧ (s.spans.get p).isUp = true then
      s.spans.set p { s.spans.get p with buffer := { (s.spans.get p).buffer with blocks := [], running := false, mark := true } }
      else s.spans := by
    rw [configSpans, settings_eq, watchFrame_spans]
  let reply : Reply := ⟨0x24, tag, if clamped then .acceptedClamped else .accepted,
    gradesField set ++ [.quantity t', .quantity r']⟩
  have run : exec cmd s = .next (configSettled p set t' r' port reply w) := by
    have run := exec_held (i := cmd) (tag := tag) rfl h rfl (by simp) (portConfig_set rfl free hne hg)
    rw [threshold_eq, restore_eq, configAnswer_eq] at run
    exact run
  refine ⟨_, run, ?_, fun short => ?_, fun since ht hr reached => ?_⟩
  · rw [← new_eq]
    exact configSettled_sameBut set t' port reply
  · rw [← spans_eq]
    have := configSettled_short set t' (p := p) (r := r') (s := w) port reply
    rw [settings_eq, watchFrame_rings, watchFrame_now] at this
    exact this short
  · rw [← spans_eq]
    refine configSettled_reached set t' port reply (since := since) ?_ ?_ ?_
    · rwa [watchFrame_rings]
    · rwa [settings_eq]
    · rwa [watchFrame_now]
end

section
/-! SUPPORT. What the read requests show: the hop that sets a path's capacity, the free runs of the clip store, and the records
field by field. -/

namespace Sys2Proof.Machine

open Sys2Proof

/-! ### The hop that sets a path's capacity (R54) -/

section
variable (x : RingRec) (low : Bool)

/-- The weaker of the best hop so far and the next one (R54). -/
def weakerHop (best : Option (Nat × Nat)) (i : Nat) : Option (Nat × Nat) :=
  match best with
  | none => some (x.hopSlots i, i)
  | some (m, j) => if x.hopSlots i < m ∨ (low = false ∧ x.hopSlots i = m) then some (x.hopSlots i, i) else some (m, j)

theorem weakest_eq (first last : Nat) :
    x.weakest low first last = ((List.range (last + 1)).filter (first ≤ ·)).foldl (weakerHop x low) none := rfl

/-- A hop has the fewest slots of some hops, and of equals is the lowest, or the highest. -/
def WeakestOf (hop : Nat) (l : List Nat) : Prop := hop ∈ l ∧ ∀ i ∈ l, x.hopSlots hop ≤ x.hopSlots i ∧
  (x.hopSlots i = x.hopSlots hop → if low then hop ≤ i else i ≤ hop)

theorem foldl_weakerHop {l : List Nat} (hs : l.Pairwise (· < ·)) : (l = [] ∧ l.foldl (weakerHop x low) none = none) ∨
    ∃ hop, WeakestOf x low hop l ∧ l.foldl (weakerHop x low) none = some (x.hopSlots hop, hop) := by
  induction l using List.reverseRecOn with
  | nil => exact .inl ⟨rfl, rfl⟩
  | append_singleton l i ih =>
    obtain ⟨hl, -, hlt⟩ := List.pairwise_append.1 hs
    rw [List.foldl_append, List.foldl_cons, List.foldl_nil]
    right
    rcases ih hl with ⟨rfl, hn⟩ | ⟨hop, ⟨hm, hle⟩, hf⟩
    · rw [hn]
      exact ⟨i, ⟨by simp, by simp⟩, rfl⟩
    rw [hf]
    have above : ∀ j ∈ l, j < i := fun j hj => hlt j hj i (List.mem_singleton_self i)
    simp only [weakerHop]
    split
    next hw =>
      refine ⟨i, ⟨by simp, fun j hj => ?_⟩, rfl⟩
      rcases List.mem_append.1 hj with hj | hj
      · obtain ⟨hlej, -⟩ := hle j hj
        have := above j hj
        cases low <;> simp at hw ⊢ <;> omega
      · obtain rfl := List.mem_singleton.1 hj
        simp
    next hw =>
      refine ⟨hop, ⟨by simp [hm], fun j hj => ?_⟩, rfl⟩
      rcases List.mem_append.1 hj with hj | hj
      · exact hle j hj
      · obtain rfl := List.mem_singleton.1 hj
        have := above hop hm
        cases low <;> simp at hw ⊢ <;> omega

/-- The weakest of hops `first` to `last`, where there is one. -/
theorem weakest_of_hop {first last : Nat} (h : ∃ i, first ≤ i ∧ i ≤ last) : ∃ hop, first ≤ hop ∧ hop ≤ last ∧
    x.weakest low first last = some (x.hopSlots hop, hop) ∧ ∀ i, first ≤ i → i ≤ last →
      x.hopSlots hop ≤ x.hopSlots i ∧ (x.hopSlots i = x.hopSlots hop → if low then hop ≤ i else i ≤ hop) := by
  have mem (i : Nat) : i ∈ (List.range (last + 1)).filter (first ≤ ·) ↔ first ≤ i ∧ i ≤ last := by
    simp [and_comm]
  obtain ⟨i, hi⟩ := h
  rcases foldl_weakerHop x low (List.Pairwise.filter (first ≤ ·) (List.pairwise_lt_range (n := last + 1))) with
    ⟨hn, -⟩ | ⟨hop, ⟨hm, hle⟩, hf⟩
  · have := (mem i).2 hi
    rw [hn] at this
    cases this
  · obtain ⟨h1, h2⟩ := (mem hop).1 hm
    exact ⟨hop, h1, h2, hf, fun j h1 h2 => hle j ((mem j).2 ⟨h1, h2⟩)⟩

end

theorem slotsOf_eq (s : State) (r : Ring) (i : Nat) : slotsOf s r i = (s.rings.get r).hopSlots i := by
  rw [slotsOf, RingRec.hopSlots, List.getD_eq_getElem?_getD]
  cases (s.rings.get r).hops[i - 1]? with
  | none => rfl
  | some h => cases h <;> rfl

/-- RING STATUS shows of a path what R61 says. -/
theorem pathStatus_shows (s : State) (r : Ring) (side : Side) :
    ShowsPath s r side (pathStatus r (s.rings.get r) side) := by
  unfold ShowsPath
  rw [fedFrom_eq_members]
  refine ⟨fun h => by rw [pathStatus, h]; rfl, fun first last hf hl => ?_⟩
  simp only [slotsOf_eq]
  cases side with
  | a =>
    intro h
    obtain ⟨hop, h1, h2, hw, hle⟩ := weakest_of_hop (s.rings.get r) true h
    refine ⟨hop, ⟨h1, h2⟩, fun i hi => hle i hi.1 hi.2, ?_⟩
    have capacity : (s.rings.get r).pathCapacity .a = some ((s.rings.get r).hopSlots hop, hop) := by
      rw [RingRec.pathCapacity, hl, Option.bind_some, hw]
    rw [pathStatus, hf, hl, capacity]
  | b =>
    intro h
    obtain ⟨hop, h1, h2, hw, hle⟩ := weakest_of_hop (s.rings.get r) false h
    refine ⟨hop, ⟨h1, h2⟩, fun i hi => hle i hi.1 hi.2, ?_⟩
    have capacity : (s.rings.get r).pathCapacity .b = some ((s.rings.get r).hopSlots hop, hop) := by
      rw [RingRec.pathCapacity, hf, Option.bind_some, hw]
    rw [pathStatus, hf, hl, capacity]

/-! ### The free pages and the longest free run (R124, R129) -/

/-- The pages of a run. -/
def Run.span (g : Run) : List Nat := List.range' g.1 g.2

/-- A page that none of some runs occupies. -/
def freeOf (runs : List Run) (k : Nat) : Bool := runs.all fun r => decide (k < r.1 ∨ r.1 + r.2 ≤ k)

/-- The pages of the store from one on. -/
def pagesFrom (cur : Nat) : List Nat := List.range' cur (storePages - cur)

theorem mem_pagesFrom {cur k : Nat} : k ∈ pagesFrom cur ↔ cur ≤ k ∧ k < storePages := by
  simp only [pagesFrom, List.mem_range'_1]
  omega

theorem pagesFrom_split {cur mid : Nat} (h : cur ≤ mid) (hm : mid ≤ storePages) :
    pagesFrom cur = List.range' cur (mid - cur) ++ pagesFrom mid := by
  rw [pagesFrom, pagesFrom, show storePages - cur = (mid - cur) + (storePages - mid) by omega, ← List.range'_append_1]
  congr 2
  omega

/-- The pages that one more run leaves free, from a page not before the run: those after it. -/
theorem filter_freeOf_cons {first n cur : Nat} {rest : List Run} (hc : first ≤ cur) (hn : first + n ≤ storePages) :
    (pagesFrom cur).filter (freeOf ((first, n) :: rest)) = (pagesFrom (max cur (first + n))).filter (freeOf rest) := by
  have after (mid : Nat) (hm : first + n ≤ mid) :
      (pagesFrom mid).filter (freeOf ((first, n) :: rest)) = (pagesFrom mid).filter (freeOf rest) := by
    refine List.filter_congr fun k hk => ?_
    have := (mem_pagesFrom.1 hk).1
    have out : k < first ∨ first + n ≤ k := by omega
    simp [freeOf, out]
  rcases Nat.le_total (first + n) cur with h | h
  · rw [max_eq_left h, after cur h]
  · rw [max_eq_right h, pagesFrom_split h hn, List.filter_append, after _ le_rfl]
    have occupied : (List.range' cur (first + n - cur)).filter (freeOf ((first, n) :: rest)) = [] := by
      refine List.filter_eq_nil_iff.2 fun k hk => ?_
      have := List.mem_range'_1.1 hk
      have inside : ¬(k < first ∨ first + n ≤ k) := by omega
      simp [freeOf, inside]
    rw [occupied, List.nil_append]

/-- The gaps that some runs leave hold the pages that none of them occupies, in order. -/
theorem gaps_spans (cur : Nat) (runs : List Run) (hsort : runs.Pairwise fun x y => x.1 ≤ y.1)
    (hin : ∀ r ∈ runs, r.1 + r.2 ≤ storePages) :
    (gaps cur runs).flatMap Run.span = (pagesFrom cur).filter (freeOf runs) := by
  induction runs generalizing cur with
  | nil =>
    have all : (pagesFrom cur).filter (freeOf []) = pagesFrom cur := List.filter_eq_self.2 fun _ _ => rfl
    rw [all, gaps]
    split
    next => simp [Run.span, pagesFrom]
    next h => simp [pagesFrom, show storePages - cur = 0 by omega]
  | cons r rest ih =>
    obtain ⟨first, n⟩ := r
    obtain ⟨hfirst, hrest⟩ := List.pairwise_cons.1 hsort
    have hn : first + n ≤ storePages := hin (first, n) (List.mem_cons_self ..)
    have later := ih (max cur (first + n)) hrest fun r hr => hin r (List.mem_cons_of_mem _ hr)
    rw [gaps]
    split
    next h =>
      have before : (List.range' cur (first - cur)).filter (freeOf ((first, n) :: rest)) = List.range' cur (first - cur) := by
        refine List.filter_eq_self.2 fun k hk => ?_
        have := List.mem_range'_1.1 hk
        simp only [freeOf, List.all_eq_true, decide_eq_true_eq]
        intro r hr
        rcases List.mem_cons.1 hr with rfl | hr
        · left
          show k < first
          omega
        · have := hfirst r hr
          simp only at this
          omega
      rw [pagesFrom_split h.le (by omega), List.filter_append, before, filter_freeOf_cons le_rfl hn, List.flatMap_cons, later,
        max_eq_right (by omega), max_eq_right (by omega)]
      rfl
    next h => rw [later, filter_freeOf_cons (by omega) hn]

/-- A gap ends at the end of the store, or where an occupied run begins. -/
theorem gaps_end (cur : Nat) (runs : List Run) :
    ∀ g ∈ gaps cur runs, g.1 + g.2 = storePages ∨ ∃ r ∈ runs, r.1 = g.1 + g.2 := by
  induction runs generalizing cur with
  | nil =>
    intro g hg
    rw [gaps] at hg
    split at hg
    · obtain rfl := List.mem_singleton.1 hg
      left
      show cur + (storePages - cur) = storePages
      omega
    · cases hg
  | cons r rest ih =>
    obtain ⟨first, n⟩ := r
    have later : ∀ g ∈ gaps (max cur (first + n)) rest,
        g.1 + g.2 = storePages ∨ ∃ r ∈ (first, n) :: rest, r.1 = g.1 + g.2 := fun g hg =>
      (ih _ g hg).imp_right fun ⟨r, hr, he⟩ => ⟨r, List.mem_cons_of_mem _ hr, he⟩
    intro g hg
    rw [gaps] at hg
    split at hg
    · rcases List.mem_cons.1 hg with rfl | hg
      · refine .inr ⟨_, List.mem_cons_self .., ?_⟩
        show first = cur + (first - cur)
        omega
      · exact later g hg
    · exact later g hg

theorem gaps_sorted (cur : Nat) (runs : List Run) (hsort : runs.Pairwise fun x y => x.1 ≤ y.1)
    (hin : ∀ r ∈ runs, r.1 ≤ storePages) : (gaps cur runs).Pairwise fun x y => x.1 ≤ y.1 := by
  induction runs generalizing cur with
  | nil =>
    rw [gaps]
    split
    · exact List.pairwise_singleton ..
    · exact .nil
  | cons r rest ih =>
    obtain ⟨first, n⟩ := r
    obtain ⟨-, hrest⟩ := List.pairwise_cons.1 hsort
    have hin' : ∀ r ∈ rest, r.1 ≤ storePages := fun r hr => hin r (List.mem_cons_of_mem _ hr)
    rw [gaps]
    split
    · refine List.pairwise_cons.2 ⟨fun g hg => ?_, ih _ hrest hin'⟩
      exact (le_max_left _ _).trans (gaps_free _ rest hrest hin' g hg).1
    · exact ih _ hrest hin'

/-- The longest run is one of the runs, none is longer, and of equals it begins first. -/
theorem longestRun_spec {runs : List Run} (hs : runs.Pairwise fun x y => x.1 ≤ y.1) :
    ((longestRun runs ∈ runs ∧ 0 < (longestRun runs).2) ∨ longestRun runs = (0, 0)) ∧
    ∀ g ∈ runs, g.2 ≤ (longestRun runs).2 ∧ (g.2 = (longestRun runs).2 → (longestRun runs).1 ≤ g.1) := by
  induction runs using List.reverseRecOn with
  | nil => exact ⟨.inr rfl, by simp⟩
  | append_singleton l x ih =>
    obtain ⟨hl, -, hle⟩ := List.pairwise_append.1 hs
    obtain ⟨hm, hbest⟩ := ih hl
    have step : longestRun (l ++ [x]) = if (longestRun l).2 < x.2 then x else longestRun l := by
      rw [longestRun, List.foldl_append]
      rfl
    rw [step]
    split
    next h =>
      refine ⟨.inl ⟨by simp, by omega⟩, fun g hg => ?_⟩
      rcases List.mem_append.1 hg with hg | hg
      · have := (hbest g hg).1
        exact ⟨by omega, by omega⟩
      · obtain rfl := List.mem_singleton.1 hg
        exact ⟨le_rfl, fun _ => le_rfl⟩
    next h =>
      refine ⟨hm.imp_left (.imp_left (List.mem_append_left _)), fun g hg => ?_⟩
      rcases List.mem_append.1 hg with hg | hg
      · exact hbest g hg
      · obtain rfl := List.mem_singleton.1 hg
        refine ⟨by omega, fun _ => ?_⟩
        rcases hm with ⟨hm, -⟩ | hm
        · exact hle _ hm _ (List.mem_singleton_self _)
        · rw [hm]
          exact Nat.zero_le _

section
variable (clips : Vector Clip 64)

/-- A page that no clip other than an EMPTY one occupies (R124). -/
def pageFree (k : Nat) : Bool := decide (∀ d : ClipNo, clips[d].state ≠ .empty →
  k < clips[d].first ∨ clips[d].first + clips[d].pages ≤ k)

/-- Pages of the store that are free, one after another. -/
def RunFits (first m : Nat) : Prop := first + m ≤ 2048 ∧ ∀ k, first ≤ k → k < first + m → pageFree clips k = true

theorem freeOf_occupiedRuns (k : Nat) : freeOf (occupiedRuns clips) k = pageFree clips k := by
  rw [Bool.eq_iff_iff, freeOf, List.all_eq_true, pageFree, decide_eq_true_iff]
  constructor
  · intro h d hd
    simpa using h _ ((mem_occupiedRuns clips _).2 ⟨d, hd, rfl⟩)
  · intro h r hr
    obtain ⟨d, hd, rfl⟩ := (mem_occupiedRuns clips r).1 hr
    simpa using h d hd

variable {clips} (h : ∀ c : ClipNo, clips[c].sound)
include h

theorem occupiedRuns_within {r : Run} (hr : r ∈ occupiedRuns clips) : 1 ≤ r.2 ∧ r.1 + r.2 ≤ storePages := by
  obtain ⟨c, hc, rfl⟩ := (mem_occupiedRuns clips r).1 hr
  exact ⟨(h c hc).1, (h c hc).2.1⟩

theorem freeRuns_spans : (freeRuns clips).flatMap Run.span = (List.range 2048).filter (pageFree clips) := by
  rw [freeRuns, gaps_spans 0 _ (occupiedRuns_sorted clips) fun r hr => (occupiedRuns_within h hr).2]
  refine (List.filter_congr fun k _ => freeOf_occupiedRuns clips k).trans ?_
  rw [pagesFrom, List.range_eq_range']
  rfl

/-- The lengths of the free runs are together the free pages. -/
theorem freeRuns_sum : ((freeRuns clips).map (·.2)).sum = ((List.range 2048).filter (pageFree clips)).length := by
  rw [← freeRuns_spans h, List.length_flatMap]
  simp only [Run.span, List.length_range']

theorem freeRuns_sorted : (freeRuns clips).Pairwise fun x y => x.1 ≤ y.1 :=
  gaps_sorted 0 _ (occupiedRuns_sorted clips) fun r hr => by
    have := (occupiedRuns_within h hr).2
    omega

/-- A free run fits. -/
theorem freeRuns_fit {g : Run} (hg : g ∈ freeRuns clips) : RunFits clips g.1 g.2 := by
  obtain ⟨hend, hfree⟩ := freeRuns_free h hg
  refine ⟨hend, fun k h1 h2 => decide_eq_true fun d hd => ?_⟩
  have := hfree d hd
  omega

/-- Free pages one after another lie in one free run. -/
theorem within_freeRun {k m : Nat} (hf : RunFits clips k m) (hm : 0 < m) :
    ∃ g ∈ freeRuns clips, g.1 ≤ k ∧ k + m ≤ g.1 + g.2 := by
  obtain ⟨hend, hfree⟩ := hf
  have page : k ∈ (List.range 2048).filter (pageFree clips) := by
    simp only [List.mem_filter, List.mem_range]
    exact ⟨by omega, hfree k le_rfl (by omega)⟩
  rw [← freeRuns_spans h] at page
  obtain ⟨g, hg, hk⟩ := List.mem_flatMap.1 page
  have inside := List.mem_range'_1.1 hk
  refine ⟨g, hg, inside.1, ?_⟩
  by_contra hlt
  rcases gaps_end 0 _ g hg with he | ⟨r, hr, he⟩
  · simp only [storePages] at he
    omega
  · obtain ⟨c, hc, rfl⟩ := (mem_occupiedRuns clips r).1 hr
    have beyond := hfree (g.1 + g.2) (by omega) (by omega)
    have := of_decide_eq_true beyond c hc
    have := (h c hc).1
    simp only at he
    omega

/-- The longest free run is the longest that fits, and the first of these. -/
theorem longestRun_fits : RunFits clips (longestRun (freeRuns clips)).1 (longestRun (freeRuns clips)).2 ∧
    (∀ k m, RunFits clips k m → m ≤ (longestRun (freeRuns clips)).2) ∧
    ∀ k, RunFits clips k (longestRun (freeRuns clips)).2 → (longestRun (freeRuns clips)).1 ≤ k := by
  obtain ⟨hm, hbest⟩ := longestRun_spec (freeRuns_sorted h)
  refine ⟨?_, fun k m hf => ?_, fun k hf => ?_⟩
  · rcases hm with ⟨hm, -⟩ | hm
    · exact freeRuns_fit h hm
    · rw [hm]
      exact ⟨by simp, by simp⟩
  · rcases Nat.eq_zero_or_pos m with rfl | hpos
    · exact Nat.zero_le _
    · obtain ⟨g, hg, h1, h2⟩ := within_freeRun h hf hpos
      have := (hbest g hg).1
      omega
  · rcases Nat.eq_zero_or_pos (longestRun (freeRuns clips)).2 with hz | hpos
    · rcases hm with hm | hm
      · exact absurd hm.2 (by omega)
      · rw [hm]
        exact Nat.zero_le _
    · obtain ⟨g, hg, h1, h2⟩ := within_freeRun h hf hpos
      obtain ⟨hle, hfirst⟩ := hbest g hg
      have := hfirst (by omega)
      omega

end

end Sys2Proof.Machine
end

section
/-! SUPPORT. The records that the read requests show, field by field, and a read that its port serves. -/

namespace Sys2Proof.Machine

open Sys2Proof

/-! ### A read that its port serves -/

/-- What reads neither the control watch nor the management ports is as it was before the frame arrived. -/
theorem watchFrame_reads {α : Type} (f : State → α) (hf : ∀ s x m, f { s with watch := x, mgmt := m } = f s) (port : MgmtPort)
    (s : State) : f (watchFrame port s) = f s := by
  have same := watchFrame_sameBut port s
  obtain ⟨resetAt, last, causes, restarts⟩ := same .resets (by simp)
  have written : watchFrame port s = { s with watch := (watchFrame port s).watch, mgmt := (watchFrame port s).mgmt } := by
    generalize watchFrame port s = w at same resetAt last causes restarts ⊢
    cases w
    simp only [State.mk.injEq, true_and]
    exact ⟨same .clock (by simp), resetAt, last, causes, same .straps (by simp), restarts, same .baseLane (by simp),
      same .work (by simp), same .stored (by simp), same .inFlight (by simp), same .spans (by simp),
      same .beacons (by simp), same .rings (by simp), same .reference (by simp), same .carriage (by simp),
      same .alloc (by simp), same .voters (by simp), same .breakin (by simp), same .plans (by simp),
      same .contacts (by simp), same .choices (by simp), same .pending (by simp)⟩
  rw [written, hf]

/-- A read is answered with the fields that it shows of the state. -/
theorem exec_read {i : Instr} {port : MgmtPort} {tag : Byte} {r : Request} (hi : i.request? = some (port, tag, r)) {s : State}
    (h : Serves s port r) (hd : Request.decoded r = .request r) (hr : r ≠ .restart) (fields : State → List Field)
    (hf : ∀ s x m, fields { s with watch := x, mgmt := m } = fields s)
    (hc : ∀ authority w, carry port authority r w = answered w (fields w)) :
    exec i s = .next ((watchFrame port s).withReply port ⟨BitVec.ofNat 8 (Request.kind r), tag, .accepted, fields s⟩) := by
  rw [← watchFrame_reads fields hf port s]
  exact exec_ready hi h hd hr (hc _ _)

theorem ringOf_eq_none {n : Nat} : ringOf n = none ↔ ∀ r, ringNumber r ≠ n := by
  simp [Option.eq_none_iff_forall_ne_some, ringOf_eq_some]

theorem channelOf_eq_none {n : Nat} : channelOf n = none ↔ n < 1 ∨ 4 < n := identOf_eq_none.trans (by omega)
@[simp] theorem channelOf_succ (ch : ChannelNo) : channelOf (ch.val + 1) = some ch := identOf_fin 4 1 ch
@[simp] theorem clipOf_succ (c : ClipNo) : clipOf (c.val + 1) = some c := identOf_fin 64 1 c

/-! ### A port (R41) -/

theorem loopConfirmed_eq (s : State) (p : SpanPort) (t : SpanTest) : loopConfirmed s p t =
    (decide (t.loop = .far) && allPositions.any fun q => (decide (q.ring = p.ring) && decide (q.unit.val + 1 = (match p.side with
      | .a => 1
      | .b => s.ringLength p.ring))) && (posGet s.beacons q).loopback) := by
  have at_ (n : Nat) : (positionAt p.ring n).any (fun q => (posGet s.beacons q).loopback) =
      allPositions.any fun q => (decide (q.ring = p.ring) && decide (q.unit.val + 1 = n)) && (posGet s.beacons q).loopback := by
    rw [Bool.eq_iff_iff, Option.any_eq_true, List.any_eq_true]
    refine exists_congr fun q => ?_
    simp only [positionAt_eq_some, mem_allPositions, true_and, Bool.and_eq_true, decide_eq_true_iff,
      eq_comm (a := n)]
  rw [loopConfirmed, partnerOf]
  cases p.side with
  | a => rw [at_]
  | b => rw [at_]

theorem portFields_eq (s : State) (p : SpanPort) : portFields s p = showSpan s p := by
  have state : stateFields (s.spans.get p).state = (match (s.spans.get p).state with
      | .disabled => [.named 0, .present false]
      | .breaking => [.named 1, .present false]
      | .advertise => [.named 2, .present false]
      | .up g .negotiated => [.named 3, .present true, .ident (Grade.number g), .named 0]
      | .up g .parallel => [.named 3, .present true, .ident (Grade.number g), .named 1]
      | .test => [.named 4, .present false]) := by
    cases (s.spans.get p).state with
    | up g m => cases m <;> rfl
    | _ => rfl
  have settings : settingsFields (s.settings p) p.side = (match p.side with
      | .a => gradesField (s.work.rings.get p.ring).gradesA ++ [.quantity (s.work.rings.get p.ring).thresholdA]
      | .b => gradesField (s.work.rings.get p.ring).gradesB ++ [.quantity (s.work.rings.get p.ring).thresholdB]) ++
      [.quantity (s.work.rings.get p.ring).restore] := by
    cases p.side <;> simp [settingsFields, State.settings, RingSettings.grades, RingSettings.threshold]
  have partner : partnerFields (s.spans.get p).partner = (match (s.spans.get p).partner with
      | .none => [.present false]
      | .advertised g i => .present true :: .named 0 :: (gradesField g ++ [.serial i])
      | .notNegotiating .grade1 => [.present true, .named 1, .ident 1]
      | .notNegotiating .grade2 => [.present true, .named 1, .ident 2]) := by
    cases (s.spans.get p).partner with
    | notNegotiating pattern => cases pattern <;> rfl
    | _ => rfl
  have latch : [latchField (s.spans.get p).latch] = (match (s.spans.get p).latch with
      | some .negotiation => [.named 0]
      | some .parallel => [.named 1]
      | none => [.named 2]) := by
    cases (s.spans.get p).latch with
    | none => rfl
    | some l => cases l <;> rfl
  have test : testFields s p (s.spans.get p) = (match (s.spans.get p).state, (s.spans.get p).test with
      | .test, some t =>
        [.present true, .named t.pattern.ctorIdx, .named t.loop.ctorIdx, .quantity (t.duration - s.secondsSince t.since),
          .flag t.locked, .flag (loopConfirmed s p t), .count t.errors]
      | _, _ => [.present false]) := by
    rw [testFields, Span.running]
    cases (s.spans.get p).state <;> cases (s.spans.get p).test <;> rfl
  have result : resultFields (s.spans.get p).lastTest = (match (s.spans.get p).lastTest with
      | none => [.present false]
      | some t => [.present true, .named (if t.pass then 0 else 1), .count t.errors, .named t.pattern.ctorIdx,
          .named t.loop.ctorIdx, .quantity t.seconds, .named t.ending.ctorIdx]) := by
    cases (s.spans.get p).lastTest <;> rfl
  simp only [portFields, showSpan, state, settings, partner, latch, test, result, bufferFields, loopConfirmed_eq,
    writing_eq_decide, List.flatten_cons, List.flatten_nil, List.append_nil, List.append_assoc, List.cons_append,
    List.nil_append] <;> rfl

theorem portStatus_all (s : State) : portStatus 0 s = answered s
    (showSpan s ⟨.n, .a⟩ ++ showSpan s ⟨.n, .b⟩ ++ showSpan s ⟨.s, .a⟩ ++ showSpan s ⟨.s, .b⟩) := by
  rw [portStatus, if_pos rfl]
  simp [allSpans, portFields_eq]

theorem portStatus_one (p : SpanPort) (s : State) : portStatus (spanNumber p) s = answered s (showSpan s p) := by
  have named : spanNumber p ≠ 0 := by
    obtain ⟨r, side⟩ := p
    cases r <;> cases side <;> decide
  rw [portStatus, if_neg named, spanOf_spanNumber]
  exact congrArg (answered s) (portFields_eq s p)

theorem portStatus_badId {n : Nat} (h : 4 < n) (s : State) : portStatus n s = refuse s .badId := by
  have none : spanOf n = none := spanOf_eq_none.2 fun p => by
    obtain ⟨r, side⟩ := p
    cases r <;> cases side <;> simp [spanNumber] <;> omega
  rw [portStatus, if_neg (by omega), none]

/-! ### A ring (R61) -/

theorem ringFields_eq (s : State) (r : Ring) : ringFields s r = showRing s r (pathStatus r (s.rings.get r) .a)
    (pathStatus r (s.rings.get r) .b) := by
  have hops : (List.range (s.rings.get r).hops.length).flatMap (fun j => hopField ((s.rings.get r).hops.getD j none) ::
        hopSource r ((s.rings.get r).hops.length - 1) (j + 1)) =
      (List.range (s.rings.get r).hops.length).flatMap fun i => .named (hopNumber ((s.rings.get r).hops.getD i none)) ::
        (if i = 0 then [.named 0, .span ⟨r, .a⟩]
          else if i + 1 = (s.rings.get r).hops.length then [.named 0, .span ⟨r, .b⟩]
          else [.named 1, (match positionAt r i with
            | some p => .position p
            | none => .ident 0), match positionAt r (i + 1) with
            | some p => .position p
            | none => .ident 0]) := by
    refine List.flatMap_congr fun i hi => ?_
    have := List.mem_range.1 hi
    have first : i + 1 = 1 ↔ i = 0 := by omega
    have last : i + 1 = (s.rings.get r).hops.length - 1 + 1 ↔ i + 1 = (s.rings.get r).hops.length := by omega
    simp only [hopField, hopSource, first, last, Nat.add_sub_cancel] <;> rfl
  have fed : ((s.rings.get r).members .b).isEmpty = true ↔ fedFrom s r .b = [] := by
    rw [fedFrom_eq_members, List.isEmpty_iff]
  simp only [ringFields, showRing, hops, fed, restoreFields, List.flatten_cons, List.flatten_nil, List.append_nil,
    List.cons_append, List.nil_append]
  rfl

theorem ringStatus_all (s : State) : ringStatus 0 s = answered s (ringFields s .n ++ ringFields s .s) := if_pos rfl

theorem ringStatus_one (r : Ring) (s : State) : ringStatus (ringNumber r) s = answered s (ringFields s r) := by
  rw [ringStatus, if_neg (by cases r <;> decide), ringOf_eq_some.2 rfl]

theorem ringStatus_badId {n : Nat} (h : 2 < n) (s : State) : ringStatus n s = refuse s .badId := by
  have none : ringOf n = none := ringOf_eq_none.2 fun r => by cases r <;> simp [ringNumber] <;> omega
  rw [ringStatus, if_neg (by omega), none]

/-! ### The reference (R75) -/

theorem optField_map {α β : Type} (f : β → Field) (g : α → β) (o : Option α) :
    optField f (o.map g) = optField (fun x => f (g x)) o := by
  cases o <;> rfl

/-- A source as a named value. -/
def showSource (x : Source) : Field := .named (match x with | .refIn => 0 | .pilot => 1)

theorem showSource_eq (x : Source) : Field.named x.ctorIdx = showSource x := by
  cases x <;> rfl

/-- What REF STATUS shows (R75). -/
def showReference (s : State) : List Field :=
  let r := s.reference
  List.flatten [
    [.named r.state.ctorIdx],
    optField (fun t => .quantity (30 - s.secondsSince t)) r.warmupSince, optField showSource r.selected,
    optField showSource r.held, optField .wide r.lastOffset, [.count r.good, .count r.bad],
    optField (fun t => .wide (s.secondsSince t)) r.heldSince, [.flag r.forced],
    match r.switchSince with
      | none => [.named 0]
      | some t => [.named 1, .quantity (s.secondsSince t)],
    [.named (if r.refIn.present then 0 else 1), .named (if r.pilot.present then 0 else 1),
      .named (if s.gateOpen then 0 else 1), showSource s.work.reference.preferred,
      .quantity s.work.reference.limit, .flag (decide (.reference ∈ s.inFlight))],
    optField (fun t => .wide (s.work.reference.limit * 3600 - s.secondsSince t)) r.heldSince]

theorem refStatus_eq (s : State) : refStatus s = answered s (showReference s) := by
  simp only [refStatus, showReference, optField_map, showSource_eq, presenceField, gateField, State.preferred,
    writing_eq_decide]
  rfl

/-! ### A voter (R122) -/

theorem voterFields_eq (s : State) (ch : ChannelNo) : voterFields s ch = showVoter s ch := by
  have rings : ringsOf s.voters[ch].covers =
      (if s.voters[ch].covers.get .n then [Ring.n] else []) ++ (if s.voters[ch].covers.get .s then [Ring.s] else []) := by
    simp only [ringsOf, List.filter_cons, List.filter_nil]
    split <;> split <;> rfl
  have carrier : rescueCarrier s ch = (List.finRange 24).find? fun c =>
      s.work.catalogue[c].any fun x => x.kind = .rescue && x.channel = some ch := by
    refine congrArg (List.find? · _) (funext fun c => ?_)
    cases s.work.catalogue[c] <;> rfl
  simp only [voterFields, showVoter, rings, carrier, writing_eq_decide, hangFields, keyFields, List.flatten_cons,
    List.flatten_nil, List.append_nil, List.cons_append, List.nil_append]
  rfl

theorem rescueStatus_all (s : State) : rescueStatus 0 s = answered s ((List.finRange 4).flatMap (showVoter s)) := by
  rw [rescueStatus, if_pos rfl, funext (voterFields_eq s)]

theorem rescueStatus_one (ch : ChannelNo) (s : State) : rescueStatus (ch.val + 1) s = answered s (showVoter s ch) := by
  rw [rescueStatus, if_neg (by omega), channelOf_succ]
  exact congrArg (answered s) (voterFields_eq s ch)

theorem rescueStatus_badId {n : Nat} (h : 4 < n) (s : State) : rescueStatus n s = refuse s .badId := by
  rw [rescueStatus, if_neg (by omega), channelOf_eq_none.2 (.inr h)]

/-! ### The break-in queue (R142) -/

theorem breakInFields_eq (r : BreakIn) : breakInFields r = showBreakIn r := by
  have source : r.source.ctorIdx = r.source.number := by cases r.source <;> rfl
  simp only [breakInFields, showBreakIn, source]
  rfl

/-- What BREAKIN LIST shows (R142). -/
def showQueue (s : State) : List Field :=
  .entries s.breakin.queue.length :: s.breakin.queue.flatMap showBreakIn ++
    (List.finRange 8).flatMap (fun z => optField (fun r => .ident r.id) (s.breakin.queue.find? (z ∈ ·.zones)) ++
      [.flag s.breakin.carrying[z]]) ++
    (List.finRange 4).flatMap fun p => match s.breakin.queue.find? (·.player = some p) with
      | some r => [.present true, .ident r.id, .quantity ((s.now - r.pageSince) / 1000 : Nat)]
      | none => [.present false]

theorem breakinList_eq (s : State) : breakinList s = answered s (showQueue s) := by
  rw [breakinList, funext breakInFields_eq]
  simp only [showQueue, List.flatten_cons, List.flatten_nil, List.append_nil, List.cons_append, List.nil_append,
    List.append_assoc]
  rfl

/-! ### The clip directory (R129) -/

/-- What CLIP LIST shows of a clip (R129). -/
def showClip (s : State) (c : ClipNo) : List Field :=
  [.ident (c.val + 1), .named s.work.clips[c].state.ctorIdx] ++
  (if s.work.clips[c].state = .empty then []
    else [.count s.work.clips[c].first, .count s.work.clips[c].pages, .count s.work.clips[c].written]) ++
  [.flag (decide (∃ r ∈ s.breakin.queue, c ∈ r.clips)), .flag (decide (.clip c ∈ s.inFlight))]

theorem clipFields_eq (s : State) (c : ClipNo) : clipFields s c = showClip s c := by
  have named : clipNamed s c = decide (∃ r ∈ s.breakin.queue, c ∈ r.clips) := by
    rw [Bool.eq_iff_iff, clipNamed, List.any_eq_true, decide_eq_true_iff]
    simp only [decide_eq_true_iff]
  simp only [clipFields, showClip, named, writing_eq_decide, List.flatten_cons, List.flatten_nil, List.append_nil,
    List.cons_append, List.nil_append]
  rfl

theorem clipList_all (s : State) : clipList 0 s = answered s
    (.entries ((List.finRange 64).filter fun c : ClipNo => s.work.clips[c].state ≠ .empty).length ::
      ((List.finRange 64).filter fun c : ClipNo => s.work.clips[c].state ≠ .empty).flatMap (showClip s) ++ freeFields s) := by
  rw [clipList, if_pos rfl, funext (clipFields_eq s)]
  simp only [List.flatten_cons, List.flatten_nil, List.append_nil, List.cons_append, List.nil_append]

theorem clipList_one (c : ClipNo) (s : State) : clipList (c.val + 1) s = answered s (showClip s c ++ freeFields s) := by
  rw [clipList, if_neg (by omega), clipOf_succ]
  exact congrArg (fun fields => answered s (fields ++ freeFields s)) (clipFields_eq s c)

theorem clipList_badId {n : Nat} (h : 64 < n) (s : State) : clipList n s = refuse s .badId := by
  rw [clipList, if_neg (by omega), clipOf_eq_none.2 (.inr h)]

/-! ### The plans (R161) -/

/-- What PLAN READ shows of a plan (R161). -/
def showStanding (s : State) (p : PlanNo) : List Field := List.flatten [showPlan p s.work.plans[p],
  [.flag (decide (.plan p ∈ s.inFlight))],
  if s.plans.active = p then [.named 0]
    else if p ∈ s.plans.stack then [.named 1, .count (s.plans.stack.findIdx (· = p))] else [.named 2]]

theorem planRead_plan (p : PlanNo) (s : State) : planRead p.val s = answered s (showStanding s p) := by
  have hp := p.isLt
  rw [planRead, if_neg (by omega), if_neg (by omega), planOf_val]
  simp only [planFields_eq_showPlan, writing_eq_decide]
  rfl

/-- What PLAN READ shows of a trigger (R161). -/
def showTrigger (s : State) (i : TriggerNo) : List Field :=
  let e := s.work.triggers[i]
  [.flag e.present, .named e.minimum.rank, .ident e.plan.val, .named e.mode.ctorIdx,
    .flag (decide (.trigger i ∈ s.inFlight))]

theorem planRead_triggers (s : State) : planRead 16 s = answered s ((List.finRange 32).flatMap (showTrigger s)) := by
  have fields (i : TriggerNo) : triggerFields s i = showTrigger s i := by
    have minimum : s.work.triggers[i].minimum.ctorIdx = s.work.triggers[i].minimum.rank := by
      cases s.work.triggers[i].minimum <;> rfl
    simp only [triggerFields, showTrigger, minimum, writing_eq_decide]
    rfl
  rw [planRead, if_pos rfl, funext fields]

/-- What PLAN READ shows of a contact (R161). -/
def showContact (s : State) (c : ContactNo) : List Field :=
  let e := s.work.contacts[c]
  List.flatten [optField (fun t => .ident t.val) e.trigger, [.named e.release.ctorIdx, .named e.polarity.ctorIdx,
    .flag (decide (.contact c ∈ s.inFlight)), .named s.contacts[c].state.ctorIdx],
    optField (fun l : Level => .named l.ctorIdx) s.contacts[c].level]

theorem planRead_contacts (s : State) : planRead 17 s = answered s ((List.finRange 16).flatMap (showContact s)) := by
  have fields (c : ContactNo) : contactFields s c = showContact s c := by
    simp only [contactFields, showContact, writing_eq_decide]
    rfl
  rw [planRead, if_neg (by omega), if_pos rfl, funext fields]

theorem planRead_badId {n : Nat} (h : 17 < n) (s : State) : planRead n s = refuse s .badId := by
  rw [planRead, if_neg (by omega), if_neg (by omega), planOf_eq_none.2 (by omega)]

/-! ### The stack (R161) -/

/-- What STACK READ shows (R161). -/
def showStack (s : State) : List Field :=
  let x := s.plans
  List.flatten [
    [.ident x.active.val, .named x.activation.cause.ctorIdx],
    match x.activation.source with
      | none => [.present false]
      | some src => .present true :: sourceFields src,
    optField (fun t => .ident t.val) x.activation.trigger, [.wide (x.activation.time / 1000), .entries x.stack.length],
    x.stack.map (fun p => .ident p.val), [.flag (decide (s.watch = .expired))],
    (List.finRange 16).map fun c : ContactNo => .named s.contacts[c].state.ctorIdx]

theorem stackRead_eq (s : State) : stackRead s = answered s (showStack s) := by
  have lost : s.controlLost = decide (s.watch = .expired) := by
    rw [State.controlLost]
    cases s.watch <;> rfl
  simp only [stackRead, showStack, lost, listField, List.flatten_cons, List.flatten_nil, List.append_nil, List.cons_append,
    List.nil_append]
  cases s.plans.activation.source <;> rfl

end Sys2Proof.Machine
end

section
open Sys2Proof Sys2Proof.Machine

/-- Settles O53: each read answers what it shows of its record (`exec_read`); the free runs of the clip store are its free
pages in order. -/
theorem readRequestsAnswer : Obligations.ReadRequestsAnswer := by
  intro s port tag n w answers badId source
  refine ⟨fun h => ⟨?_, ?_, fun hn => ?_⟩, fun h => ?_, fun h => ?_, fun h => ⟨?_, ?_, fun hn => ?_⟩, fun h => ?_,
    fun h sound => ?_, fun h => ⟨?_, ?_, ?_, fun hn => ?_⟩, fun h => ?_⟩
  · rintro rfl
    exact exec_read rfl h rfl (by simp) (fun s => showSpan s ⟨.n, .a⟩ ++ showSpan s ⟨.n, .b⟩ ++ showSpan s ⟨.s, .a⟩ ++
      showSpan s ⟨.s, .b⟩) (fun _ _ _ => rfl) fun _ => portStatus_all
  · rintro p rfl
    exact exec_read rfl h rfl (by simp) (showSpan · p) (fun _ _ _ => rfl) fun _ => portStatus_one p
  · exact exec_ready rfl h rfl (by simp) (portStatus_badId hn w)
  · refine ⟨fun r => pathStatus r (s.rings.get r) .a, fun r => pathStatus r (s.rings.get r) .b,
      fun r => ⟨pathStatus_shows s r .a, pathStatus_shows s r .b⟩, ?_, ?_, fun hn => ?_⟩
    · rintro rfl
      show answers _ _ _
      rw [← ringFields_eq, ← ringFields_eq]
      exact exec_read rfl h rfl (by simp) (fun s => ringFields s .n ++ ringFields s .s) (fun _ _ _ => rfl)
        fun _ => ringStatus_all
    · rintro r rfl
      show answers _ _ _
      rw [← ringFields_eq]
      exact exec_read rfl h rfl (by simp) (ringFields · r) (fun _ _ _ => rfl) fun _ => ringStatus_one r
    · exact exec_ready rfl h rfl (by simp) (ringStatus_badId hn w)
  · exact exec_read rfl h rfl (by simp) showReference (fun _ _ _ => rfl) fun _ => refStatus_eq
  · rintro rfl
    exact exec_read rfl h rfl (by simp) (fun s => (List.finRange 4).flatMap (showVoter s)) (fun _ _ _ => rfl)
      fun _ => rescueStatus_all
  · rintro ch rfl
    exact exec_read rfl h rfl (by simp) (showVoter · ch) (fun _ _ _ => rfl) fun _ => rescueStatus_one ch
  · exact exec_ready rfl h rfl (by simp) (rescueStatus_badId hn w)
  · exact exec_read rfl h rfl (by simp) showQueue (fun _ _ _ => rfl) fun _ => breakinList_eq
  · intro free fits record
    obtain ⟨longest, most, first⟩ := longestRun_fits sound
    refine ⟨_, _, longest, most, first, ?_, ?_, fun hn => ?_⟩
    · rintro rfl
      have read := exec_read (i := .clipList port tag 0) rfl h rfl (by simp) (fun s =>
        .entries ((List.finRange 64).filter fun c : ClipNo => s.work.clips[c].state ≠ .empty).length ::
        ((List.finRange 64).filter fun c : ClipNo => s.work.clips[c].state ≠ .empty).flatMap (showClip s) ++ freeFields s)
        (fun _ _ _ => rfl) fun _ => clipList_all
      rw [freeFields, freeRuns_sum sound] at read
      exact read
    · rintro c rfl
      have read := exec_read (i := .clipList port tag (c.val + 1)) rfl h rfl (by simp) (fun s => showClip s c ++ freeFields s)
        (fun _ _ _ => rfl) fun _ => clipList_one c
      rw [freeFields, freeRuns_sum sound] at read
      exact read
    · exact exec_ready rfl h rfl (by simp) (clipList_badId hn w)
  · rintro p rfl
    exact exec_read rfl h rfl (by simp) (showStanding · p) (fun _ _ _ => rfl) fun _ => planRead_plan p
  · rintro rfl
    exact exec_read rfl h rfl (by simp) (fun s => (List.finRange 32).flatMap (showTrigger s)) (fun _ _ _ => rfl)
      fun _ => planRead_triggers
  · rintro rfl
    exact exec_read rfl h rfl (by simp) (fun s => (List.finRange 16).flatMap (showContact s)) (fun _ _ _ => rfl)
      fun _ => planRead_contacts
  · exact exec_ready rfl h rfl (by simp) (planRead_badId hn w)
  · refine (exec_ready rfl h rfl (by simp) (stackRead_eq w)).trans ?_
    simp only [showStack, w, watchFrame_plans, watchFrame_contacts]
    rfl
end

section
/-! SUPPORT. Votes: the highest quality, fresh choice and hysteresis (R111), and a voter at a tick's outputs (R110, R112, R119). -/

namespace Sys2Proof.Machine

open Sys2Proof

/-! ### The highest quality and fresh choice (R111) -/

theorem heard_iff {cands : List VoterCand} : heard cands = true ↔ ∃ c ∈ cands, 0 < c.value := by
  simp [heard]

theorem bestQuality_spec (cands : List VoterCand) : (∀ c ∈ cands, c.value ≤ bestQuality cands) ∧
    (0 < bestQuality cands → ∃ c ∈ cands, c.value = bestQuality cands) := by
  induction cands using List.reverseRecOn with
  | nil => simp [bestQuality]
  | append_singleton cs c ih =>
    obtain ⟨hle, hmem⟩ := ih
    have step : bestQuality (cs ++ [c]) = max (bestQuality cs) c.value := by
      simp only [bestQuality, List.foldl_append, List.foldl_cons, List.foldl_nil]
    rw [step]
    refine ⟨fun d hd => ?_, fun hpos => ?_⟩
    · rcases List.mem_append.1 hd with hd | hd
      · exact (hle d hd).trans (le_max_left _ _)
      · rw [List.mem_singleton.1 hd]
        exact le_max_right _ _
    · rcases Nat.le_total (bestQuality cs) c.value with h | h
      · exact ⟨c, by simp, (max_eq_right h).symm⟩
      · rw [max_eq_left h] at hpos ⊢
        obtain ⟨d, hd, he⟩ := hmem hpos
        exact ⟨d, List.mem_append_left _ hd, he⟩

/-- The candidates of the highest quality, above 0. -/
def bestOf (cands : List VoterCand) : List VoterCand :=
  cands.filter fun c => 0 < c.value && c.value = bestQuality cands

theorem mem_bestOf {cands : List VoterCand} {c : VoterCand} :
    c ∈ bestOf cands ↔ c ∈ cands ∧ 0 < c.value ∧ c.value = bestQuality cands := by
  simp [bestOf]

theorem bestOf_le {cands : List VoterCand} {c : VoterCand} (h : c ∈ bestOf cands) : ∀ d ∈ cands, d.value ≤ c.value := by
  rw [(mem_bestOf.1 h).2.2]
  exact (bestQuality_spec cands).1

/-- A candidate that is none of the best has less than these. -/
theorem lt_of_not_bestOf {cands : List VoterCand} {c d : VoterCand} (h : c ∈ bestOf cands) (hd : d ∈ cands)
    (hn : d ∉ bestOf cands) : d.value < c.value := by
  obtain ⟨-, hpos, -⟩ := mem_bestOf.1 h
  refine lt_of_le_of_ne (bestOf_le h d hd) fun he => hn (mem_bestOf.2 ⟨hd, by omega, ?_⟩)
  rw [he, (mem_bestOf.1 h).2.2]

theorem bestOf_nonempty {cands : List VoterCand} (h : heard cands = true) : ∃ c, c ∈ bestOf cands := by
  obtain ⟨d, hd, hpos⟩ := heard_iff.1 h
  obtain ⟨hle, hmem⟩ := bestQuality_spec cands
  have := hle d hd
  obtain ⟨c, hc, he⟩ := hmem (by omega)
  exact ⟨c, mem_bestOf.2 ⟨hc, by omega, he⟩⟩

/-- Fresh choice where some candidate is heard. -/
theorem freshChoice_spec {cands : List VoterCand} (h : heard cands = true) (kept : Option Position) :
    ∃ q, freshChoice cands kept = some q ∧ FreshChoice cands kept q := by
  have first (hkept : ∀ k, kept = some k → ∀ d ∈ bestOf cands, d.position ≠ k) :
      ∃ q, (bestOf cands).head?.map VoterCand.position = some q ∧ FreshChoice cands kept q := by
    obtain ⟨c, hc⟩ : ∃ c, (bestOf cands).head? = some c := by
      obtain ⟨d, hd⟩ := bestOf_nonempty h
      exact Option.ne_none_iff_exists'.1 fun hn => by simp [List.head?_eq_none_iff.1 hn] at hd
    have best := List.mem_of_head? hc
    have head := hc
    rw [bestOf, List.head?_filter, List.find?_eq_some_iff_append] at hc
    obtain ⟨-, before, after, hsplit, hbefore⟩ := hc
    refine ⟨c.position, by rw [head]; rfl, before, c, after, hsplit, rfl,
      (mem_bestOf.1 best).2.1, bestOf_le best, .inr ⟨fun d hd => ?_, fun k hk d hd hp => ?_⟩⟩
    · refine lt_of_not_bestOf best (hsplit ▸ List.mem_append_left _ hd) fun hb => ?_
      obtain ⟨-, hpos, he⟩ := mem_bestOf.1 hb
      have above : 0 < bestQuality cands := he ▸ hpos
      simpa [he, above] using hbefore d hd
    · exact lt_of_not_bestOf best hd fun hb => hkept k hk d hb hp
  unfold freshChoice
  cases kept with
  | none => exact first (by simp)
  | some p =>
    by_cases hp : ∃ c ∈ bestOf cands, c.position = p
    · obtain ⟨c, hc, rfl⟩ := hp
      have any : (bestOf cands).any (·.position = c.position) = true := List.any_eq_true.2 ⟨c, hc, by simp⟩
      obtain ⟨before, after, hsplit⟩ := List.append_of_mem (mem_bestOf.1 hc).1
      exact ⟨c.position, if_pos any, before, c, after, hsplit, rfl, (mem_bestOf.1 hc).2.1, bestOf_le hc, .inl rfl⟩
    · have any : ¬(bestOf cands).any (·.position = p) = true := fun h => hp (by simpa using h)
      obtain ⟨q, hq, hf⟩ := first fun k hk d hd hpk => hp ⟨d, hd, hpk.trans (Option.some.inj hk).symm⟩
      exact ⟨q, (if_neg any).trans hq, hf⟩

/-! ### Hysteresis (R111) -/

/-- The vote of a channel that goes on. -/
theorem voteOn_revotes {h : Nat} {v : VoterRec} (hh : heard v.cands = true) : Revote h v.cands v.source (voteOn h v) := by
  have fresh {cands : List VoterCand} (hc : ∃ d ∈ cands, 0 < d.value) :
      ∃ q, freshChoice cands none = some q ∧ FreshChoice cands none q := freshChoice_spec (heard_iff.2 hc) none
  rw [voteOn, if_pos hh]
  cases hs : v.source with
  | none =>
    obtain ⟨q, hq, hf⟩ := fresh (heard_iff.1 hh)
    exact ⟨q, hq, fun _ => hf, nofun⟩
  | some p =>
    suffices hq : ∃ q, hysteresisStep h v.cands p = some q ∧
        ((∃ d ∈ v.cands, d.position ≠ p ∧ 0 < d.value ∧ (qualityOf v.cands p = 0 ∨ qualityOf v.cands p + h ≤ d.value)) →
          FreshChoice (v.cands.filter (·.position ≠ p)) none q) ∧
        ((∀ d ∈ v.cands, ¬(d.position ≠ p ∧ 0 < d.value ∧
          (qualityOf v.cands p = 0 ∨ qualityOf v.cands p + h ≤ d.value))) → q = p) by
      obtain ⟨q, hq, hbetter, hstays⟩ := hq
      refine ⟨q, hq, nofun, fun p' hp' => ?_⟩
      obtain rfl := Option.some.inj hp'
      exact ⟨hbetter, hstays⟩
    have others (d : VoterCand) : d ∈ v.cands.filter (·.position ≠ p) ↔ d ∈ v.cands ∧ d.position ≠ p := by simp
    have chosen (hb : ∃ d ∈ v.cands.filter (·.position ≠ p), 0 < d.value ∧
          (qualityOf v.cands p = 0 ∨ qualityOf v.cands p + h ≤ d.value)) :
        ∃ q, freshChoice (v.cands.filter (·.position ≠ p)) none = some q ∧
          ((∃ d ∈ v.cands, d.position ≠ p ∧ 0 < d.value ∧ (qualityOf v.cands p = 0 ∨ qualityOf v.cands p + h ≤ d.value)) →
            FreshChoice (v.cands.filter (·.position ≠ p)) none q) ∧
          ((∀ d ∈ v.cands, ¬(d.position ≠ p ∧ 0 < d.value ∧
            (qualityOf v.cands p = 0 ∨ qualityOf v.cands p + h ≤ d.value))) → q = p) := by
      obtain ⟨d, hd, hpos, hb⟩ := hb
      obtain ⟨q, hq, hf⟩ := fresh ⟨d, hd, hpos⟩
      exact ⟨q, hq, fun _ => hf, fun hno => absurd ⟨((others d).1 hd).2, hpos, hb⟩ (hno d ((others d).1 hd).1)⟩
    have stays (hn : ∀ d ∈ v.cands.filter (·.position ≠ p),
          ¬(0 < d.value ∧ (qualityOf v.cands p = 0 ∨ qualityOf v.cands p + h ≤ d.value))) :
        ∃ q, some p = some q ∧
          ((∃ d ∈ v.cands, d.position ≠ p ∧ 0 < d.value ∧ (qualityOf v.cands p = 0 ∨ qualityOf v.cands p + h ≤ d.value)) →
            FreshChoice (v.cands.filter (·.position ≠ p)) none q) ∧
          ((∀ d ∈ v.cands, ¬(d.position ≠ p ∧ 0 < d.value ∧
            (qualityOf v.cands p = 0 ∨ qualityOf v.cands p + h ≤ d.value))) → q = p) :=
      ⟨p, rfl, fun ⟨d, hd, hne, hb⟩ => absurd hb (hn d ((others d).2 ⟨hd, hne⟩)), fun _ => rfl⟩
    simp only [hysteresisStep]
    split
    next hz =>
      split
      next ho =>
        obtain ⟨d, hd, hpos⟩ := heard_iff.1 ho
        exact chosen ⟨d, hd, hpos, .inl hz⟩
      next ho => exact stays fun d hd hb => ho (heard_iff.2 ⟨d, hd, hb.1⟩)
    next hz =>
      split
      next ho =>
        obtain ⟨d, hd, hle⟩ := List.any_eq_true.1 ho
        have hle := of_decide_eq_true hle
        exact chosen ⟨d, hd, by omega, .inr hle⟩
      next ho => exact stays fun d hd hb => ho (List.any_eq_true.2 ⟨d, hd, decide_eq_true (hb.2.resolve_left hz)⟩)

end Sys2Proof.Machine
end

section
/-! SUPPORT. The tick of the block schedule: the buffers, what the ports output, and each voter at its block event. -/

namespace Sys2Proof.Machine

open Sys2Proof

/-! ### The ports at a tick (R34, R35) -/

/-- What a port outputs at a tick (R34). -/
def Span.output (x : Span) : Output :=
  if x.isUp then
    match x.validBlock with
    | some block => .valid block
    | none => .invalid
  else .nothing

theorem Span.output_eq_valid {x : Span} {block : UplinkBlock} : x.output = .valid block ↔ x.validBlock = some block := by
  unfold Span.output
  split
  next h => cases x.validBlock <;> simp
  next h => simp [Span.validBlock, h]

/-- The records of a tick at a port (R37). -/
def tickNotes (s : State) (p : SpanPort) : List Note :=
  if (s.spans.get p).underruns then (s.spans.get p).buffer.burstNotes p s.now else []

theorem setSpan_get (s : State) (p : SpanPort) : s.setSpan p (s.spans.get p) = s := by
  obtain ⟨r, d⟩ := p
  cases r <;> cases d <;> rfl

theorem portTick_eq (p : SpanPort) (s : State) : portTick p s =
    ((s.setSpan p ((s.spans.get p).ticked s.now)).postAll (tickNotes s p), (s.spans.get p).output) := by
  have quiet {x : Span} (h : x.underruns = false) (hx : x.isUp = false ∨ x.buffer.running = false) (now : Nat) :
      x.ticked now = x := by
    rcases hx with hx | hx <;> simp [Span.ticked, h, hx]
  unfold portTick tickNotes
  cases hu : (s.spans.get p).isUp with
  | false =>
    have under : (s.spans.get p).underruns = false := by simp [Span.underruns, hu]
    simp [Span.output, hu, under, quiet under (.inl hu), setSpan_get]
  | true =>
    cases hr : (s.spans.get p).buffer.running with
    | false =>
      have under : (s.spans.get p).underruns = false := by simp [Span.underruns, hr]
      simp [Span.output, Span.validBlock, hu, hr, under, quiet under (.inr hr), setSpan_get]
    | true =>
      cases hb : (s.spans.get p).buffer.blocks with
      | nil =>
        have under : (s.spans.get p).underruns = true := by simp [Span.underruns, hu, hr, hb]
        simp [Span.output, Span.validBlock, hu, hr, hb, under, Span.ticked, slipAt_eq]
        rfl
      | cons block rest =>
        have under : (s.spans.get p).underruns = false := by simp [Span.underruns, hb]
        cases hm : (s.spans.get p).buffer.mark <;>
          simp [Span.output, Span.validBlock, hu, hr, hb, hm, under, Span.ticked]

section
variable (s : State)

/-- The state after a tick at one port. -/
def tickPort (p : SpanPort) : State := (s.setSpan p ((s.spans.get p).ticked s.now)).postAll (tickNotes s p)

theorem tickPort_sameBut (p : SpanPort) : SameBut [.spans, .events] s (tickPort s p) :=
  ((setSpan_sameBut s p _).mono (by simp)).trans ((postAll_sameBut _ _).mono (by simp))

theorem tickPort_spans (p q : SpanPort) :
    (tickPort s p).spans.get q = if q = p then (s.spans.get p).ticked s.now else s.spans.get q := by
  rw [tickPort, State.postAll_spans]
  simp

theorem tickPort_queues (p : SpanPort) : QueuesAgree (s.postAll (tickNotes s p)) (tickPort s p) :=
  postAll_congr _ ⟨rfl, rfl, fun _ => ⟨rfl, rfl⟩⟩

theorem tickNotes_tickPort {p q : SpanPort} (h : q ≠ p) : tickNotes (tickPort s p) q = tickNotes s q := by
  rw [tickNotes, tickPort_spans, if_neg h, tickPort_sameBut s p .clock (by simp), tickNotes]

/-- The state after a tick at all ports, before the voters. -/
def tickPorts : State := tickPort (tickPort (tickPort (tickPort s ⟨.n, .a⟩) ⟨.n, .b⟩) ⟨.s, .a⟩) ⟨.s, .b⟩

/-- What the ports output at a tick. -/
def tickOutputs : PerSpan Output := ⟨(s.spans.get ⟨.n, .a⟩).output, (s.spans.get ⟨.n, .b⟩).output,
  (s.spans.get ⟨.s, .a⟩).output, (s.spans.get ⟨.s, .b⟩).output⟩

theorem tickOutputs_get (p : SpanPort) : (tickOutputs s).get p = (s.spans.get p).output := by
  obtain ⟨r, d⟩ := p
  cases r <;> cases d <;> rfl

theorem blockTicked_eq : blockTicked s = (tickPorts s, (List.finRange 4).map (.block · (tickOutputs s))) := by
  have step (p : SpanPort) (u : State) : portTick p u = (tickPort u p, (u.spans.get p).output) := portTick_eq p u
  simp only [blockTicked, step, tickPorts, tickOutputs, tickPort_spans]
  simp

theorem tickPorts_sameBut : SameBut [.spans, .events] s (tickPorts s) :=
  ((((tickPort_sameBut _ _).trans (tickPort_sameBut _ _)).trans (tickPort_sameBut _ _)).trans (tickPort_sameBut _ _))

theorem tickPort_now (p : SpanPort) : (tickPort s p).now = s.now := tickPort_sameBut s p .clock (by simp)

theorem tickPorts_spans (p : SpanPort) : (tickPorts s).spans.get p = (s.spans.get p).ticked s.now := by
  simp only [tickPorts, tickPort_spans, tickPort_now]
  obtain ⟨r, d⟩ := p
  cases r <;> cases d <;> simp

theorem tickPorts_queues : QueuesAgree (s.postAll (allSpans.flatMap (tickNotes s))) (tickPorts s) := by
  have next {u v : State} {es : List Note} (p : SpanPort) (h : QueuesAgree (u.postAll es) v) :
      QueuesAgree (u.postAll (es ++ tickNotes v p)) (tickPort v p) := by
    rw [postAll_append]
    exact (postAll_congr _ h).trans (tickPort_queues v p)
  have all := next ⟨.s, .b⟩ (next ⟨.s, .a⟩ (next ⟨.n, .b⟩ (tickPort_queues s ⟨.n, .a⟩)))
  have notes : tickNotes s ⟨.n, .a⟩ ++ tickNotes (tickPort s ⟨.n, .a⟩) ⟨.n, .b⟩ ++
      tickNotes (tickPort (tickPort s ⟨.n, .a⟩) ⟨.n, .b⟩) ⟨.s, .a⟩ ++
      tickNotes (tickPort (tickPort (tickPort s ⟨.n, .a⟩) ⟨.n, .b⟩) ⟨.s, .a⟩) ⟨.s, .b⟩ =
      allSpans.flatMap (tickNotes s) := by
    rw [tickNotes_tickPort _ (by simp), tickNotes_tickPort _ (by simp), tickNotes_tickPort _ (by simp),
      tickNotes_tickPort _ (by simp), tickNotes_tickPort _ (by simp), tickNotes_tickPort _ (by simp)]
    simp [allSpans]
  rw [notes] at all
  exact all

end

end Sys2Proof.Machine
end

section
/-! SUPPORT. Each voter at its block event, and the tick's hand-overs taken in whatever order (R110, R112, R119, R120). -/

namespace Sys2Proof.Machine

open Sys2Proof

/-! ### A vote, by the voter's state (R112, R119) -/

section
variable (s : State) (ch : ChannelNo) (v : VoterRec)

theorem vote_keeps : (vote s ch v).cands = v.cands ∧ (vote s ch v).consoleKey = v.consoleKey ∧
    (vote s ch v).baseKey = v.baseKey ∧ (vote s ch v).covers = v.covers := by
  unfold vote
  split
  case h_1 => split <;> exact ⟨rfl, rfl, rfl, rfl⟩
  case h_2 => split <;> exact ⟨rfl, rfl, rfl, rfl⟩
  case h_3 => split <;> exact ⟨rfl, rfl, rfl, rfl⟩
  all_goals exact ⟨rfl, rfl, rfl, rfl⟩

/-- Where no candidate is heard, a voter that repeats hangs, and any other stands (R112). -/
theorem vote_silent (h : heard v.cands = false) : (vote s ch v).source = v.source ∧
    (v.state = .repeating → (vote s ch v).state = .hang ∧ (vote s ch v).hang = some (s.now, s.work.voters[ch].hang)) ∧
    (v.state ≠ .repeating → (vote s ch v).state = v.state ∧ (vote s ch v).hang = v.hang) := by
  cases hs : v.state <;> simp [vote, voteOn, newHang, h, hs]

/-- Where a candidate is heard, an idle voter and one in HANG choose afresh, and any other votes again (R111, R112, R119). -/
theorem vote_heard (h : heard v.cands = true) :
    (v.state = .idle → (vote s ch v).state = .repeating ∧
      ∃ q, (vote s ch v).source = some q ∧ FreshChoice v.cands none q) ∧
    (v.state = .hang → (vote s ch v).state = .repeating ∧ (vote s ch v).hang = none ∧
      ∃ q, (vote s ch v).source = some q ∧ FreshChoice v.cands v.source q) ∧
    (v.state ≠ .idle → v.state ≠ .hang → (vote s ch v).state = v.state ∧ (vote s ch v).hang = v.hang ∧
      Revote s.work.voters[ch].hysteresis v.cands v.source (vote s ch v).source) := by
  have fresh (kept : Option Position) := freshChoice_spec h kept
  have again := voteOn_revotes (h := s.work.voters[ch].hysteresis) h
  cases hs : v.state with
  | idle =>
    have voted : vote s ch v = { v with state := .repeating, source := freshChoice v.cands none } := by simp [vote, hs, h]
    rw [voted]
    exact ⟨fun _ => ⟨rfl, fresh none⟩, nofun, fun hn => absurd rfl hn⟩
  | hang =>
    have voted : vote s ch v =
        { v with state := .repeating, hang := none, source := freshChoice v.cands v.source } := by simp [vote, hs, h]
    rw [voted]
    exact ⟨nofun, fun _ => ⟨rfl, rfl, fresh v.source⟩, fun _ hn => absurd rfl hn⟩
  | repeating =>
    have voted : vote s ch v = { v with source := voteOn s.work.voters[ch].hysteresis v } := by simp [vote, hs, h]
    rw [voted]
    exact ⟨nofun, nofun, fun _ _ => ⟨hs, rfl, again⟩⟩
  | console =>
    have voted : vote s ch v = { v with source := voteOn s.work.voters[ch].hysteresis v } := by simp [vote, hs]
    rw [voted]
    exact ⟨nofun, nofun, fun _ _ => ⟨hs, rfl, again⟩⟩
  | base =>
    have voted : vote s ch v = { v with source := voteOn s.work.voters[ch].hysteresis v } := by simp [vote, hs]
    rw [voted]
    exact ⟨nofun, nofun, fun _ _ => ⟨hs, rfl, again⟩⟩

end

/-! ### The block event (R110) -/

section
variable (s : State) (outs : PerSpan Output) (ch : ChannelNo)

/-- A voter with its candidates' qualities at a tick. -/
def hearing : VoterRec := { s.voters[ch] with cands := blockQualities s outs ch s.voters[ch].cands }

/-- A voter after its block event. -/
def votedRec : VoterRec :=
  { vote s ch (hearing s outs ch) with forwarded := forwardedAudio s outs ch (vote s ch (hearing s outs ch)) }

theorem voterBlock_eq : voterBlock ch outs s = setVoterState ch (votedRec s outs ch) .uplink s := rfl

variable {s outs ch} {b : State}

theorem vote_congr (hn : s.now = b.now) (hw : s.work = b.work) (v : VoterRec) : vote s ch v = vote b ch v := by
  simp only [vote, newHang, hn, hw]

theorem blockUplink_congr (hr : s.rings = b.rings) : blockUplink s outs ch = blockUplink b outs ch := by
  funext p
  simp only [blockUplink, State.unitState, hr]

theorem votedRec_congr (hn : s.now = b.now) (hw : s.work = b.work) (hr : s.rings = b.rings)
    (hv : s.voters[ch] = b.voters[ch]) : votedRec s outs ch = votedRec b outs ch := by
  simp only [votedRec, hearing, blockQualities, forwardedAudio, blockUplink_congr hr, vote_congr hn hw, hv]

/-- At what the ports output, the block of a unit is its port's valid block (R110). -/
theorem blockUplink_tickOutputs (p : Position) (hr : b.rings = s.rings) :
    blockUplink b (tickOutputs s) ch p = uplinkOf s ch p := by
  have unit : b.unitState p = s.unitState p := by rw [State.unitState, State.unitState, hr]
  rw [blockUplink, uplinkOf, unit]
  cases (s.unitState p).side with
  | none => rfl
  | some side =>
    rw [Option.bind_some]
    cases hb : (s.spans.get ⟨p.ring, side⟩).validBlock with
    | some block => simp only [tickOutputs_get, Span.output_eq_valid.2 hb, Option.map_some]
    | none =>
      simp only [tickOutputs_get, Option.map_none]
      split
      next block ho => rw [Span.output_eq_valid.1 ho] at hb; cases hb
      next => rfl

theorem setVoterState_voters (d : ChannelNo) (new : VoterRec) (cause : TalkCause) :
    (setVoterState d new cause s).1.voters[ch] = if ch = d then new else s.voters[ch] := by
  have set : (s.setVoter d new).voters[ch] = if ch = d then new else s.voters[ch] := by
    rw [State.setVoter_voters, vector_get_set]
  simp only [setVoterState]
  split
  · exact set
  · split <;> exact set

theorem setVoterState_rescues (d : ChannelNo) (new : VoterRec) (cause : TalkCause) :
    ∀ h ∈ (setVoterState d new cause s).2, ∃ p, h = .alloc p (.rescue d) := by
  intro h hm
  simp only [setVoterState] at hm
  split at hm
  · exact mem_allocEverywhere.1 hm
  · split at hm
    · exact mem_allocEverywhere.1 hm
    · cases hm

end

/-- RESCUE_ACTIVE of a voter's block event (R120). -/
def activeNote (s : State) (ch : ChannelNo) (new : VoterRec) : Note :=
  ⟨.rescueActive, .notice, voterSubject s ch, [.channel ch, .named 0] ++ (match new.source with
    | some p => [.position p]
    | none => [])⟩

/-- A voter that becomes active at its block event posts RESCUE_ACTIVE and tells every allocation record (R120). -/
theorem voterBlock_wakes {s : State} {outs : PerSpan Output} {ch : ChannelNo} (hi : s.voters[ch].state = .idle)
    (ha : (votedRec s outs ch).state ≠ .idle) : voterBlock ch outs s =
      ((s.setVoter ch (votedRec s outs ch)).post (activeNote s ch (votedRec s outs ch)), allocEverywhere (.rescue ch)) := by
  rw [voterBlock_eq]
  unfold setVoterState
  refine (if_pos ⟨hi, ha⟩).trans ?_
  unfold activeNote
  cases (votedRec s outs ch).source <;> rfl

/-! ### The hand-overs of a tick -/

/-- A voter has taken its block event; where that woke it, RESCUE_ACTIVE is told, and every allocation record knows or is yet
to be told. -/
structure BlockTaken (b : State) (outs : PerSpan Output) (ch : ChannelNo) (s : State) (hs : List HandOver) : Prop where
  voter : s.voters[ch] = votedRec b outs ch
  wakes : b.voters[ch].state = .idle → (votedRec b outs ch).state ≠ .idle →
    Told [activeNote b ch (votedRec b outs ch)] b s ∧
      ∀ p, (posGet s.alloc p).rescue[ch] = true ∨ .alloc p (.rescue ch) ∈ hs

/-- What holds of one voter while a tick's hand-overs are taken. -/
structure TickRuns (b : State) (outs : PerSpan Output) (ch : ChannelNo) (s : State) (hs : List HandOver) : Prop where
  same : SameBut [.voters, .alloc, .events, .choices] b s
  logs : Logs b s
  hands : ∀ h ∈ hs, (∃ d, h = .block d outs) ∨ ∃ p d, h = .alloc p (.rescue d)
  block : Once (.block ch outs) hs (s.voters[ch] = b.voters[ch]) (BlockTaken b outs ch s hs)

section
variable {b s : State} {outs : PerSpan Output} {ch : ChannelNo} {h : HandOver} {hs : List HandOver}

theorem TickRuns.perm {ks : List HandOver} (hp : hs.Perm ks) (run : TickRuns b outs ch s hs) : TickRuns b outs ch s ks :=
  ⟨run.same, run.logs, fun h hk => run.hands h (hp.mem_iff.2 hk), run.block.perm hp id fun ⟨voter, wakes⟩ =>
    ⟨voter, fun hi ha => (wakes hi ha).imp_right fun rescue p => (rescue p).imp_right hp.mem_iff.1⟩⟩

theorem TickRuns.choices (cs : List Nat) (run : TickRuns b outs ch s hs) : TickRuns b outs ch { s with choices := cs } hs :=
  ⟨run.same.trans ((setChoices_sameBut s cs).mono (by simp)),
    run.logs.trans (Logs.of_sameBut (setChoices_sameBut s cs) (by simp) (by simp) (by simp)), run.hands,
    run.block.imp id fun ⟨hc, voter, wakes⟩ => ⟨hc, voter, fun hi ha => (wakes hi ha).imp_left fun told =>
      told.logs (Logs.of_sameBut (setChoices_sameBut s cs) (by simp) (by simp) (by simp))⟩⟩

/-- Another voter's block event leaves a voter as it was. -/
theorem BlockTaken.passed {d : ChannelNo} (hd : ch ≠ d) {ks : List HandOver}
    (taken : BlockTaken b outs ch s (.block d outs :: hs)) :
    BlockTaken b outs ch (handle (.block d outs) s).1 (ks ++ hs) := by
  obtain ⟨voter, wakes⟩ := taken
  refine ⟨((setVoterState_voters d _ _).trans (if_neg hd)).trans voter, fun hi ha => ?_⟩
  obtain ⟨told, rescue⟩ := wakes hi ha
  refine ⟨told.logs (handle_logs _ s), fun p => ?_⟩
  rw [handle_sameBut (.block d outs) s .alloc (by simp [HandOver.parts])]
  exact (rescue p).imp_right fun hm => List.mem_append_right _ ((List.mem_cons.1 hm).resolve_left (by simp))

/-- A rescue event tells an allocation record the voter's activity. -/
theorem BlockTaken.told {p : Position} {d : ChannelNo} (taken : BlockTaken b outs ch s (.alloc p (.rescue d) :: hs)) :
    BlockTaken b outs ch (handle (.alloc p (.rescue d)) s).1 hs := by
  have voters := handle_sameBut (.alloc p (.rescue d)) s .voters (by simp [HandOver.parts])
  obtain ⟨voter, wakes⟩ := taken
  refine ⟨by rw [voters, voter], fun hi ha => ?_⟩
  obtain ⟨told, rescue⟩ := wakes hi ha
  refine ⟨told.logs (handle_logs _ s), fun q => ?_⟩
  rw [handle, allocEvent_alloc]
  by_cases hq : q = p
  · subst hq
    rw [if_pos rfl, allocAfter_rescue]
    by_cases hd : AllocEvent.rescue d = .rescue ch
    · left
      rw [if_pos hd, voter]
      simpa using ha
    · rw [if_neg hd]
      exact (rescue q).imp_right fun hm => (List.mem_cons.1 hm).resolve_left fun he => hd (HandOver.alloc.inj he).2.symm
  · rw [if_neg hq]
    exact (rescue q).imp_right fun hm => (List.mem_cons.1 hm).resolve_left fun he => hq (HandOver.alloc.inj he).1

/-- A voter takes its block event. -/
theorem BlockTaken.taken (same : SameBut [.voters, .alloc, .events, .choices] b s) (logs : Logs b s)
    (hv : s.voters[ch] = b.voters[ch]) :
    BlockTaken b outs ch (handle (.block ch outs) s).1 ((handle (.block ch outs) s).2 ++ hs) := by
  have work : s.work = b.work := same .work (by simp)
  have record : votedRec s outs ch = votedRec b outs ch :=
    votedRec_congr (same .clock (by simp)) work (same .rings (by simp)) hv
  have subject : voterSubject s ch = voterSubject b ch := by simp only [voterSubject, rescueCarrier, work]
  refine ⟨((setVoterState_voters ch _ _).trans (if_pos rfl)).trans record, fun hi ha => ?_⟩
  have woke := voterBlock_wakes (hi := hv ▸ hi) (ha := record ▸ ha)
  have note : activeNote s ch (votedRec s outs ch) = activeNote b ch (votedRec b outs ch) := by
    rw [activeNote, activeNote, subject, record]
  rw [note] at woke
  simp only [handle, woke]
  refine ⟨?_, fun p => .inr (List.mem_append_left _ (mem_allocEverywhere.2 ⟨p, rfl⟩))⟩
  have set : Logs b (s.setVoter ch (votedRec s outs ch)) := logs.trans (setVoter_logs s ch _)
  exact (Told.nil set).posted (more := [activeNote b ch (votedRec b outs ch)]) ⟨rfl, rfl, fun _ => ⟨rfl, rfl⟩⟩

theorem TickRuns.step (run : TickRuns b outs ch s (h :: hs)) :
    TickRuns b outs ch (handle h s).1 ((handle h s).2 ++ hs) := by
  obtain ⟨same, logs, hands, block⟩ := run
  have rest := fun k hk => hands k (List.mem_cons_of_mem h hk)
  have parts : SameBut [.voters, .alloc, .events, .choices] s (handle h s).1 := by
    rcases hands h (List.mem_cons_self ..) with ⟨d, rfl⟩ | ⟨p, d, rfl⟩ <;>
      exact (handle_sameBut _ s).mono (by simp [HandOver.parts])
  refine ⟨same.trans parts, logs.trans (handle_logs h s), fun k hk => ?_, ?_⟩
  · rcases List.mem_append.1 hk with hk | hk
    · rcases hands h (List.mem_cons_self ..) with ⟨d, rfl⟩ | ⟨p, d, rfl⟩
      · exact .inr ((setVoterState_rescues d _ _ k hk).imp fun p hp => ⟨d, hp⟩)
      · cases hk
    · exact rest k hk
  · rcases hands h (List.mem_cons_self ..) with ⟨d, rfl⟩ | ⟨p, d, rfl⟩
    · have fresh : HandOver.block ch outs ∉ (handle (.block d outs) s).2 := fun hm => by
        obtain ⟨p, hp⟩ := setVoterState_rescues d _ _ _ hm
        cases hp
      by_cases hd : ch = d
      · subst hd
        exact block.taken fresh fun hv => .taken same logs hv
      · refine block.passed (fun he => hd (HandOver.block.inj he).1.symm) fresh (fun hv => ?_) fun taken => taken.passed hd
        exact ((setVoterState_voters d _ _).trans (if_neg hd)).trans hv
    · refine block.passed (by simp) (by simp [handle]) (fun hv => ?_) fun taken => taken.told
      rw [handle_sameBut (.alloc p (.rescue d)) s .voters (by simp [HandOver.parts]), hv]

end

/-- A tick's hand-overs taken: each voter has taken its block event once. -/
theorem tick_settled (b : State) (outs : PerSpan Output) (ch : ChannelNo) :
    TickRuns b outs ch (settled (b, (List.finRange 4).map (.block · outs))) [] := by
  refine settled_invariant (I := TickRuns b outs ch) (fun _ _ _ hp run => run.perm hp) (fun _ cs _ run => run.choices cs)
    (fun s h hs run => ?_) (fun _ _ _ run => run.step) ⟨SameBut.refl _ b, Logs.refl b, ?_, .inl ⟨?_, rfl⟩⟩ ?_
  · rcases run.hands h (List.mem_cons_self ..) with ⟨d, rfl⟩ | ⟨p, d, rfl⟩ <;> nofun
  · intro h hm
    obtain ⟨d, -, rfl⟩ := List.mem_map.1 hm
    exact .inl ⟨d, rfl⟩
  · refine List.count_eq_one_of_mem ?_ (List.mem_map_of_mem (List.mem_finRange ch))
    exact (List.nodup_finRange 4).map fun c d he => (HandOver.block.inj he).1
  · simp [List.finRange, HandOver.weight, settleFuel]

end Sys2Proof.Machine
end

section
/-! SUPPORT. A voter after a tick, told of the state before it (R110 to R112, R115, R119, R120). -/

namespace Sys2Proof.Machine

open Sys2Proof

section
variable (s : State) (ch : ChannelNo)

/-- A voter after a tick. -/
def tickedVoter : VoterRec := votedRec (tickPorts s) (tickOutputs s) ch

theorem tickPorts_work : (tickPorts s).work = s.work := tickPorts_sameBut s .work (by simp)
theorem tickPorts_now : (tickPorts s).now = s.now := tickPorts_sameBut s .clock (by simp)
theorem tickPorts_voters : (tickPorts s).voters = s.voters := tickPorts_sameBut s .voters (by simp)
theorem tickPorts_rings : (tickPorts s).rings = s.rings := tickPorts_sameBut s .rings (by simp)

/-- The voter with its candidates' qualities at the tick. -/
def tickHearing : VoterRec := { s.voters[ch] with
  cands := s.voters[ch].cands.map fun c => ⟨c.position, some (((uplinkOf s ch c.position).map (·.quality.val)).getD 0)⟩ }

theorem hearing_tick : hearing (tickPorts s) (tickOutputs s) ch = tickHearing s ch := by
  have quality (c : VoterCand) : (⟨c.position, some (match blockUplink (tickPorts s) (tickOutputs s) ch c.position with
      | some u => u.quality.val
      | none => 0)⟩ : VoterCand) = ⟨c.position, some (((uplinkOf s ch c.position).map (·.quality.val)).getD 0)⟩ := by
    rw [blockUplink_tickOutputs _ (tickPorts_rings s)]
    cases uplinkOf s ch c.position <;> rfl
  rw [hearing, tickPorts_voters, tickHearing, blockQualities]
  exact congrArg (fun cs => { s.voters[ch] with cands := cs }) (List.map_congr_left fun c _ => quality c)

/-- The vote at the tick, before its audio is forwarded. -/
def tickVote : VoterRec := vote s ch (tickHearing s ch)

theorem tickedVoter_eq : tickedVoter s ch = { tickVote s ch with
    forwarded := (tickVote s ch).source.bind fun p =>
      (uplinkOf s ch p).bind fun u => if u.quality = 0 then none else some u.audio } := by
  have voted : vote (tickPorts s) ch (hearing (tickPorts s) (tickOutputs s) ch) = tickVote s ch := by
    rw [hearing_tick, vote_congr (tickPorts_now s) (tickPorts_work s), tickVote]
  have uplink : forwardedAudio (tickPorts s) (tickOutputs s) ch (tickVote s ch) = (tickVote s ch).source.bind fun p =>
      (uplinkOf s ch p).bind fun u => if u.quality = 0 then none else some u.audio := by
    rw [forwardedAudio]
    refine congrArg _ (funext fun p => ?_)
    rw [blockUplink_tickOutputs _ (tickPorts_rings s)]
    refine congrArg _ (funext fun u => if_congr ?_ rfl rfl)
    exact (Fin.ext_iff (b := 0)).symm
  rw [tickedVoter, votedRec, voted, uplink]

theorem tickedVoter_vote : (tickedVoter s ch).source = (tickVote s ch).source ∧
    (tickedVoter s ch).state = (tickVote s ch).state ∧ (tickedVoter s ch).hang = (tickVote s ch).hang := by
  rw [tickedVoter_eq]
  exact ⟨rfl, rfl, rfl⟩

theorem tickedVoter_keeps : (tickedVoter s ch).cands = (tickHearing s ch).cands ∧
    (tickedVoter s ch).consoleKey = s.voters[ch].consoleKey ∧ (tickedVoter s ch).baseKey = s.voters[ch].baseKey ∧
    (tickedVoter s ch).covers = s.voters[ch].covers := by
  rw [tickedVoter_eq]
  exact vote_keeps s ch (tickHearing s ch)

theorem heard_tickHearing : heard (tickHearing s ch).cands = true ↔ ∃ c ∈ (tickedVoter s ch).cands, 0 < c.value := by
  rw [(tickedVoter_keeps s ch).1, heard_iff]

theorem tickedVoter_forwarded : (tickedVoter s ch).forwarded = (tickedVoter s ch).source.bind fun p =>
    (uplinkOf s ch p).bind fun u => if u.quality = 0 then none else some u.audio := by
  rw [tickedVoter_eq]

/-- The state after a tick. -/
def tickState : State := settled (blockTicked s)

theorem tickState_runs : TickRuns (tickPorts s) (tickOutputs s) ch (tickState s) [] := by
  rw [tickState, blockTicked_eq]
  exact tick_settled _ _ _

theorem tickState_voter : (tickState s).voters[ch] = tickedVoter s ch :=
  (tickState_runs s ch).block.over.voter

theorem tickState_sameBut : SameBut [.spans, .voters, .alloc, .events, .choices] s (tickState s) :=
  ((tickPorts_sameBut s).mono (by simp)).trans ((tickState_runs s 0).same.mono (by simp))

theorem tickState_spans (p : SpanPort) : (tickState s).spans.get p = (s.spans.get p).ticked s.now := by
  rw [(tickState_runs s 0).same .spans (by simp), tickPorts_spans]

theorem tickState_posts : Posts (allSpans.flatMap (tickNotes s)) s (tickState s) :=
  Posts.of_logs (tickPorts_queues s) (tickState_runs s 0).logs

/-- A voter that a tick wakes. -/
theorem tickState_wakes (hi : s.voters[ch].state = .idle) {q : Position} (ha : (tickedVoter s ch).state ≠ .idle)
    (hq : (tickedVoter s ch).source = some q) : (∀ p, (posGet (tickState s).alloc p).rescue[ch] = true) ∧
      Reports ⟨.rescueActive, .notice, voterSubject s ch, [.channel ch, .named 0, .position q]⟩ s (tickState s) := by
  obtain ⟨told, rescue⟩ := (tickState_runs s ch).block.over.wakes (by rw [tickPorts_voters, hi]) ha
  refine ⟨fun p => (rescue p).resolve_right (by simp), ?_⟩
  have note : activeNote (tickPorts s) ch (votedRec (tickPorts s) (tickOutputs s) ch) =
      ⟨.rescueActive, .notice, voterSubject s ch, [.channel ch, .named 0, .position q]⟩ := by
    have subject : voterSubject (tickPorts s) ch = voterSubject s ch := by
      simp only [voterSubject, rescueCarrier, tickPorts_work]
    rw [tickedVoter] at hq
    rw [activeNote, subject, hq]
    rfl
  rw [note] at told
  obtain ⟨all, hall, agree⟩ := told
  refine ⟨allSpans.flatMap (tickNotes s) ++ all, hall.trans (List.sublist_append_right _ _), ?_⟩
  rw [PostsOnly, postAll_append]
  exact ((postAll_congr all (tickPorts_queues s)).trans agree).2.2

end

end Sys2Proof.Machine
end

section
/-! SUPPORT. A voter judged afresh on its coverage and its candidates (R108, R109, R114): what of it stays, and that it is then
sound. -/

namespace Sys2Proof.Machine

open Sys2Proof

/-! ### Candidates (R109) -/

/-- The positions that a voter's candidates are to have (R109). -/
def fedPositions (s : State) (v : VoterRec) : List Position :=
  allPositions.filter fun p => v.covers.get p.ring && (s.unitState p).side.isSome

theorem fedPositions_eq (s : State) (v : VoterRec) : fedPositions s v =
    allPositions.filter fun p => v.covers.get p.ring && (s.unitState p = .fedA || s.unitState p = .fedB) := by
  refine List.filter_congr fun p _ => congrArg (v.covers.get p.ring && ·) ?_
  cases s.unitState p <;> rfl

theorem fedPositions_nodup (s : State) (v : VoterRec) : (fedPositions s v).Nodup := allPositions_nodup.filter _

theorem candidatesOf_positions (s : State) (v : VoterRec) :
    (candidatesOf s v).map VoterCand.position = fedPositions s v := by
  rw [candidatesOf, List.map_map]
  exact List.map_id _

/-- Among candidates of different positions, one is found by its position. -/
theorem find_position {cands : List VoterCand} (h : (cands.map VoterCand.position).Nodup) {c : VoterCand} (hc : c ∈ cands) :
    cands.find? (·.position = c.position) = some c := by
  induction cands with
  | nil => cases hc
  | cons d ds ih =>
    obtain ⟨hd, hds⟩ := List.nodup_cons.1 h
    rcases List.mem_cons.1 hc with rfl | hc
    · simp
    · have other : d.position ≠ c.position := fun he => hd (he ▸ List.mem_map_of_mem hc)
      rw [List.find?_cons_of_neg (by simpa using other), ih hds hc]

/-- Candidates that are right stay as they are. -/
theorem candidatesOf_self {s : State} {v : VoterRec} (h : v.cands.map VoterCand.position = fedPositions s v) :
    candidatesOf s v = v.cands := by
  have nodup : (v.cands.map VoterCand.position).Nodup := h ▸ fedPositions_nodup s v
  have own : (v.cands.map VoterCand.position).map (fun p =>
      (⟨p, ((v.cands.find? (·.position = p)).map VoterCand.quality).getD none⟩ : VoterCand)) = v.cands := by
    rw [List.map_map]
    refine (List.map_congr_left fun c hc => ?_).trans (List.map_id _)
    simp only [Function.comp_apply, find_position nodup hc]
    rfl
  rw [h] at own
  exact own

/-! ### A source among some candidates (R111) -/

/-- A voter's selected source is one of its candidates. -/
def SourceIn (v : VoterRec) : Prop := ∀ p, v.source = some p → ∃ c ∈ v.cands, c.position = p

theorem freshChoice_mem {cands : List VoterCand} {kept : Option Position} {q : Position}
    (h : freshChoice cands kept = some q) : ∃ c ∈ cands, c.position = q := by
  have first (h : (bestOf cands).head?.map VoterCand.position = some q) : ∃ c ∈ cands, c.position = q := by
    obtain ⟨c, hc, hp⟩ := Option.map_eq_some_iff.1 h
    exact ⟨c, (mem_bestOf.1 (List.mem_of_head? hc)).1, hp⟩
  unfold freshChoice at h
  cases kept with
  | none => exact first h
  | some p =>
    dsimp only at h
    split at h
    next hb =>
      obtain ⟨c, hc, hp⟩ := List.any_eq_true.1 hb
      obtain rfl := Option.some.inj h
      exact ⟨c, (List.mem_filter.1 hc).1, of_decide_eq_true hp⟩
    next => exact first h

theorem loseSource_sourceIn (s : State) (ch : ChannelNo) (v : VoterRec) : SourceIn (loseSource s ch v) := by
  intro p hp
  unfold loseSource at hp ⊢
  cases hs : v.state <;> simp only [hs] at hp ⊢
  case repeating =>
    split at hp
    next hh =>
      rw [if_pos hh]
      exact freshChoice_mem (cands := v.cands) (kept := none) hp
    next => cases hp
  case console | base =>
    split at hp
    · exact freshChoice_mem (cands := v.cands) hp
    · cases hp
  case idle | hang => cases hp

/-! ### Candidates changed (R109, R114) -/

section
variable (s : State) (ch : ChannelNo) (v : VoterRec)

theorem withCandidates_sourceIn : SourceIn (withCandidates s ch v) := by
  unfold withCandidates
  dsimp only
  split
  next p hp =>
    split
    next hin =>
      intro q hq
      obtain ⟨c, hc, he⟩ := List.any_eq_true.1 hin
      exact ⟨c, hc, (of_decide_eq_true he).trans (Option.some.inj (hp.symm.trans hq))⟩
    next => exact loseSource_sourceIn s ch _
  next hp =>
    intro q hq
    rw [hp] at hq
    cases hq

variable {s v}

/-- A voter whose candidates are right and hold its source stays as it is. -/
theorem withCandidates_self (h : v.cands.map VoterCand.position = fedPositions s v) (hs : SourceIn v) :
    withCandidates s ch v = v := by
  unfold withCandidates
  rw [candidatesOf_self h]
  dsimp only
  split
  next p hp =>
    obtain ⟨c, hc, he⟩ := hs p hp
    exact if_pos (List.any_eq_true.2 ⟨c, hc, decide_eq_true he⟩)
  next => rfl

theorem withCandidates_positions : (withCandidates s ch v).cands.map VoterCand.position =
    fedPositions s (withCandidates s ch v) := by
  rw [withCandidates_cands, candidatesOf_positions, fedPositions, fedPositions, withCandidates_covers]

theorem withCandidates_congr {t : State} (hn : t.now = s.now) (hw : t.work.voters = s.work.voters) (hr : t.rings = s.rings)
    (v : VoterRec) : withCandidates t ch v = withCandidates s ch v := by
  have cands : candidatesOf t v = candidatesOf s v := by simp only [candidatesOf, State.unitState, hr]
  have lose (x : VoterRec) : loseSource t ch x = loseSource s ch x := by simp only [loseSource, newHang, hn, hw]
  simp only [withCandidates, cands, lose]

/-- A voter judged on its candidates has come to them as R109 and R114 say. -/
theorem withCandidates_rejudged (hv : (v.cands.map VoterCand.position).Nodup) (covers : PerRing Bool) :
    Rejudged s.now s.work.voters[ch].hang v (withCandidates s ch { v with covers := covers }) := by
  have member {c : VoterCand} (hc : c ∈ (withCandidates s ch { v with covers := covers }).cands) :
      c.quality = ((v.cands.find? (·.position = c.position)).map VoterCand.quality).getD none := by
    rw [withCandidates_cands] at hc
    obtain ⟨p, -, rfl⟩ := List.mem_map.1 hc
    rfl
  have sources := withCandidates_cands s ch { v with covers := covers }
  have any (p : Position) (cands : List VoterCand) : cands.any (·.position = p) = true ↔ ∃ c ∈ cands, c.position = p := by
    simp
  refine ⟨fun c hc d hd he => ?_, fun c hc hn => ?_, ?_, fun hk => ?_, fun p hp hl => ?_⟩
  · rw [member hc, ← he, find_position hv hd]
    rfl
  · have none : v.cands.find? (·.position = c.position) = none :=
      List.find?_eq_none.2 fun d hd => by simpa using hn d hd
    rw [member hc, none]
    rfl
  · unfold withCandidates loseSource
    dsimp only
    split
    · split
      · rfl
      · split
        · split <;> rfl
        all_goals rfl
    · rfl
  · rw [sources] at hk
    unfold withCandidates
    dsimp only
    split
    next p hp =>
      rw [if_pos ((any p _).2 (hk p hp))]
      exact ⟨rfl, rfl, rfl⟩
    next => exact ⟨rfl, rfl, rfl⟩
  · have lost : withCandidates s ch { v with covers := covers } =
        loseSource s ch { v with covers := covers, cands := candidatesOf s { v with covers := covers } } := by
      unfold withCandidates
      simp only [hp]
      refine if_neg fun h => ?_
      obtain ⟨c, hc, he⟩ := (any p _).1 h
      exact hl c (sources ▸ hc) he
    rw [lost]
    generalize candidatesOf s { v with covers := covers } = cands
    have keeps : (loseSource s ch { v with covers := covers, cands := cands }).cands = cands := by
      unfold loseSource
      split
      · split <;> rfl
      all_goals rfl
    rw [keeps]
    intro hears chooses
    have fresh (hh : hears) : ∃ q, freshChoice cands none = some q ∧ FreshChoice cands none q :=
      freshChoice_spec (heard_iff.2 hh) none
    have hearing : heard cands = true ↔ hears := heard_iff
    cases hs : v.state <;> simp only [loseSource, hs, reduceCtorEq, false_imp_iff, true_imp_iff, or_false, or_true,
      true_and, and_true, chooses]
    case repeating =>
      refine ⟨fun hh => ?_, fun hh => ?_⟩
      · rw [if_pos (hearing.2 hh)]
        exact ⟨fresh hh, rfl, rfl⟩
      · rw [if_neg (mt hearing.1 hh)]
        exact ⟨rfl, rfl, rfl⟩
    case console | base =>
      refine ⟨fun hh => ?_, fun hh => ?_⟩
      · rw [if_pos (hearing.2 hh)]
        exact fresh hh
      · rw [if_neg (mt hearing.1 hh)]

end

/-! ### A voter that stands for its inputs (R108, R109) -/

/-- A voter record is sound for its channel: the coverage in force, its fed units as candidates, its source among them. -/
structure VoterSound (s : State) (ch : ChannelNo) (v : VoterRec) : Prop where
  covers : v.covers = coverageOf s ch
  cands : v.cands.map VoterCand.position = fedPositions s v
  source : SourceIn v

theorem votersSound_iff {s : State} : VotersSound s ↔ ∀ ch : ChannelNo, VoterSound s ch s.voters[ch] := by
  constructor
  · intro ⟨covers, cands, source⟩ ch
    exact ⟨covers ch, (cands ch).trans (fedPositions_eq s _).symm, source ch⟩
  · intro h
    exact ⟨fun ch => (h ch).covers, fun ch => (h ch).cands.trans (fedPositions_eq s _), fun ch => (h ch).source⟩

/-- A voter judged afresh on its coverage and candidates (R108). -/
def judgedVoter (s : State) (ch : ChannelNo) : VoterRec :=
  withCandidates s ch { s.voters[ch] with covers := coverageOf s ch }

theorem judgedVoter_sound (s : State) (ch : ChannelNo) : VoterSound s ch (judgedVoter s ch) :=
  ⟨withCandidates_covers s ch _, withCandidates_positions ch, withCandidates_sourceIn s ch _⟩

/-- To judge a sound voter afresh changes nothing. -/
theorem VoterSound.judged {s : State} {ch : ChannelNo} {v : VoterRec} (h : VoterSound s ch v) :
    withCandidates s ch { v with covers := coverageOf s ch } = v := by
  rw [← h.covers]
  exact withCandidates_self ch h.cands h.source

theorem VoterSound.candidates {s : State} {ch : ChannelNo} {v : VoterRec} (h : VoterSound s ch v) :
    withCandidates s ch v = v := withCandidates_self ch h.cands h.source

/-- Two states that agree on what a voter stands for: the fed units and the coverage. -/
structure VoterInputs (s t : State) : Prop where
  units : ∀ p, (t.unitState p).side.isSome = (s.unitState p).side.isSome
  coverage : ∀ ch, coverageOf t ch = coverageOf s ch

theorem VoterInputs.of_same {s t : State} (hr : t.rings = s.rings) (hc : t.work.catalogue = s.work.catalogue)
    (hl : t.work.plans = s.work.plans) (hp : t.plans = s.plans) : VoterInputs s t where
  units p := by rw [State.unitState, State.unitState, hr]
  coverage ch := by simp only [coverageOf, rescueCarrier, State.carriageList, State.activePlan, hc, hl, hp]

theorem VoterInputs.trans {s t u : State} (h : VoterInputs s t) (k : VoterInputs t u) : VoterInputs s u :=
  ⟨fun p => (k.units p).trans (h.units p), fun ch => (k.coverage ch).trans (h.coverage ch)⟩

theorem VoterInputs.fedPositions {s t : State} (h : VoterInputs s t) (v : VoterRec) :
    fedPositions t v = fedPositions s v := by
  unfold Machine.fedPositions
  exact List.filter_congr fun p _ => by rw [h.units p]

/-- A voter has come to one of the same coverage and candidates, whose source is its own or a candidate. -/
structure VoterStands (v x : VoterRec) : Prop where
  covers : x.covers = v.covers
  cands : x.cands.map VoterCand.position = v.cands.map VoterCand.position
  source : ∀ q, x.source = some q → v.source = some q ∨ ∃ c ∈ x.cands, c.position = q

theorem VoterStands.refl (v : VoterRec) : VoterStands v v := ⟨rfl, rfl, fun _ h => .inl h⟩

theorem VoterStands.trans {v x y : VoterRec} (h : VoterStands v x) (k : VoterStands x y) : VoterStands v y := by
  refine ⟨k.covers.trans h.covers, k.cands.trans h.cands, fun q hq => ?_⟩
  rcases k.source q hq with hx | hy
  · refine (h.source q hx).imp_right fun ⟨c, hc, he⟩ => ?_
    have := List.mem_map_of_mem (f := VoterCand.position) hc
    rw [← k.cands, he] at this
    exact List.mem_map.1 this
  · exact .inr hy

theorem VoterSound.stands {s t : State} {ch : ChannelNo} {v x : VoterRec} (h : VoterSound s ch v) (hi : VoterInputs s t)
    (hx : VoterStands v x) : VoterSound t ch x := by
  refine ⟨hx.covers.trans (h.covers.trans (hi.coverage ch).symm), ?_, fun q hq => ?_⟩
  · rw [hx.cands, h.cands, hi.fedPositions, Machine.fedPositions, Machine.fedPositions, hx.covers]
  · rcases hx.source q hq with hv | hx'
    · obtain ⟨c, hc, he⟩ := h.source q hv
      have := List.mem_map_of_mem (f := VoterCand.position) hc
      rw [← hx.cands, he] at this
      exact List.mem_map.1 this
    · exact hx'

end Sys2Proof.Machine
end

section
/-! SUPPORT. An activation at the break-in unit hands on few events, and leaves a short queue (R131, R132, R134). -/

namespace Sys2Proof.Machine

open Sys2Proof

/-- The break-in queue is no longer than it may be, and each plan has few templates (R130, R144). -/
structure Ready (s : State) : Prop where
  queue : s.breakin.queue.length ≤ 8
  templates : ∀ (p : PlanNo) (x : PlanRecord), s.work.plans[p] = some x → x.templates.length ≤ 4

theorem ready_of_sound {s : State} (hp : PlansSound s) (hq : QueueSound s) : Ready s :=
  ⟨hq.size, fun p x h => hp.templates p x (.inl h)⟩

theorem Ready.congr {s t : State} (h : Ready s) (hb : t.breakin = s.breakin) (hp : t.work.plans = s.work.plans) : Ready t :=
  ⟨by rw [hb]; exact h.queue, fun p x hx => h.templates p x (by rwa [hp] at hx)⟩

theorem Ready.active {s : State} (h : Ready s) : s.activePlan.templates.length ≤ 4 := by
  rw [State.activePlan]
  cases hp : s.work.plans[s.plans.active] with
  | none => exact Nat.zero_le _
  | some x => exact h.templates _ x hp

theorem insertBreakIn_length (r : BreakIn) (q : List BreakIn) : (insertBreakIn r q).length = q.length + 1 := by
  have := congrArg List.length (List.takeWhile_append_dropWhile (p := (r.priority ≤ ·.priority)) (l := q))
  simp only [List.length_append] at this
  simp only [insertBreakIn, List.length_append, List.length_cons, List.length_nil]
  omega

/-- A request accepted into a queue that was no longer than it may be. -/
theorem acceptBreakIn_length (source : BreakInSource) (p : Option PlanNo) (t : Template) {x : Accepting}
    (h : x.queue.length ≤ 8) : (acceptBreakIn source p t x).queue.length ≤ 8 ∧
      (acceptBreakIn source p t x).notes.length ≤ x.notes.length + 1 := by
  have evicted (o : Option BreakIn) (f : BreakIn → Note) : (o.map f).toList.length ≤ 1 := by
    cases o <;> simp
  refine ⟨?_, ?_⟩
  · simp only [acceptBreakIn, insertBreakIn_length]
    by_cases hl : x.queue.length < 8
    · simp only [evictedBy, if_pos hl, Option.isSome_none, Bool.false_eq_true, if_false]
      omega
    · have some : (evictedBy x.queue).isSome = true := by
        rw [evictedBy, if_neg hl, List.getLast?_isSome]
        rintro hn
        simp [hn] at hl
      rw [some, if_pos rfl, List.length_dropLast]
      omega
  · simp only [acceptBreakIn, List.length_append]
    exact Nat.add_le_add_left (evicted _ _) _

theorem postTemplates_length (s : State) (p : PlanNo) (ts : List Template) (i : Nat) {x : Accepting}
    (h : x.queue.length ≤ 8) : (postTemplates s p i ts x).queue.length ≤ 8 ∧
      (postTemplates s p i ts x).notes.length ≤ x.notes.length + ts.length := by
  induction ts generalizing i x with
  | nil => exact ⟨h, le_rfl⟩
  | cons t ts ih =>
    have next {y : Accepting} (hy : y.queue.length ≤ 8) (hn : y.notes.length ≤ x.notes.length + 1) :
        (postTemplates s p (i + 1) ts y).queue.length ≤ 8 ∧
          (postTemplates s p (i + 1) ts y).notes.length ≤ x.notes.length + (ts.length + 1) := by
      obtain ⟨hq, hl⟩ := ih (i + 1) hy
      exact ⟨hq, by omega⟩
    rw [postTemplates, List.length_cons]
    split
    · exact next h (by simp)
    · split
      · exact next h (by simp)
      · obtain ⟨hq, hn⟩ := acceptBreakIn_length .plan (some p) t h
        exact next hq hn

theorem grantPlayers_length (eligible : List Nat) (q : List BreakIn) (free : List PlayerNo) :
    (grantPlayers eligible q free).length = q.length := by
  induction q generalizing free with
  | nil => rfl
  | cons r q ih =>
    unfold grantPlayers
    split
    · split <;> simp [ih]
    · simp [ih]

theorem settleQueue_length (now : Nat) (q : List BreakIn) : (settleQueue now q).length = q.length := by
  simp [settleQueue, grantPlayers_length]

/-- A settlement of a short queue hands on few events. -/
theorem settlement_weight {notes : List Note} {q : List BreakIn} {s : State} (hn : notes.length ≤ 12) (hq : q.length ≤ 8) :
    ((settlement notes q s).2.map HandOver.weight).sum ≤ 96 := by
  have air : (newOnAir s.breakin.queue (settleQueue s.now q)).length ≤ 8 :=
    (List.length_filter_le ..).trans ((settleQueue_length s.now q).trans_le hq)
  have classes (u : State) (old new : Vector Bool 8) :=
    classHands_weight (s := u) (carryingChanged u old new) ((List.length_filter_le ..).trans allPositions_length.le)
  simp only [settlement, List.map_append, List.sum_append, List.map_cons, List.map_nil, List.sum_cons, List.sum_nil,
    HandOver.weight, List.length_append, List.length_map]
  refine Nat.le_trans (Nat.add_le_add_left (classes _ _ _) _) ?_
  omega

theorem activationEvent_length {s : State} (h : Ready s) : (activationEvent s).1.breakin.queue.length ≤ 8 ∧
    ((activationEvent s).2.map HandOver.weight).sum ≤ 96 := by
  have stay : (s.breakin.queue.filter (·.source ≠ .plan)).length ≤ 8 := (List.length_filter_le ..).trans h.queue
  have gone : ((s.breakin.queue.filter (·.source = .plan)).map (doneNote · (some .plan))).length ≤ 8 := by
    rw [List.length_map]
    exact (List.length_filter_le ..).trans h.queue
  have few := h.active
  obtain ⟨hq, hn⟩ := postTemplates_length s s.plans.active s.activePlan.templates 0
    (x := ⟨s.breakin.queue.filter (·.source ≠ .plan), s.breakin.accepted,
      (s.breakin.queue.filter (·.source = .plan)).map (doneNote · (some .plan))⟩) stay
  exact ⟨(settleQueue_length ..).trans_le hq, settlement_weight (hn.trans (by simp only at gone ⊢; omega)) hq⟩

end Sys2Proof.Machine
end

section
/-! SUPPORT. What a command does to the voters: it leaves what they stand for, or hands on that they are judged afresh; and
their hand-overs taken in whatever order (R108, R109, R114). -/

namespace Sys2Proof.Machine

open Sys2Proof

/-! ### States between which the voters are not concerned -/

/-- Two states agree on all that a judgement of a voter, and an activation, reads. -/
structure Still (s t : State) : Prop where
  clock : t.now = s.now
  rings : t.rings = s.rings
  plans : t.plans = s.plans
  voters : t.voters = s.voters
  breakin : t.breakin = s.breakin
  catalogue : t.work.catalogue = s.work.catalogue
  lists : t.work.plans = s.work.plans
  hangs : t.work.voters = s.work.voters

/-- The fed units, the coverage, and each voter's coverage, candidates and hold on its source stand. -/
structure Calm (s t : State) : Prop where
  inputs : VoterInputs s t
  voters : ∀ ch : ChannelNo, VoterStands s.voters[ch] t.voters[ch]

theorem Still.refl (s : State) : Still s s := ⟨rfl, rfl, rfl, rfl, rfl, rfl, rfl, rfl⟩

theorem Still.trans {s t u : State} (h : Still s t) (k : Still t u) : Still s u where
  clock := k.clock.trans h.clock
  rings := k.rings.trans h.rings
  plans := k.plans.trans h.plans
  voters := k.voters.trans h.voters
  breakin := k.breakin.trans h.breakin
  catalogue := k.catalogue.trans h.catalogue
  lists := k.lists.trans h.lists
  hangs := k.hangs.trans h.hangs

theorem Still.of_sameBut {changed : List Part} {s t : State} (h : SameBut changed s t)
    (hc : ∀ x ∈ changed, x ∉ [Part.clock, .rings, .plans, .voters, .breakin, .work]) : Still s t := by
  have kept (x : Part) (hx : x ∈ [Part.clock, .rings, .plans, .voters, .breakin, .work]) : x.same s t :=
    h x fun hm => hc x hm hx
  have work : t.work = s.work := kept .work (by simp)
  exact ⟨kept .clock (by simp), kept .rings (by simp), kept .plans (by simp), kept .voters (by simp), kept .breakin (by simp),
    by rw [work], by rw [work], by rw [work]⟩

theorem Still.inputs {s t : State} (h : Still s t) : VoterInputs s t := .of_same h.rings h.catalogue h.lists h.plans

theorem Still.calm {s t : State} (h : Still s t) : Calm s t :=
  ⟨h.inputs, fun ch => by rw [h.voters]; exact .refl _⟩

theorem Still.ready {s t : State} (h : Still s t) (k : Ready s) : Ready t := k.congr h.breakin h.lists

theorem Calm.refl (s : State) : Calm s s := (Still.refl s).calm

theorem Calm.trans {s t u : State} (h : Calm s t) (k : Calm t u) : Calm s u :=
  ⟨h.inputs.trans k.inputs, fun ch => (h.voters ch).trans (k.voters ch)⟩

theorem Calm.sound {s t : State} (h : Calm s t) (k : VotersSound s) : VotersSound t :=
  votersSound_iff.2 fun ch => (votersSound_iff.1 k ch).stands h.inputs (h.voters ch)

/-- One voter replaced by one that stands. -/
theorem Calm.setVoter {s : State} {ch : ChannelNo} {x : VoterRec} (h : VoterStands s.voters[ch] x) : Calm s (s.setVoter ch x) where
  inputs := .of_same rfl rfl rfl rfl
  voters d := by
    rw [State.setVoter_voters, vector_get_set]
    split
    next hd => exact hd ▸ h
    next => exact .refl _

/-! ### A voter's own events (R110 to R119) -/

theorem VoterStands.of_kept {v x : VoterRec} (hv : x.covers = v.covers) (hc : x.cands.map VoterCand.position =
    v.cands.map VoterCand.position) (hs : x.source = v.source) : VoterStands v x :=
  ⟨hv, hc, fun _ h => .inl (hs ▸ h)⟩

theorem hysteresisStep_mem {h : Nat} {cands : List VoterCand} {p q : Position} (hq : hysteresisStep h cands p = some q) :
    q = p ∨ ∃ c ∈ cands, c.position = q := by
  have chosen (hf : freshChoice (cands.filter (·.position ≠ p)) none = some q) : ∃ c ∈ cands, c.position = q := by
    obtain ⟨c, hc, he⟩ := freshChoice_mem hf
    exact ⟨c, (List.mem_filter.1 hc).1, he⟩
  simp only [hysteresisStep] at hq
  split at hq
  · split at hq
    · exact .inr (chosen hq)
    · exact .inl (Option.some.inj hq).symm
  · split at hq
    · exact .inr (chosen hq)
    · exact .inl (Option.some.inj hq).symm

theorem voteOn_mem {h : Nat} {v : VoterRec} {q : Position} (hq : voteOn h v = some q) :
    v.source = some q ∨ ∃ c ∈ v.cands, c.position = q := by
  unfold voteOn at hq
  split at hq
  · split at hq
    next p hp => exact (hysteresisStep_mem hq).imp_left fun he => by rw [hp, he]
    next => exact .inr (freshChoice_mem hq)
  · exact .inl hq

theorem vote_stands (s : State) (ch : ChannelNo) (v : VoterRec) : VoterStands v (vote s ch v) := by
  obtain ⟨cands, -, -, covers⟩ := vote_keeps s ch v
  refine ⟨covers, by rw [cands], fun q hq => ?_⟩
  rw [cands]
  cases hs : v.state <;> simp only [vote, hs] at hq
  case console | base => exact voteOn_mem hq
  case idle =>
    split at hq
    · exact .inr (freshChoice_mem (cands := v.cands) (kept := none) hq)
    · exact .inl hq
  case repeating =>
    split at hq
    · exact voteOn_mem (v := v) hq
    · exact .inl hq
  case hang =>
    split at hq
    · exact .inr (freshChoice_mem (cands := v.cands) (kept := v.source) hq)
    · exact .inl hq

theorem votedRec_stands (s : State) (outs : PerSpan Output) (ch : ChannelNo) :
    VoterStands s.voters[ch] (votedRec s outs ch) := by
  have heard : VoterStands s.voters[ch] (hearing s outs ch) := by
    refine .of_kept rfl ?_ rfl
    simp only [hearing, blockQualities, List.map_map]
    rfl
  exact (heard.trans (vote_stands s ch _)).trans (.of_kept rfl rfl rfl)

theorem endTalk_stands (s : State) (ch : ChannelNo) (v : VoterRec) : VoterStands v (endTalk s ch v) := by
  unfold endTalk
  split
  · exact .of_kept rfl rfl rfl
  · split
    · refine ⟨rfl, rfl, fun q hq => ?_⟩
      dsimp only at hq
      split at hq
      next p hp =>
        split at hq
        · exact .inr (freshChoice_mem hq)
        · exact .inl (hp.trans hq)
      next => exact .inr (freshChoice_mem hq)
    · exact .of_kept rfl rfl rfl

theorem Calm.setVoterState {s : State} {ch : ChannelNo} {x : VoterRec} (cause : TalkCause) (h : VoterStands s.voters[ch] x) :
    Calm s (setVoterState ch x cause s).1 := by
  have set := Calm.setVoter h
  have post (e : Note) : Calm s ((s.setVoter ch x).post e) :=
    set.trans (Still.of_sameBut (post_sameBut _ e) (by simp)).calm
  simp only [Machine.setVoterState]
  split
  · exact post _
  · split
    · exact post _
    · exact set

theorem Calm.baseKeyed (ch : ChannelNo) (asserted : Bool) (s : State) : Calm s (baseKeyed ch asserted s).1 := by
  have kept (x : VoterRec) (hv : x.covers = s.voters[ch].covers) (hc : x.cands = s.voters[ch].cands)
      (hs : x.source = s.voters[ch].source) : VoterStands s.voters[ch] x := .of_kept hv (by rw [hc]) hs
  simp only [Machine.baseKeyed]
  split
  · exact .refl s
  · split
    · split <;> exact .setVoterState _ (kept _ rfl rfl rfl)
    · split
      · exact .setVoterState _ ((kept { s.voters[ch] with baseKey := asserted } rfl rfl rfl).trans (endTalk_stands s ch _))
      · exact .setVoterState _ (kept _ rfl rfl rfl)

/-- Every hand-over leaves sound voters what they stand for. -/
theorem Calm.handle (h : HandOver) {s : State} (k : VotersSound s) : Calm s (handle h s).1 := by
  have sound := votersSound_iff.1 k
  have still (hp : ∀ x ∈ h.parts, x ∉ [Part.clock, .rings, .plans, .voters, .work]) : Calm s (Machine.handle h s).1 := by
    have same := handle_sameBut h s
    have kept (x : Part) (hx : x ∈ [Part.clock, .rings, .plans, .voters, .work]) : x.same s (Machine.handle h s).1 :=
      same x fun hm => hp x hm hx
    have work : (Machine.handle h s).1.work = s.work := kept .work (by simp)
    have voters : (Machine.handle h s).1.voters = s.voters := kept .voters (by simp)
    exact ⟨.of_same (kept .rings (by simp)) (by rw [work]) (by rw [work]) (kept .plans (by simp)),
      fun ch => by rw [voters]; exact .refl _⟩
  cases h with
  | coverage ch =>
    refine .setVoter ?_
    rw [(sound ch).judged]
    exact .refl _
  | candidates ch =>
    refine .setVoter ?_
    rw [(sound ch).candidates]
    exact .refl _
  | block ch outs => exact .setVoterState _ (votedRec_stands s outs ch)
  | baseKey ch => exact .baseKeyed ch true s
  | planner | flag | alloc | activation | settings | posts => exact still (by simp [HandOver.parts])

/-- The hand-overs of a command that leaves sound voters what they stand for do so too. -/
theorem Calm.settled {x : Handed} (k : VotersSound x.1) : Calm x.1 (settled x) := by
  obtain ⟨-, calm⟩ := settle_keeps (I := fun s _ => Calm x.1 s) (fun _ _ _ _ h => h)
    (fun s cs _ calm => calm.trans (Still.of_sameBut (setChoices_sameBut s cs) (by simp)).calm)
    (fun s h hs calm => calm.trans (.handle h (calm.sound k))) settleFuel x.2 x.1 (.refl x.1)
  exact calm

/-! ### Voters that are judged afresh -/

/-- A bound on how many events a hand-over gives rise to, an activation's with a short queue. -/
def HandOver.fullWeight : HandOver → Nat
  | .activation => 97
  | h => h.weight

theorem fullWeight_of_ne {h : HandOver} (hne : h ≠ .activation) : h.fullWeight = h.weight := by
  cases h with
  | activation => exact absurd rfl hne
  | _ => rfl

theorem fullWeight_sum {hs : List HandOver} (hne : ∀ h ∈ hs, h ≠ .activation) :
    (hs.map HandOver.fullWeight).sum = (hs.map HandOver.weight).sum :=
  congrArg List.sum (List.map_congr_left fun h hm => fullWeight_of_ne (hne h hm))

/-- A command's result leaves the voters as they were, and hands on that those whose coverage or fed units have changed are
judged afresh, among few events. -/
structure Judged (s : State) (y : Handed) : Prop where
  clock : y.1.now = s.now
  hangs : y.1.work.voters = s.work.voters
  voters : y.1.voters = s.voters
  ready : Ready y.1
  hands : ∀ h ∈ y.2, (∀ ch outs, h ≠ .block ch outs) ∧ ∀ ch, h ≠ .baseKey ch
  covered : ∀ ch, .candidates ch ∈ y.2 → y.1.voters[ch].covers = coverageOf y.1 ch
  pending : ∀ ch, .coverage ch ∈ y.2 ∨ .candidates ch ∈ y.2 ∨ VoterSound y.1 ch y.1.voters[ch]
  weight : (y.2.map HandOver.fullWeight).sum ≤ settleFuel

/-- While the hand-overs of such a result are taken: each voter is still to be judged, or has been. -/
structure Judging (b : State) (s : State) (hs : List HandOver) : Prop where
  same : SameBut handedParts b s
  queue : s.breakin.queue.length ≤ 8
  hands : ∀ h ∈ hs, (∀ ch outs, h ≠ .block ch outs) ∧ ∀ ch, h ≠ .baseKey ch
  covered : ∀ ch, .candidates ch ∈ hs → b.voters[ch].covers = coverageOf b ch
  voters : ∀ ch : ChannelNo, s.voters[ch] = judgedVoter b ch ∨
    (s.voters[ch] = b.voters[ch] ∧ (.coverage ch ∈ hs ∨ .candidates ch ∈ hs))

section
variable {b s : State} {h : HandOver} {hs : List HandOver}

theorem Judging.perm {ks : List HandOver} (hp : hs.Perm ks) (run : Judging b s hs) : Judging b s ks :=
  ⟨run.same, run.queue, fun h hm => run.hands h (hp.mem_iff.2 hm), fun ch hm => run.covered ch (hp.mem_iff.2 hm),
    fun ch => (run.voters ch).imp_right (.imp_right (.imp hp.mem_iff.1 hp.mem_iff.1))⟩

theorem Judging.choices (cs : List Nat) (run : Judging b s hs) : Judging b { s with choices := cs } hs :=
  ⟨run.same.trans ((setChoices_sameBut s cs).mono (by simp [handedParts])), run.queue, run.hands, run.covered, run.voters⟩

/-- The judgement of a voter on the way is that of the state at the start. -/
theorem Judging.judgement (run : Judging b s hs) (ch : ChannelNo) (v : VoterRec) :
    withCandidates s ch v = withCandidates b ch v :=
  have work : s.work = b.work := run.same .work (by simp [handedParts])
  withCandidates_congr ch (run.same .clock (by simp [handedParts])) (by rw [work]) (run.same .rings (by simp [handedParts])) v

theorem Judging.coverage (run : Judging b s hs) (ch : ChannelNo) : coverageOf s ch = coverageOf b ch :=
  coverageOf_congr (run.same .work (by simp [handedParts])) (run.same .plans (by simp [handedParts])) ch

theorem Judging.ready (run : Judging b s hs) (k : Ready b) : Ready s :=
  ⟨run.queue, fun p x hx => k.templates p x (by rwa [run.same .work (by simp [handedParts])] at hx)⟩

/-- A voter that judges its coverage, or its candidates, is the voter judged afresh. -/
theorem Judging.coverageTaken (run : Judging b s hs) (ch : ChannelNo) :
    withCandidates s ch { s.voters[ch] with covers := coverageOf s ch } = judgedVoter b ch := by
  rw [run.judgement, run.coverage]
  rcases run.voters ch with hv | ⟨hv, -⟩
  · rw [hv, (judgedVoter_sound b ch).judged]
  · rw [hv]
    rfl

theorem Judging.candidatesTaken (run : Judging b s hs) {ch : ChannelNo} (hc : b.voters[ch].covers = coverageOf b ch) :
    withCandidates s ch s.voters[ch] = judgedVoter b ch := by
  rw [run.judgement]
  rcases run.voters ch with hv | ⟨hv, -⟩
  · rw [hv, (judgedVoter_sound b ch).candidates]
  · rw [hv, judgedVoter, ← hc]

theorem HandOver.follows.judging {k : HandOver} (hk : k.follows) : (∀ ch outs, k ≠ .block ch outs) ∧ (∀ ch, k ≠ .baseKey ch) ∧
    (∀ ch, k ≠ .candidates ch) := by
  cases k <;> simp_all [HandOver.follows]

theorem Judging.step (k : Ready b) (run : Judging b s (h :: hs)) :
    Judging b (handle h s).1 ((handle h s).2 ++ hs) := by
  have mine := run.hands h (List.mem_cons_self ..)
  have parts : ∀ x ∈ h.parts, x ∈ handedParts := by cases h <;> simp [HandOver.parts, handedParts]
  have follows := handle_follows h s
  refine ⟨run.same.trans ((handle_sameBut h s).mono parts), ?_, fun k hk => ?_, fun ch hm => ?_, fun ch => ?_⟩
  · cases h with
    | activation => exact (activationEvent_length (run.ready k)).1
    | _ =>
      rw [handle_sameBut _ s .breakin (by simp [HandOver.parts])]
      exact run.queue
  · rcases List.mem_append.1 hk with hk | hk
    · obtain ⟨block, key, -⟩ := (follows k hk).judging
      exact ⟨block, key⟩
    · exact run.hands k (List.mem_cons_of_mem _ hk)
  · rcases List.mem_append.1 hm with hm | hm
    · exact absurd rfl ((follows _ hm).judging.2.2 ch)
    · exact run.covered ch (List.mem_cons_of_mem _ hm)
  · have passed (hv : (handle h s).1.voters[ch] = s.voters[ch]) (hc : h ≠ .coverage ch) (hd : h ≠ .candidates ch) :
        (handle h s).1.voters[ch] = judgedVoter b ch ∨ ((handle h s).1.voters[ch] = b.voters[ch] ∧
          (.coverage ch ∈ (handle h s).2 ++ hs ∨ .candidates ch ∈ (handle h s).2 ++ hs)) := by
      rw [hv]
      refine (run.voters ch).imp_right (.imp_right fun hm => hm.imp (fun hm => ?_) fun hm => ?_)
      · exact List.mem_append_right _ ((List.mem_cons.1 hm).resolve_left hc.symm)
      · exact List.mem_append_right _ ((List.mem_cons.1 hm).resolve_left hd.symm)
    cases h with
    | coverage d =>
      have set : (handle (.coverage d) s).1.voters[ch] = _ := coverageEvent_voters d ch s
      by_cases hd : ch = d
      · subst hd
        rw [set, if_pos rfl]
        exact .inl (run.coverageTaken ch)
      · exact passed (set.trans (if_neg hd)) (by simpa using Ne.symm hd) (by simp)
    | candidates d =>
      have set : (handle (.candidates d) s).1.voters[ch] = if ch = d then withCandidates s d s.voters[d] else s.voters[ch] := by
        rw [handle, candidatesEvent, State.setVoter_voters, vector_get_set]
      by_cases hd : ch = d
      · subst hd
        rw [set, if_pos rfl]
        exact .inl (run.candidatesTaken (run.covered ch (List.mem_cons_self ..)))
      · exact passed (set.trans (if_neg hd)) (by simp) (by simpa using Ne.symm hd)
    | block d outs => exact absurd rfl (mine.1 d outs)
    | baseKey d => exact absurd rfl (mine.2 d)
    | planner | flag | alloc | activation | settings | posts =>
      refine passed ?_ (by simp) (by simp)
      rw [handle_sameBut _ s .voters (by simp [HandOver.parts])]

theorem handle_fullWeight (h : HandOver) {s : State} (k : Ready s) :
    ((handle h s).2.map HandOver.fullWeight).sum + 1 ≤ h.fullWeight := by
  have follows : ∀ k ∈ (handle h s).2, k ≠ .activation := by
    rintro k hk rfl
    exact handle_follows h s _ hk
  rw [fullWeight_sum follows]
  by_cases hne : h = .activation
  · subst hne
    exact Nat.succ_le_succ (activationEvent_length k).2
  · rw [fullWeight_of_ne hne]
    exact handle_weight h s hne

end

/-- Once all is taken, each voter has been judged afresh. -/
theorem Judged.settled {s : State} {y : Handed} (h : Judged s y) (ch : ChannelNo) :
    (settled y).voters[ch] = judgedVoter y.1 ch := by
  have start : Judging y.1 y.1 y.2 := by
    refine ⟨SameBut.refl _ _, h.ready.queue, h.hands, h.covered, fun ch => ?_⟩
    rcases h.pending ch with hp | hp | hp
    · exact .inr ⟨rfl, .inl hp⟩
    · exact .inr ⟨rfl, .inr hp⟩
    · exact .inl hp.judged.symm
  have done : Judging y.1 (Machine.settled y) [] := settle_invariant (I := Judging y.1) HandOver.fullWeight
    (fun _ _ _ hp run => run.perm hp) (fun _ cs _ run => run.choices cs) (fun _ _ _ run => run.step h.ready)
    (fun _ k _ run => handle_fullWeight k (run.ready h.ready)) settleFuel y.2 y.1 start h.weight
  exact (done.voters ch).resolve_right fun hp => by simpa using hp.2

end Sys2Proof.Machine
end

section
/-! SUPPORT. The results of operations that leave sound voters what they stand for, or have them judged afresh (R108, R109,
R114): what such a result makes of the voters once settled, and how such results compose. -/

namespace Sys2Proof.Machine

open Sys2Proof

/-- What a sound state's voters come to by a result: nothing that concerns them, or a judgement afresh. -/
def Revotes (s : State) (y : Handed) : Prop := Ready s → VotersSound s → Calm s y.1 ∨ Judged s y

/-- Two states whose voters keep their coverage and their candidates' positions. -/
theorem Calm.coverage_cands {s t : State} (h : Calm s t) (ch : ChannelNo) : t.voters[ch].covers = s.voters[ch].covers ∧
    t.voters[ch].cands.map VoterCand.position = s.voters[ch].cands.map VoterCand.position :=
  ⟨(h.voters ch).covers, (h.voters ch).cands⟩

/-- A voter whose coverage or candidates are others has been judged on them. -/
def RejudgedWhereChanged (s t : State) : Prop :=
  ∀ ch : ChannelNo, (t.voters[ch].covers ≠ s.voters[ch].covers ∨
      t.voters[ch].cands.map VoterCand.position ≠ s.voters[ch].cands.map VoterCand.position) →
    Rejudged s.now s.work.voters[ch].hang s.voters[ch] t.voters[ch]

theorem Calm.rejudged {s t : State} (h : Calm s t) : RejudgedWhereChanged s t := by
  intro ch changed
  obtain ⟨covers, cands⟩ := h.coverage_cands ch
  exact changed.elim (absurd covers) (absurd cands)

/-- The settled state keeps all that a voter stands for but the voters. -/
theorem settled_inputs (y : Handed) : VoterInputs y.1 (settled y) := by
  have same := settled_sameBut_handed y
  have work : (settled y).work = y.1.work := same .work (by simp [handedParts])
  exact .of_same (same .rings (by simp [handedParts])) (by rw [work]) (by rw [work]) (same .plans (by simp [handedParts]))

theorem Judged.sound {s : State} {y : Handed} (h : Judged s y) : VotersSound (Machine.settled y) := by
  refine votersSound_iff.2 fun ch => ?_
  rw [h.settled ch]
  exact (judgedVoter_sound y.1 ch).stands (settled_inputs y) (.refl _)

theorem Judged.rejudged {s : State} {y : Handed} (k : VotersSound s) (h : Judged s y) : RejudgedWhereChanged s (Machine.settled y) := by
  intro ch _
  have nodup : (y.1.voters[ch].cands.map VoterCand.position).Nodup := by
    rw [h.voters, (votersSound_iff.1 k ch).cands]
    exact fedPositions_nodup s _
  have : Rejudged y.1.now y.1.work.voters[ch].hang y.1.voters[ch] (judgedVoter y.1 ch) :=
    withCandidates_rejudged (s := y.1) ch nodup (coverageOf y.1 ch)
  rw [h.clock, h.hangs, h.voters] at this
  rwa [h.settled ch]

/-- What a result makes of a sound state's voters. -/
theorem Revotes.votes {s : State} {y : Handed} (h : Revotes s y) (hr : Ready s) (k : VotersSound s) :
    VotersSound (settled y) ∧ RejudgedWhereChanged s (settled y) := by
  rcases h hr k with calm | judged
  · have settles := Calm.settled (x := y) (calm.sound k)
    exact ⟨settles.sound (calm.sound k), (calm.trans settles).rejudged⟩
  · exact ⟨judged.sound, judged.rejudged k⟩

/-! ### Composition -/

theorem Revotes.of_calm {s : State} {y : Handed} (h : Calm s y.1) : Revotes s y := fun _ _ => .inl h

theorem Revotes.of_still {s : State} {y : Handed} (h : Still s y.1) : Revotes s y := .of_calm h.calm

theorem Revotes.refl (s : State) (hs : List HandOver) : Revotes s (s, hs) := .of_calm (.refl s)

theorem Judged.after {s u : State} {y : Handed} (h : Still s u) (k : Judged u y) : Judged s y :=
  { k with clock := k.clock.trans h.clock, hangs := k.hangs.trans h.hangs, voters := k.voters.trans h.voters }

/-- Before a result, what does not concern the voters. -/
theorem Revotes.after {s u : State} {y : Handed} (h : Still s u) (k : Revotes u y) : Revotes s y := fun hr hv =>
  (k (h.ready hr) (h.calm.sound hv)).imp h.calm.trans (.after h)

theorem Judged.then {s u : State} {y : Handed} (k : Judged s y) (h : Still y.1 u) : Judged s (u, y.2) where
  clock := h.clock.trans k.clock
  hangs := h.hangs.trans k.hangs
  voters := h.voters.trans k.voters
  ready := h.ready k.ready
  hands := k.hands
  covered ch hm := by
    rw [h.inputs.coverage, ← k.covered ch hm]
    exact congrArg (fun v : Vector VoterRec 4 => v[ch].covers) h.voters
  pending ch := (k.pending ch).imp_right <| .imp_right fun hp => by
    have := hp.stands h.inputs (.refl _)
    rwa [← h.voters] at this
  weight := k.weight

/-- After a result, what does not concern the voters. -/
theorem Revotes.then {s u : State} {y : Handed} (k : Revotes s y) (h : Still y.1 u) : Revotes s (u, y.2) := fun hr hv =>
  (k hr hv).imp (·.trans h.calm) (·.then h)

/-- A hand-over that concerns no voter's coverage, candidates or state. -/
def HandOver.aside : HandOver → Prop
  | .alloc .. | .posts _ => True
  | _ => False

theorem Judged.handing {s : State} {y : Handed} {hs : List HandOver} (k : Judged s y) (aside : ∀ h ∈ hs, h.aside)
    (room : ((y.2 ++ hs).map HandOver.fullWeight).sum ≤ settleFuel) : Judged s (y.1, y.2 ++ hs) where
  clock := k.clock
  hangs := k.hangs
  voters := k.voters
  ready := k.ready
  hands h hm := by
    rcases List.mem_append.1 hm with hm | hm
    · exact k.hands h hm
    · have := aside h hm
      cases h <;> simp_all [HandOver.aside]
  covered ch hm := (List.mem_append.1 hm).elim (k.covered ch) fun hm => (aside _ hm).elim
  pending ch := (k.pending ch).imp (List.mem_append_left _) (.imp_left (List.mem_append_left _))
  weight := room

/-- A result whose state concerns the voters, and whose hand-overs have room for a few more. -/
def RevotesWithin (n : Nat) (s : State) (y : Handed) : Prop := Ready s → VotersSound s →
  Calm s y.1 ∨ (Judged s y ∧ (y.2.map HandOver.fullWeight).sum ≤ n)

theorem RevotesWithin.revotes {n : Nat} {s : State} {y : Handed} (h : RevotesWithin n s y) : Revotes s y := fun hr hv =>
  (h hr hv).imp_right And.left

theorem RevotesWithin.handing {n : Nat} {s : State} {y : Handed} {hs : List HandOver} (h : RevotesWithin n s y)
    (aside : ∀ h ∈ hs, h.aside) (room : n + (hs.map HandOver.fullWeight).sum ≤ settleFuel) :
    Revotes s (y.1, y.2 ++ hs) := by
  intro hr hv
  refine (h hr hv).imp_right fun ⟨k, hn⟩ => k.handing aside ?_
  rw [List.map_append, List.sum_append]
  exact (Nat.add_le_add_right hn _).trans room

theorem RevotesWithin.after {n : Nat} {s u : State} {y : Handed} (h : Still s u) (k : RevotesWithin n u y) :
    RevotesWithin n s y := fun hr hv =>
  (k (h.ready hr) (h.calm.sound hv)).imp h.calm.trans (.imp_left (.after h))

theorem RevotesWithin.of_calm {n : Nat} {s : State} {y : Handed} (h : Calm s y.1) : RevotesWithin n s y := fun _ _ => .inl h

/-! ### One record replaced -/

theorem Still.post (s : State) (e : Note) : Still s (s.post e) := .of_sameBut (post_sameBut s e) (by simp)

theorem Still.postAll (s : State) (es : List Note) : Still s (s.postAll es) := .of_sameBut (postAll_sameBut s es) (by simp)

theorem Still.setSpan (s : State) (p : SpanPort) (x : Span) : Still s (s.setSpan p x) := ⟨rfl, rfl, rfl, rfl, rfl, rfl, rfl, rfl⟩

theorem Still.setBeacon (s : State) (p : Position) (x : BeaconRec) : Still s (s.setBeacon p x) :=
  .of_sameBut (setBeacon_sameBut s p x) (by simp)

theorem Still.setMgmt (s : State) (p : MgmtPort) (x : MgmtRec) : Still s (s.setMgmt p x) :=
  ⟨rfl, rfl, rfl, rfl, rfl, rfl, rfl, rfl⟩

theorem Still.setContact (s : State) (c : ContactNo) (x : ContactRec) : Still s (s.setContact c x) :=
  ⟨rfl, rfl, rfl, rfl, rfl, rfl, rfl, rfl⟩

theorem Still.setWatch (s : State) (x : Watch) : Still s { s with watch := x } := ⟨rfl, rfl, rfl, rfl, rfl, rfl, rfl, rfl⟩

theorem Still.setReference (s : State) (r : RefRec) : Still s { s with reference := r } := ⟨rfl, rfl, rfl, rfl, rfl, rfl, rfl, rfl⟩

theorem Still.ite {c : Prop} [Decidable c] {s t u : State} (ht : Still s t) (hu : Still s u) :
    Still s (if c then t else u) := by
  split
  · exact ht
  · exact hu

theorem Calm.setBreakin (s : State) (b : BreakInUnit) : Calm s { s with breakin := b } where
  inputs := .of_same rfl rfl rfl rfl
  voters _ := .refl _

end Sys2Proof.Machine
end

section
/-! SUPPORT. The operations that have voters judged afresh: a ring topology record, a Catalogue record and an activation (R53,
R7, R154). -/

namespace Sys2Proof.Machine

open Sys2Proof

/-! ### A ring topology record in the old one's place (R53) -/

section
variable {s : State} {r : Ring} {cause : FeedCause} {new : RingRec}

theorem applyRing_unitState (p : Position) : (applyRing r cause new s).1.unitState p =
    if p.ring = r then new.units[p.unit] else s.unitState p := by
  rw [State.unitState, applyRing_rings, PerRing.get_set]
  split <;> rfl

/-- A voter whose ring's units are fed as before, or that does not cover the ring, stands. -/
theorem applyRing_stands {ch : ChannelNo} (h : VoterSound s ch s.voters[ch])
    (idle : fedChanged (s.rings.get r) new = false ∨ s.voters[ch].covers.get r = false) :
    VoterSound (applyRing r cause new s).1 ch s.voters[ch] := by
  have same := applyRing_sameBut r cause new s
  refine ⟨h.covers.trans (coverageOf_congr (same .work (by simp)) (same .plans (by simp)) ch).symm, h.cands.trans ?_,
    h.source⟩
  refine List.filter_congr fun p _ => ?_
  rw [applyRing_unitState]
  split
  next hp =>
    subst hp
    rcases idle with he | he
    · have := (List.any_eq_false.1 he) p.unit (List.mem_finRange _)
      rw [State.unitState, show (s.rings.get p.ring).units[p.unit].side.isSome = new.units[p.unit].side.isSome by simpa using this]
    · rw [he, Bool.false_and, Bool.false_and]
  next => rfl

theorem ringHands_aside (s : State) (old : RingRec) : ∀ h ∈ ringHands s r old new, h ≠ .activation ∧
    (∀ ch outs, h ≠ .block ch outs) ∧ ∀ ch, h ≠ .baseKey ch := by
  intro h hm
  have := ringHands_ofRing s r old new h hm
  cases h <;> simp_all [HandOver.ofRing]

theorem mem_ringHands_candidates {ch : ChannelNo} {old : RingRec} : .candidates ch ∈ ringHands s r old new ↔
    fedChanged old new = true ∧ s.voters[ch].covers.get r = true := by
  have path (side : Side) : .candidates ch ∉ pathHands r old new side := by
    rcases pathHands_cases r old new side with e | ⟨_, _, -, -, e⟩ <;> simp [e]
  simp only [ringHands, List.mem_append, path, unitHands, List.mem_map, false_or, reduceCtorEq, and_false, exists_false]
  split
  next h => simp [votersOfRing, h]
  next h => simp [h]

end

theorem RevotesWithin.applyRing (r : Ring) (cause : FeedCause) (new : RingRec) (s : State) :
    RevotesWithin 66 s (Machine.applyRing r cause new s) := by
  intro hr hv
  have sound := votersSound_iff.1 hv
  have same := applyRing_sameBut r cause new s
  have voters : (Machine.applyRing r cause new s).1.voters = s.voters := same .voters (by simp)
  have work : (Machine.applyRing r cause new s).1.work = s.work := same .work (by simp)
  have coverage (ch : ChannelNo) : coverageOf (Machine.applyRing r cause new s).1 ch = coverageOf s ch :=
    coverageOf_congr work (same .plans (by simp)) ch
  have hands := applyRing_hands r cause new s
  have weight : ((Machine.applyRing r cause new s).2.map HandOver.fullWeight).sum ≤ 66 := by
    rw [hands, fullWeight_sum fun h hm => (ringHands_aside s _ h hm).1]
    exact ringHands_weight ..
  refine .inr ⟨⟨same .clock (by simp), by rw [work], voters, hr.congr (same .breakin (by simp)) (by rw [work]), fun h hm => ?_,
    fun ch _ => ?_, fun ch => ?_, weight.trans (by decide)⟩, weight⟩
  · rw [hands] at hm
    exact (ringHands_aside s _ h hm).2
  · rw [voters, coverage, (sound ch).covers]
  · rw [voters, hands, mem_ringHands_candidates]
    by_cases concerned : fedChanged (s.rings.get r) new = true ∧ s.voters[ch].covers.get r = true
    · exact .inr (.inl concerned)
    · refine .inr (.inr (applyRing_stands (sound ch) ?_))
      rwa [not_and_or, Bool.not_eq_true, Bool.not_eq_true] at concerned

theorem RevotesWithin.feedEvent (r : Ring) (cause : FeedCause) (judged : List UnitNo) (s : State) :
    RevotesWithin 66 s (Machine.feedEvent r cause judged s) := .applyRing r cause _ s

/-! ### A Catalogue record (R7, R108) -/

/-- The carrier of a rescue channel, as the first record that is one. -/
theorem rescueCarrier_eq (s : State) (ch : ChannelNo) : rescueCarrier s ch = (List.finRange 24).find? fun c =>
    s.work.catalogue[c].any fun r => decide (r.kind = .rescue) && decide (r.channel = some ch) := by
  refine congrArg (fun f => (List.finRange 24).find? f) (funext fun c => ?_)
  cases s.work.catalogue[c] <;> rfl

/-- A record of another channel before and after is no channel's carrier. -/
theorem rescueCarrier_set {s : State} {c : CarrierNo} {new : Option Carrier} {ch : ChannelNo}
    (old : ¬∃ y, s.work.catalogue[c] = some y ∧ y.channel = some ch) (none : ¬∃ y, new = some y ∧ y.channel = some ch) :
    rescueCarrier (s.setCatalogue (s.work.catalogue.set c new)) ch = rescueCarrier s ch := by
  have foreign {o : Option Carrier} (h : ¬∃ y, o = some y ∧ y.channel = some ch) :
      (o.any fun r => decide (r.kind = .rescue) && decide (r.channel = some ch)) = false :=
    Bool.eq_false_iff.2 fun ha => by
      obtain ⟨y, hy, hc⟩ := (Option.any_eq_true _ _).1 ha
      exact h ⟨y, hy, of_decide_eq_true (Bool.and_eq_true_iff.1 hc).2⟩
  rw [rescueCarrier_eq, rescueCarrier_eq]
  refine congrArg (fun f => (List.finRange 24).find? f) (funext fun d => ?_)
  simp only [State.setCatalogue, vector_get_set]
  split
  next hd => rw [hd, foreign none, foreign old]
  next => rfl

theorem Revotes.changeCarrier (c : CarrierNo) (new : Option Carrier) (s : State) :
    Revotes s (Machine.changeCarrier c new s) := by
  intro hr hv
  have hands : (Machine.changeCarrier c new s).2 = catalogueHands s.work.catalogue[c] new := rfl
  have catalogued := catalogueHands_ofCatalogue s.work.catalogue[c] new
  have aside {h : HandOver} (hk : h.ofCatalogue) : h ≠ .activation ∧ (∀ ch outs, h ≠ .block ch outs) ∧
      (∀ ch, h ≠ .baseKey ch) ∧ ∀ ch, h ≠ .candidates ch := by
    cases h <;> simp_all [HandOver.ofCatalogue]
  refine .inr ⟨rfl, rfl, rfl, hr.congr rfl rfl, fun h hm => ?_, fun ch hm => ?_, fun ch => ?_, ?_⟩
  · obtain ⟨-, block, key, -⟩ := aside (catalogued h hm)
    exact ⟨block, key⟩
  · exact absurd rfl ((aside (catalogued _ hm)).2.2.2 ch)
  · rw [hands, coverage_mem_catalogueHands]
    by_cases concerned : (∃ y, s.work.catalogue[c] = some y ∧ y.channel = some ch) ∨ ∃ y, new = some y ∧ y.channel = some ch
    · exact .inl concerned
    · obtain ⟨old, none⟩ := not_or.1 concerned
      obtain ⟨covers, cands, source⟩ := votersSound_iff.1 hv ch
      refine .inr (.inr ⟨covers.trans ?_, cands, source⟩)
      have := rescueCarrier_set (s := s) old none
      rw [coverageOf, coverageOf, Machine.changeCarrier, this]
      rfl
  · rw [hands, fullWeight_sum fun h hm => (aside (catalogued h hm)).1]
    exact catalogueHands_weight ..

/-! ### An activation (R154) -/

theorem activationHands_fullWeight : (activationHands.map HandOver.fullWeight).sum = 177 := by decide

theorem RevotesWithin.activate (p : PlanNo) (stack : List PlanNo) (cause : ActivationCause) (source : ActivationSource)
    (trigger : Option TriggerNo) (s : State) : RevotesWithin 177 s (Machine.activate p stack cause source trigger s) := by
  intro hr hv
  have posts := post_sameBut { s with plans := ⟨p, ⟨cause, some source, trigger, sinceReset s⟩, stack⟩ }
    (planChangedNote s.plans.active ⟨p, ⟨cause, some source, trigger, sinceReset s⟩, stack⟩)
  have hands : ∀ h ∈ activationHands, (∀ ch outs, h ≠ .block ch outs) ∧ (∀ ch, h ≠ .baseKey ch) ∧ ∀ ch, h ≠ .candidates ch := by
    intro h hm
    simp only [activationHands, allocEverywhere, List.mem_append, List.mem_map, List.mem_singleton] at hm
    rcases hm with ((⟨_, -, rfl⟩ | ⟨_, -, rfl⟩) | ⟨_, -, rfl⟩) | rfl <;> simp
  refine .inr ⟨⟨posts .clock (by simp), ?_, posts .voters (by simp), hr.congr (posts .breakin (by simp)) ?_, fun h hm => ?_,
    fun ch hm => absurd rfl ((hands _ hm).2.2 ch), fun ch => .inl ?_, ?_⟩, activationHands_fullWeight.le⟩
  · exact congrArg Store.voters (posts .work (by simp))
  · exact congrArg Store.plans (posts .work (by simp))
  · obtain ⟨block, key, -⟩ := hands h hm
    exact ⟨block, key⟩
  · simp [Machine.activate, activationHands]
  · exact activationHands_fullWeight.le.trans (by decide)

end Sys2Proof.Machine
end

section
/-! SUPPORT. What the operations of the span ports, the beacons, the buffers and the rings do to the voters (chapters 2 and 3). -/

namespace Sys2Proof.Machine

open Sys2Proof

/-! ### Rings (chapter 3) -/

theorem Revotes.feedEvent (r : Ring) (cause : FeedCause) (judged : List UnitNo) (s : State) :
    Revotes s (Machine.feedEvent r cause judged s) := (RevotesWithin.feedEvent r cause judged s).revotes

theorem Revotes.restoreEvent (r : Ring) (cause : FeedCause) (s : State) : Revotes s (Machine.restoreEvent r cause s) := by
  unfold Machine.restoreEvent
  dsimp only
  split
  · exact .refl s _
  · exact (RevotesWithin.applyRing r cause _ s).revotes

theorem Revotes.restoreTimeChanged (r : Ring) (s : State) : Revotes s (Machine.restoreTimeChanged r s) := by
  unfold Machine.restoreTimeChanged
  split
  · split
    · exact .restoreEvent r .restore s
    · exact .refl s _
  · exact .refl s _

/-! ### Span ports (chapter 2) -/

theorem Revotes.leaveUp (p : SpanPort) (cause : DownCause) (next : Span → Span) (s : State) :
    Revotes s (Machine.leaveUp p cause next s) :=
  .after ((Still.setSpan s p _).trans (.post _ _)) (.feedEvent _ _ _ _)

theorem Revotes.enterUp (p : SpanPort) (g : Grade) (m : LinkMode) (partner : Partner) (s : State) :
    Revotes s (Machine.enterUp p g m partner s) :=
  .after ((Still.setSpan s p _).trans (.post _ _)) (.feedEvent _ _ _ _)

theorem Still.failAttempt (p : SpanPort) (fault : Option (LinkFault × List Field)) (s : State) :
    Still s (Machine.failAttempt p fault s).1 := by
  unfold Machine.failAttempt
  dsimp only
  split
  · exact .setSpan s p _
  · split
    · exact .setSpan s p _
    · exact (Still.setSpan s p _).trans (.post _ _)

theorem Revotes.failAttempt (p : SpanPort) (fault : Option (LinkFault × List Field)) (s : State) :
    Revotes s (Machine.failAttempt p fault s) := .of_still (.failAttempt p fault s)

theorem Still.breakEnded (p : SpanPort) (s : State) : Still s (Machine.breakEnded p s) := by
  unfold Machine.breakEnded
  dsimp only
  split
  · exact .setSpan s p _
  · exact .refl s

theorem Revotes.resolve (p : SpanPort) (theirs : GradeSet) (identity : Nat) (s : State) :
    Revotes s (Machine.resolve p theirs identity s) := by
  unfold Machine.resolve
  split
  · exact .enterUp _ _ _ _ s
  · exact .failAttempt _ _ s

theorem Revotes.advertised (p : SpanPort) (theirs : GradeSet) (ack : Bool) (identity : Nat) (s : State) :
    Revotes s (Machine.advertised p theirs ack identity s) := by
  unfold Machine.advertised
  dsimp only
  split
  · exact .leaveUp _ _ _ s
  · split
    · exact .after (.setSpan s p _) (.resolve _ _ _ _)
    · exact .of_still (.setSpan s p _)
  · exact .refl s _

theorem Revotes.patternSeen (p : SpanPort) (pattern : IdlePattern) (s : State) :
    Revotes s (Machine.patternSeen p pattern s) := by
  unfold Machine.patternSeen
  dsimp only
  split
  · split
    · exact .refl s _
    · exact .leaveUp _ _ _ s
  · split
    · exact .refl s _
    · split <;> exact .of_still (.setSpan s p _)
  · exact .refl s _

theorem Revotes.parallelUp (p : SpanPort) (pattern : IdlePattern) (s : State) :
    Revotes s (Machine.parallelUp p pattern s) := by
  unfold Machine.parallelUp
  split
  · exact .enterUp _ _ _ _ s
  · exact .failAttempt _ _ s

theorem Revotes.advertiseEnded (p : SpanPort) (s : State) : Revotes s (Machine.advertiseEnded p s) := by
  unfold Machine.advertiseEnded
  dsimp only
  split
  · split
    · exact .failAttempt _ _ s
    · split
      · exact .failAttempt _ _ s
      · exact .parallelUp _ _ s
      · exact .parallelUp _ _ s
      · exact .failAttempt _ _ s
  · exact .refl s _

theorem Still.endTest (p : SpanPort) (t : SpanTest) (ending : TestEnding) (next : Span → Span) (s : State) :
    Still s (Machine.endTest p t ending next s) :=
  (Still.setSpan s p _).trans (.post _ _)

theorem Still.stopTest (p : SpanPort) (ending : TestEnding) (cond : SpanTest → Bool) (s : State) :
    Still s (Machine.stopTest p ending cond s) := by
  unfold Machine.stopTest
  split
  · split
    · exact .endTest _ _ _ _ s
    · exact .refl s
  · exact .refl s

theorem Still.testLocked (p : SpanPort) (s : State) : Still s (Machine.testLocked p s) := by
  unfold Machine.testLocked
  dsimp only
  split
  · exact .setSpan s p _
  · exact .refl s

theorem Still.testError (p : SpanPort) (s : State) : Still s (Machine.testError p s) := by
  unfold Machine.testError
  dsimp only
  split
  · split
    · exact .setSpan s p _
    · exact .refl s
  · exact .refl s

theorem Revotes.signalLost (p : SpanPort) (s : State) : Revotes s (Machine.signalLost p s) := by
  unfold Machine.signalLost
  dsimp only
  split
  · exact .after (.setSpan s p _) (.leaveUp _ _ _ _)
  · exact .of_still ((Still.setSpan s p _).trans (.stopTest _ _ _ _))
  · exact .of_still (.setSpan s p _)

/-! ### Beacons (R30 to R33) -/

theorem Revotes.handBeacon (q : Position) (b : Beacon) (s : State) : Revotes s (Machine.handBeacon q b s) := by
  unfold Machine.handBeacon
  dsimp only
  refine RevotesWithin.handing (n := 66) ?_ (fun h hm => ?_) ?_
  · split
    · exact .after ((Still.setBeacon s q _).trans (.postAll _ _)) (.feedEvent _ _ _ _)
    · exact .of_calm ((Still.setBeacon s q _).trans (.postAll _ _)).calm
  · split at hm
    · obtain rfl := List.mem_singleton.1 hm
      trivial
    · cases hm
  · split
    · exact (by decide : 66 + 1 ≤ settleFuel)
    · exact (by decide : 66 + 0 ≤ settleFuel)

theorem Revotes.beaconArrived (p : SpanPort) (b : Beacon) (s : State) : Revotes s (Machine.beaconArrived p b s) := by
  unfold Machine.beaconArrived
  dsimp only
  split
  · split
    · exact .handBeacon _ _ s
    · exact .of_still (.setSpan s p _)
  · exact .refl s _

theorem Revotes.silenceEnded (q : Position) (s : State) : Revotes s (Machine.silenceEnded q s) := by
  unfold Machine.silenceEnded
  dsimp only
  split
  · exact .after ((Still.setBeacon s q _).trans (.post _ _)) (.feedEvent _ _ _ _)
  · exact .refl s _

/-! ### The elasticity buffer (R34 to R37) -/

theorem Still.slipAt (p : SpanPort) (b : Buffer) (s : State) : Still s (Machine.slipAt p b s) := by
  unfold Machine.slipAt
  dsimp only
  split
  · exact (Still.setSpan s p _).trans (.post _ _)
  · exact .setSpan s p _

theorem Still.blockArrived (p : SpanPort) (block : UplinkBlock) (s : State) : Still s (Machine.blockArrived p block s) := by
  unfold Machine.blockArrived
  dsimp only
  split
  · split
    · split
      · exact .setSpan s p _
      · exact .slipAt _ _ s
    · exact .setSpan s p _
  · exact .refl s

theorem Revotes.blockTicked (s : State) : Revotes s (Machine.blockTicked s) := by
  rw [blockTicked_eq]
  exact .of_still (.of_sameBut (tickPorts_sameBut s) (by simp))

theorem Still.thresholdChanged (p : SpanPort) (s : State) : Still s (Machine.thresholdChanged p s) := by
  unfold Machine.thresholdChanged
  dsimp only
  split
  · exact .setSpan s p _
  · exact .refl s

end Sys2Proof.Machine
end

section
/-! SUPPORT. What the operations of the reference unit, the voters, the break-in unit, the plan unit, the contacts and the control
watch do to the voters (chapters 4, 7 to 10). -/

namespace Sys2Proof.Machine

open Sys2Proof

/-! ### The reference unit (chapter 4) -/

theorem Still.enterRef (new : RefRec) (cause : RefCause) (s : State) : Still s (Machine.enterRef new cause s).1 :=
  .of_sameBut (enterRef_sameBut new cause s) (by simp)

theorem Still.passOnFree (s : State) : Still s (Machine.passOnFree s).1 := .of_sameBut (passOnFree_sameBut s) (by simp)

theorem Still.enterFree (cause : RefCause) (s : State) : Still s (Machine.enterFree cause s).1 :=
  .of_sameBut (enterFree_sameBut cause s) (by simp)

theorem Still.passOnHoldover (cause : RefCause) (s : State) : Still s (Machine.passOnHoldover cause s).1 :=
  .of_sameBut (passOnHoldover_sameBut cause s) (by simp)

theorem Still.enterHoldover (forced : Bool) (cause : RefCause) (s : State) :
    Still s (Machine.enterHoldover forced cause s).1 :=
  .of_sameBut (enterHoldover_sameBut forced cause s) (by simp)

theorem Still.settingsEvent (preferred limit : Bool) (s : State) : Still s (Machine.settingsEvent preferred limit s).1 :=
  .of_sameBut (settingsEvent_sameBut preferred limit s) (by simp)

theorem Still.sourceSignal (src : Source) (valid : Bool) (s : State) : Still s (Machine.sourceSignal src valid s) :=
  .ite (.refl s) (.setReference s _)

theorem Still.warmupEnded (s : State) : Still s (Machine.warmupEnded s).1 := by
  unfold Machine.warmupEnded
  split
  · split <;> exact .enterRef _ _ s
  · exact .refl s

theorem Still.appeared (src : Source) (s : State) : Still s (Machine.appeared src s).1 := by
  have alternate : Still s (if src = s.preferred ∧ s.reference.selected = some (Source.other src) then
      Machine.enterRef (s.reference.toMeasuring .acquire src s.now) .switch s else (s, [])).1 := by
    split
    · exact .enterRef _ _ s
    · exact .refl s
  unfold Machine.appeared
  split
  · exact .refl s
  · exact .passOnFree s
  · exact alternate
  · exact alternate
  · exact .setReference s _
  · exact .passOnHoldover _ s

theorem Still.sourceAppears (src : Source) (s : State) : Still s (Machine.sourceAppears src s).1 := by
  unfold Machine.sourceAppears
  dsimp only
  split
  · exact .sourceSignal _ _ s
  · exact (Still.sourceSignal _ _ s).trans <| (Still.setReference _ _).trans (.appeared _ _)

theorem Still.vanished (src : Source) (s : State) : Still s (Machine.vanished src s).1 := by
  have lost : Still s (if s.reference.selected = some src then Machine.enterFree .sourceLost s else (s, [])).1 := by
    split
    · exact .enterFree _ s
    · exact .refl s
  unfold Machine.vanished
  split
  · exact .refl s
  · exact .refl s
  · exact .refl s
  · exact lost
  · exact lost
  · split
    · exact .enterHoldover _ _ s
    · exact .setReference s _

theorem Still.sourceVanishes (src : Source) (s : State) : Still s (Machine.sourceVanishes src s).1 := by
  unfold Machine.sourceVanishes
  dsimp only
  split
  · exact (Still.sourceSignal _ _ s).trans <| (Still.setReference _ _).trans (.vanished _ _)
  · exact .sourceSignal _ _ s

theorem Still.measured (e : Int) (s : State) : Still s (Machine.measured e s).1 := by
  have move (new : RefRec) (r : RefRec) (c : Prop) [Decidable c] :
      Still s (if c then Machine.enterRef new .measure s else ({ s with reference := r }, [])).1 := by
    split
    · exact .enterRef _ _ s
    · exact .setReference s _
  unfold Machine.measured
  split
  · exact .refl s
  · dsimp only
    split
    · split
      · exact move _ _ _
      · exact .setReference s _
    · split
      · exact move _ _ _
      · split
        · exact .setReference s _
        · exact move _ _ _
    · split
      · exact .setReference s _
      · exact move _ _ _
    · exact .refl s

theorem Still.switchEnded (s : State) : Still s (Machine.switchEnded s).1 := by
  unfold Machine.switchEnded
  split
  · exact .enterRef _ _ s
  · exact .refl s

theorem Still.holdoverEnded (s : State) : Still s (Machine.holdoverEnded s).1 := by
  unfold Machine.holdoverEnded
  split
  · exact .enterFree _ s
  · exact .refl s

/-! ### Voters (chapter 7) -/

theorem Calm.hangEnd (ch : ChannelNo) (s : State) : Calm s (Machine.hangEnd ch s).1 := by
  unfold Machine.hangEnd
  dsimp only
  split
  · exact .setVoterState _ ⟨rfl, rfl, nofun⟩
  · exact .refl s

theorem Calm.keyLimit (ch : ChannelNo) (s : State) : Calm s (Machine.keyLimit ch s).1 := by
  unfold Machine.keyLimit
  dsimp only
  split
  · refine (Still.post s _).calm.trans (.setVoterState _ ?_)
    exact endTalk_stands _ ch _
  · exact .refl s

theorem Calm.consoleKeyed (ch : ChannelNo) (s : State) : Calm s (Machine.consoleKeyed ch s).2.1 := by
  unfold Machine.consoleKeyed
  dsimp only
  split
  · exact .refl s
  · exact .setVoterState _ (.of_kept rfl rfl rfl)

theorem Calm.consoleUnkeyed (ch : ChannelNo) (s : State) : Calm s (Machine.consoleUnkeyed ch s).2.1 := by
  unfold Machine.consoleUnkeyed
  dsimp only
  split
  · exact .setVoterState _ (endTalk_stands s ch _)
  · exact .refl s

/-! ### The break-in unit (chapter 8) -/

theorem Calm.pageEnded (p : PlayerNo) (s : State) : Calm s (Machine.pageEnded p s).1 := by
  unfold Machine.pageEnded
  split
  · exact .refl s
  · split
    · exact .refl s
    · dsimp only
      split <;> exact .setBreakin s _

/-! ### The plan unit (chapter 9) -/

theorem RevotesWithin.carryOut (s : State) (t : TriggerNo) (source : ActivationSource) :
    RevotesWithin 177 s (Machine.carryOut s t source) := .activate _ _ _ _ _ s

theorem RevotesWithin.invokeFrom (s : State) (t : TriggerNo) (by_ : Invoker) :
    RevotesWithin 177 s (Machine.invokeFrom s t by_).2 := by
  obtain ⟨-, ⟨-, h⟩ | ⟨-, h⟩ | ⟨-, -, h⟩⟩ := invokeFrom_cases s t by_
  · rw [h]
    exact .carryOut s t _
  · rw [h]
    exact .of_calm (.refl s)
  · rw [h]
    exact .of_calm (Still.post s _).calm

/-! ### Contacts and the control watch (R157 to R160, R175) -/

/-- A record posted behind an activation. -/
theorem RevotesWithin.posting {s : State} {y : Handed} (h : RevotesWithin 177 s y) (n : Note) :
    Revotes s (y.1, y.2 ++ [.posts [n]]) :=
  h.handing (fun k hk => List.mem_singleton.1 hk ▸ trivial) (by decide : 177 + 1 ≤ settleFuel)

theorem Revotes.contactActivated (c : ContactNo) (s : State) : Revotes s (Machine.contactActivated c s) := by
  unfold Machine.contactActivated
  split
  · exact .refl s _
  · exact (RevotesWithin.invokeFrom s _ _).posting _

/-- A stack without one of its plans leaves what stands (R159). -/
theorem Calm.setStack (s : State) (stack : List PlanNo) : Calm s { s with plans := { s.plans with stack := stack } } where
  inputs := ⟨fun _ => rfl, fun _ => rfl⟩
  voters _ := .refl _

theorem RevotesWithin.withdrawPlan (c : ContactNo) (t : TriggerNo) (p : PlanNo) (s : State) :
    RevotesWithin 177 s (Machine.withdrawPlan c t p s).2 := by
  unfold Machine.withdrawPlan
  split
  · split
    · exact .activate _ _ _ _ _ s
    · exact .of_calm (.refl s)
  · split
    · exact .of_calm (.setStack s _)
    · exact .of_calm (.refl s)

theorem Revotes.contactReleased (c : ContactNo) (s : State) : Revotes s (Machine.contactReleased c s) := by
  unfold Machine.contactReleased
  refine RevotesWithin.posting ?_ _
  split
  · split
    · exact .withdrawPlan _ _ _ s
    · exact .of_calm (.refl s)
  · exact .of_calm (.refl s)

theorem Revotes.judgeContact (c : ContactNo) (s : State) : Revotes s (Machine.judgeContact c s) := by
  unfold Machine.judgeContact
  dsimp only
  split
  · exact .after (.setContact s c _) (.contactActivated _ _)
  · exact .after (.setContact s c _) (.contactActivated _ _)
  · exact .after (.setContact s c _) (.contactReleased _ _)
  · exact .of_still (.setContact s c _)

theorem Still.rawLevel (c : ContactNo) (level : Level) (s : State) : Still s (Machine.rawLevel c level s) :=
  .ite (.refl s) (.setContact s c _)

theorem Revotes.debounced (c : ContactNo) (s : State) : Revotes s (Machine.debounced c s) := by
  unfold Machine.debounced
  dsimp only
  split
  · exact .after (.setContact s c _) (.judgeContact _ _)
  · exact .refl s _

theorem Revotes.watchExpired (s : State) : Revotes s (Machine.watchExpired s) := by
  unfold Machine.watchExpired
  split
  · split
    · exact .refl s _
    · dsimp only
      split
      · exact .after (.setWatch s _) ((RevotesWithin.invokeFrom _ _ _).posting _)
      · exact .of_still (.setWatch s _)
  · exact .refl s _

end Sys2Proof.Machine
end

section
/-! SUPPORT. What each request does to the voters (R108, R109, R114). -/

namespace Sys2Proof.Machine

open Sys2Proof

/-- The state of a request's result with what it hands on. -/
def Result.handed (x : Result) : Handed := (x.state, x.hands)

@[simp] theorem done_handed (a : Answer) (p : List Field) (x : Handed) : (done a p x).handed = x := rfl
@[simp] theorem written_handed (key : StoreKey) (a : Answer) (p : List Field) (x : Handed) :
    (written key a p x).handed = x := rfl

theorem Revotes.of_refuse (s : State) (a : Answer) : Revotes s (refuse s a).handed := .refl s []

/-! ### Span ports and rings (chapters 2 and 3) -/

theorem Revotes.ringRevert (ring : Nat) (s : State) : Revotes s (Machine.ringRevert ring s).handed := by
  unfold Machine.ringRevert
  split
  · exact .of_refuse s _
  · split
    · exact .of_refuse s _
    · exact .restoreEvent _ _ s

theorem Revotes.portRenegotiate (port : Nat) (s : State) : Revotes s (Machine.portRenegotiate port s).handed := by
  unfold Machine.portRenegotiate
  split
  next => exact .of_refuse s _
  next p _ =>
    dsimp only
    split
    · exact .of_refuse s _
    · exact .of_refuse s _
    · exact .of_still (.setSpan s p _)
    · exact .of_still (.setSpan s p _)
    · rw [done_handed]
      exact .leaveUp p _ _ s

theorem Revotes.portDisable (port : Nat) (s : State) : Revotes s (Machine.portDisable port s).handed := by
  unfold Machine.portDisable
  split
  next => exact .of_refuse s _
  next p _ =>
    dsimp only
    split
    · exact .refl s _
    · exact .of_still (.setSpan s p _)
    · exact .of_still (.setSpan s p _)
    · simp only [done_handed]
      exact .leaveUp p _ _ s
    · split <;> simp only [done_handed]
      · exact .of_still (.endTest p _ _ _ s)
      · exact .of_still (.setSpan s p _)

theorem Still.portEnable (port : Nat) (s : State) : Still s (Machine.portEnable port s).state := by
  unfold Machine.portEnable
  split
  · exact .refl s
  · dsimp only
    split
    · exact .setSpan s _ _
    · exact .refl s

theorem Revotes.portConfig (a : PortConfigArgs) (s : State) : Revotes s (Machine.portConfig a s).handed := by
  have settings (r : Ring) (x : RingSettings) : Still s (s.setSettings r x) := ⟨rfl, rfl, rfl, rfl, rfl, rfl, rfl, rfl⟩
  unfold Machine.portConfig
  split
  next => exact .of_refuse s _
  next p _ =>
    split
    · exact .of_refuse s _
    · split
      · exact .of_refuse s _
      · split
        · exact .of_refuse s _
        · dsimp only [written_handed]
          have threshold (c : Prop) [Decidable c] (u : State) : Still u (if c then u else Machine.thresholdChanged p u) :=
            .ite (.refl u) (.thresholdChanged p u)
          split
          · exact .of_still ((settings _ _).trans (threshold _ _))
          · exact .after ((settings _ _).trans (threshold _ _)) (.restoreTimeChanged _ _)

theorem Revotes.spanTestStart (a : SpanTestArgs) (s : State) : Revotes s (Machine.spanTestStart a s).handed := by
  unfold Machine.spanTestStart
  split
  next => exact .of_refuse s _
  next p _ =>
    split
    · dsimp only
      split
      · exact .of_refuse s _
      · split
        · exact .of_refuse s _
        · rw [done_handed]
          split
          · exact .leaveUp p _ _ s
          · exact .of_still (.setSpan s p _)
    · exact .of_refuse s _

theorem Still.spanTestStop (port : Nat) (s : State) : Still s (Machine.spanTestStop port s).state := by
  unfold Machine.spanTestStop
  split
  next => exact .refl s
  next p _ =>
    split
    · exact .refl s
    · simp only [done_state]
      exact .endTest p _ _ _ s

/-! ### The reference unit and the voters (chapters 4 and 7) -/

theorem Still.refConfig (a : RefConfigArgs) (s : State) : Still s (Machine.refConfig a s).state := by
  have settings (x : RefSettings) : Still s { s with work := { s.work with reference := x } } :=
    ⟨rfl, rfl, rfl, rfl, rfl, rfl, rfl, rfl⟩
  unfold Machine.refConfig
  split
  · exact .refl s
  · split
    · exact .refl s
    · exact (settings _).trans (.settingsEvent _ _ _)

theorem Still.refForceHoldover (s : State) : Still s (Machine.refForceHoldover s).state := by
  unfold Machine.refForceHoldover
  split
  · exact .enterHoldover _ _ s
  · exact .refl s

theorem Still.refResume (s : State) : Still s (Machine.refResume s).state := by
  unfold Machine.refResume
  split
  · exact (Still.setReference s _).trans (.passOnHoldover _ _)
  · exact .refl s

theorem Calm.portalTalk (port : MgmtPort) (channel : Nat) (s : State) (act : ChannelNo → State → Answer × Handed)
    (h : ∀ ch, Calm s (act ch s).2.1) : Calm s (Machine.portalTalk port channel s act).state := by
  unfold Machine.portalTalk
  split
  · exact .refl s
  · exact .refl s
  · exact h _

theorem Calm.voterConfig (a : VoterConfigArgs) (s : State) : Calm s (Machine.voterConfig a s).state := by
  unfold Machine.voterConfig
  split
  · exact .refl s
  · split
    · exact .refl s
    · exact ⟨.of_same rfl rfl rfl rfl, fun _ => .refl _⟩

/-! ### The break-in unit and the clips (chapter 8) -/

theorem Calm.breakinPost (port : MgmtPort) (a : BreakInArgs) (s : State) : Calm s (Machine.breakinPost port a s).state := by
  unfold Machine.breakinPost
  split
  · exact .refl s
  · split
    · exact .refl s
    · split
      · exact .refl s
      · exact .setBreakin s _

theorem Calm.breakinWithdraw (authority : Authority) (id : Nat) (s : State) :
    Calm s (Machine.breakinWithdraw authority id s).state := by
  unfold Machine.breakinWithdraw
  split
  · exact .refl s
  · split
    · exact .refl s
    · split
      · exact .refl s
      · exact .setBreakin s _

theorem Calm.zoneSet (a : ZoneSetArgs) (s : State) : Calm s (Machine.zoneSet a s).state := by
  have zone (z : ZoneNo) (members : List Position) : Calm s (withZone s z members) := ⟨.of_same rfl rfl rfl rfl, fun _ => .refl _⟩
  have changed (z : ZoneNo) (members : List Position) : Calm s (changeZone z members s).1 := by
    unfold Machine.changeZone
    dsimp only
    split
    · exact (zone z members).trans (.setBreakin _ _)
    · exact zone z members
  unfold Machine.zoneSet
  split
  · dsimp only
    split
    · exact .refl s
    · split
      · exact .refl s
      · exact changed _ _
  · exact .refl s

theorem Still.setClip (s : State) (c : ClipNo) (x : Clip) : Still s (s.setClip c x) := ⟨rfl, rfl, rfl, rfl, rfl, rfl, rfl, rfl⟩

theorem Still.clipOpen (clip pages : Nat) (s : State) : Still s (Machine.clipOpen clip pages s).state := by
  unfold Machine.clipOpen
  split
  · exact .refl s
  · split
    · exact .refl s
    · split
      · exact .refl s
      · split
        · exact .refl s
        · dsimp only
          split
          · exact .refl s
          · exact .setClip s _ _

theorem Still.clipPage (clip index : Nat) (payload : List Byte) (s : State) :
    Still s (Machine.clipPage clip index payload s).state := by
  unfold Machine.clipPage
  split
  · exact .refl s
  · split
    · exact .refl s
    · dsimp only
      split
      · exact .refl s
      · split <;> exact .refl s
      · split
        · exact ⟨rfl, rfl, rfl, rfl, rfl, rfl, rfl, rfl⟩
        · split <;> exact .refl s

theorem Still.clipDelete (clip : Nat) (s : State) : Still s (Machine.clipDelete clip s).state := by
  unfold Machine.clipDelete
  split
  · exact .refl s
  · split
    · exact .refl s
    · split
      · exact .refl s
      · split
        · exact .refl s
        · exact .setClip s _ _

/-! ### Carriers and remote units (R4, R5, R9, R10) -/

theorem Revotes.carrierSet (a : CarrierSetArgs) (s : State) : Revotes s (Machine.carrierSet a s).handed := by
  unfold Machine.carrierSet
  split
  · split
    · exact .of_refuse s _
    · split
      · exact .of_refuse s _
      · split
        · exact .of_refuse s _
        · split
          · exact .of_refuse s _
          · dsimp only
            split
            · exact .of_refuse s _
            · split
              · exact .of_refuse s _
              · exact .changeCarrier _ _ s
  · exact .of_refuse s _

theorem Revotes.carrierClear (carrier : Nat) (s : State) : Revotes s (Machine.carrierClear carrier s).handed := by
  unfold Machine.carrierClear
  split
  · exact .of_refuse s _
  · split
    · exact .of_refuse s _
    · split
      · exact .of_refuse s _
      · split
        · exact .refl s _
        · exact .changeCarrier _ none s

theorem Still.recommission (p : Position) (old new : RuRecord) (s : State) : Still s (Machine.recommission p old new s) := by
  unfold Machine.recommission
  split
  · exact .setBeacon s p _
  · exact .setBeacon s p _
  · exact .refl s

theorem RevotesWithin.unitFed (p : Position) (old new : RuRecord) (before : Bool) (s : State) :
    RevotesWithin 66 s (Machine.unitFed p old new before s) := by
  have judged (c : Prop) [Decidable c] (e : Note) : Still s (if c then s.post e else s) := .ite (.post s e) (.refl s)
  unfold Machine.unitFed
  dsimp only
  split
  · exact .after (judged _ _) (.feedEvent _ _ _ _)
  · exact .of_calm (judged _ _).calm

theorem Revotes.changeUnit (p : Position) (new : RuRecord) (s : State) : Revotes s (Machine.changeUnit p new s) := by
  have set : Still s (s.setUnit p new) := ⟨rfl, rfl, rfl, rfl, rfl, rfl, rfl, rfl⟩
  refine RevotesWithin.handing (.after (set.trans (.recommission p _ new _)) (.unitFed p _ new _ _)) (fun h hm => ?_) ?_
  all_goals unfold unitModel at *
  · split at hm
    · exact List.mem_singleton.1 hm ▸ trivial
    · cases hm
  · split
    · exact (by decide : 66 + 1 ≤ settleFuel)
    · exact (by decide : 66 + 0 ≤ settleFuel)

theorem Revotes.ruSet (a : RuSetArgs) (s : State) : Revotes s (Machine.ruSet a s).handed := by
  unfold Machine.ruSet
  split
  · exact .of_refuse s _
  · split
    · exact .of_refuse s _
    · dsimp only
      split
      · exact .of_refuse s _
      · exact .changeUnit _ _ s

/-! ### Plans, triggers and contacts (chapters 9 and 10) -/

/-- A plan that is not active is no coverage's (R145). -/
theorem Calm.setPlan {s : State} {p : PlanNo} (x : Option PlanRecord) (h : s.plans.active ≠ p) : Calm s (s.setPlan p x) where
  inputs := by
    have plan : (s.setPlan p x).activePlan = s.activePlan := by
      rw [State.activePlan, State.activePlan, State.setPlan, vector_get_set, if_neg h]
    refine ⟨fun _ => rfl, fun ch => ?_⟩
    simp only [coverageOf, State.carriageList, plan]
    rfl
  voters _ := .refl _

theorem Calm.planLoad (plan : Nat) (record : Option PlanArgs) (s : State) : Calm s (Machine.planLoad plan record s).state := by
  unfold Machine.planLoad
  split
  · exact .refl s
  · split
    · exact .refl s
    · split
      next => exact .refl s
      next hstands =>
        obtain ⟨hactive, -⟩ := not_or.1 hstands
        split
        · split
          · exact .refl s
          · exact .setPlan _ hactive
        · split
          · exact .refl s
          · exact .refl s
          · exact .refl s
          · exact .setPlan _ hactive

theorem Still.triggerSet (a : TriggerSetArgs) (s : State) : Still s (Machine.triggerSet a s).state := by
  unfold Machine.triggerSet
  split
  · split
    · exact .refl s
    · split
      · split
        · exact .refl s
        · exact ⟨rfl, rfl, rfl, rfl, rfl, rfl, rfl, rfl⟩
      · exact .refl s
  · exact .refl s

theorem Revotes.invoke (port : MgmtPort) (authority : Authority) (trigger : Nat) (s : State) :
    Revotes s (Machine.invoke port authority trigger s).handed := by
  unfold Machine.invoke
  split
  · exact .of_refuse s _
  · split
    · exact (RevotesWithin.carryOut s _ _).revotes
    · exact .refl s _
    · exact .of_refuse s _

theorem Revotes.standDown (port : MgmtPort) (authority : Authority) (s : State) :
    Revotes s (Machine.standDown port authority s).handed := by
  unfold Machine.standDown
  split
  · exact .of_refuse s _
  · split
    · exact .of_refuse s _
    · exact (RevotesWithin.activate _ _ _ _ _ s).revotes

theorem Revotes.standDownAll (port : MgmtPort) (s : State) : Revotes s (Machine.standDownAll port s).handed := by
  unfold Machine.standDownAll
  split
  · exact .of_refuse s _
  · exact (RevotesWithin.activate _ _ _ _ _ s).revotes

theorem Revotes.contactSet (a : ContactSetArgs) (s : State) : Revotes s (Machine.contactSet a s).handed := by
  have entry (c : ContactNo) (x : ContactEntry) : Still s (s.setContactEntry c x) := ⟨rfl, rfl, rfl, rfl, rfl, rfl, rfl, rfl⟩
  unfold Machine.contactSet
  split
  · split
    · exact .of_refuse s _
    · split
      · dsimp only [written_handed]
        split
        · exact .of_still (entry _ _)
        · exact .after (entry _ _) (.judgeContact _ _)
      · exact .of_refuse s _
  · exact .of_refuse s _

/-! ### Ports (R170, R174, R176) -/

theorem Still.permitSet (port : MgmtPort) (target : Nat) (groups : List Nat) (s : State) :
    Still s (Machine.permitSet port target groups s).state := by
  unfold Machine.permitSet
  split
  · split
    · exact .refl s
    · split
      · exact .refl s
      · exact ⟨rfl, rfl, rfl, rfl, rfl, rfl, rfl, rfl⟩
  · exact .refl s

theorem Still.watchSet (window : Int) (s : State) : Still s (Machine.watchSet window s).state := by
  unfold Machine.watchSet
  split
  · exact .refl s
  · exact ⟨rfl, rfl, rfl, rfl, rfl, rfl, rfl, rfl⟩

theorem Still.readEvents (port : MgmtPort) (s : State) : Still s (Machine.readEvents port s).state := .setMgmt s port _

/-! ### Requests -/

theorem Revotes.of_state_eq {s : State} {x : Result} (h : x.state = s) : Revotes s x.handed :=
  .of_calm (by rw [Result.handed, h]; exact .refl s)

theorem Revotes.of_stillness {s : State} {x : Result} (h : Still s x.state) : Revotes s x.handed := .of_still h

theorem Revotes.of_calmness {s : State} {x : Result} (h : Calm s x.state) : Revotes s x.handed := .of_calm h

/-- A request's kind-specific part concerns the voters by their judgement alone. -/
theorem Revotes.carry (port : MgmtPort) (authority : Authority) (r : Request) (s : State) :
    Revotes s (Machine.carry port authority r s).handed := by
  cases r with
  | hello | status | keepalive | restart | refStatus | breakinList | stackRead => exact .of_state_eq rfl
  | readEvents => exact .of_stillness (.readEvents port s)
  | permitSet target groups => exact .of_stillness (.permitSet port target groups s)
  | watchSet w => exact .of_stillness (.watchSet w s)
  | carrierGet c => exact .of_state_eq (carrierGet_state c s)
  | ruGet p => exact .of_state_eq (ruGet_state p s)
  | zoneGet z => exact .of_state_eq (zoneGet_state z s)
  | ruAllocation p => exact .of_state_eq (ruAllocation_state p s)
  | carrierSet a => exact .carrierSet a s
  | carrierClear c => exact .carrierClear c s
  | ruSet a => exact .ruSet a s
  | zoneSet a => exact .of_calmness (.zoneSet a s)
  | portStatus p => exact .of_state_eq (portStatus_state p s)
  | ringStatus r => exact .of_state_eq (ringStatus_state r s)
  | portRenegotiate p => exact .portRenegotiate p s
  | portConfig a => exact .portConfig a s
  | portEnable p => exact .of_stillness (.portEnable p s)
  | portDisable p => exact .portDisable p s
  | spanTestStart a => exact .spanTestStart a s
  | spanTestStop p => exact .of_stillness (.spanTestStop p s)
  | ringRevert r => exact .ringRevert r s
  | refConfig a => exact .of_stillness (.refConfig a s)
  | refForceHoldover => exact .of_stillness (.refForceHoldover s)
  | refResume => exact .of_stillness (.refResume s)
  | rescueStatus c => exact .of_state_eq (rescueStatus_state c s)
  | consoleKey c => exact .of_calmness (.portalTalk port c s _ fun ch => .consoleKeyed ch s)
  | consoleUnkey c => exact .of_calmness (.portalTalk port c s _ fun ch => .consoleUnkeyed ch s)
  | voterConfig a => exact .of_calmness (.voterConfig a s)
  | breakinPost a => exact .of_calmness (.breakinPost port a s)
  | breakinWithdraw n => exact .of_calmness (.breakinWithdraw authority n s)
  | clipList c => exact .of_state_eq (clipList_state c s)
  | clipOpen c n => exact .of_stillness (.clipOpen c n s)
  | clipPage c i payload => exact .of_stillness (.clipPage c i payload s)
  | clipDelete c => exact .of_stillness (.clipDelete c s)
  | planRead x => exact .of_state_eq (planRead_state x s)
  | invoke t => exact .invoke port authority t s
  | standDown => exact .standDown port authority s
  | standDownAll => exact .standDownAll port s
  | planLoad p x => exact .of_calmness (.planLoad p x s)
  | triggerSet a => exact .of_stillness (.triggerSet a s)
  | contactSet a => exact .contactSet a s

end Sys2Proof.Machine
end

section
/-! SUPPORT. What every step does to the voters: requests, events and resets (R108, R109, R114). -/

namespace Sys2Proof.Machine

open Sys2Proof

/-- What a step makes of a sound state's voters. -/
def Votes (s t : State) : Prop := Ready s → VotersSound s → VotersSound t ∧ RejudgedWhereChanged s t

theorem Calm.voting {s t : State} (h : Calm s t) : Votes s t := fun _ k => ⟨h.sound k, h.rejudged⟩

theorem Still.voting {s t : State} (h : Still s t) : Votes s t := h.calm.voting

theorem Votes.refl (s : State) : Votes s s := (Still.refl s).voting

/-- Before a step, what does not concern the voters. -/
theorem Votes.after {s u t : State} (h : Still s u) (k : Votes u t) : Votes s t := by
  intro hr hv
  obtain ⟨sound, judged⟩ := k (h.ready hr) (h.calm.sound hv)
  refine ⟨sound, fun ch => ?_⟩
  have := judged ch
  rwa [h.clock, h.hangs, h.voters] at this

theorem Revotes.voting {s : State} {f : State → Handed} (h : Revotes s (f s)) : Votes s (settled (f s)) := fun hr hv => h.votes hr hv

theorem Votes.inService {f : State → State} {s : State} (h : Votes s (f s)) : Votes s (Machine.inService f s) := by
  unfold Machine.inService
  split
  · exact .refl s
  · exact h

/-! ### Requests -/

theorem Revotes.conclude (port : MgmtPort) (tag kind : Byte) {s : State} {x : Result} (h : Revotes s x.handed) :
    Revotes s (Machine.conclude port tag kind x) := by
  have begun : Still x.state { x.state with inFlight := x.state.inFlight ++ x.writes.toList } :=
    ⟨rfl, rfl, rfl, rfl, rfl, rfl, rfl, rfl⟩
  exact h.then (begun.trans (.setMgmt _ port _))

/-- A request but RESTART concerns the voters by their judgement alone. -/
theorem Revotes.takeRequestOn (port : MgmtPort) (tag kind : Byte) {d : Decoded} (s : State) (h : d ≠ .request .restart) :
    Revotes s (Machine.takeRequestOn port tag kind d s) := by
  unfold Machine.takeRequestOn
  split
  · exact .conclude _ _ _ (.of_refuse s _)
  · exact .conclude _ _ _ (.of_refuse s _)
  next r =>
    split
    · exact .conclude _ _ _ (.of_refuse s _)
    · split
      next hr => exact absurd (congrArg Decoded.request hr.1) h
      next => exact .conclude _ _ _ (.carry _ _ _ s)

theorem Still.watchFrame (port : MgmtPort) (s : State) : Still s (Machine.watchFrame port s) :=
  .of_sameBut (watchFrame_sameBut port s) (by simp)

theorem Votes.receiveFrame (port : MgmtPort) (tag kind : Byte) {d : Decoded} (s : State) (h : d ≠ .request .restart) :
    Votes s (Machine.receiveFrame port tag kind d s) := by
  unfold Machine.receiveFrame
  split
  next =>
    unfold Machine.frameTaken
    dsimp only
    split
    next => exact Votes.after (.watchFrame port s) fun hr hv => (Revotes.takeRequestOn port tag kind _ h).votes hr hv
    next => exact Still.voting ((Still.watchFrame port s).trans (.setMgmt _ port _))
  next => exact .refl s

/-- The bytes of a RESTART have its kind (R178). -/
theorem kind_of_restart {kind : Nat} {payload : List Byte} (h : decodeRequest kind payload = .request .restart) :
    kind = 7 := by
  have taken (rest : List Byte) (h : takeRequest kind payload = some (some (.restart, rest))) : kind = 7 := by
    unfold takeRequest at h
    split at h
    case h_7 => rfl
    all_goals simp [Option.bind_eq_some_iff] at h
  unfold decodeRequest at h
  split at h
  next => cases h
  next r hr =>
    obtain rfl := Decoded.request.inj h
    exact taken [] hr
  next => cases h

/-! ### Store writes and ports (R15, R165 to R168) -/

theorem Still.completeWrite (key : StoreKey) (s : State) : Still s (Machine.completeWrite key s) := by
  cases key <;> exact ⟨rfl, rfl, rfl, rfl, rfl, rfl, rfl, rfl⟩

theorem Still.writeCompleted (key : StoreKey) (s : State) : Still s (Machine.writeCompleted key s) := by
  unfold Machine.writeCompleted
  split
  · exact (Still.completeWrite key s).trans ⟨rfl, rfl, rfl, rfl, rfl, rfl, rfl, rfl⟩
  · exact .refl s

theorem Still.closeExchange (port : MgmtPort) (midFrame : Bool) (s : State) : Still s (Machine.closeExchange port midFrame s) := by
  cases midFrame <;> exact ⟨rfl, rfl, rfl, rfl, rfl, rfl, rfl, rfl⟩

theorem Still.replySent (port : MgmtPort) (s : State) : Still s (Machine.replySent port s) := by
  unfold Machine.replySent
  dsimp only
  split
  · exact .setMgmt s port _
  · exact .refl s

/-! ### Events -/

/-- Every command that is no request and ends no reset leaves the voters sound, and judged where they change. -/
theorem Votes.event {c : Instr} (h : c.request? = none) (hc : ¬Resets c) {s t : State} (ht : exec c s = .next t) :
    Votes s t := by
  have caused (kind : ResetKind) : Votes s (beginReset kind s) :=
    Still.voting ⟨rfl, rfl, rfl, rfl, rfl, rfl, rfl, rfl⟩
  have inserted {f : State → State} (h : Still s (f s)) : Votes s (Machine.inService f s) := .inService h.voting
  have handed {f : State → Handed} (h : Revotes s (f s)) : Votes s (Machine.inService (fun u => settled (f u)) s) :=
    .inService h.voting
  have settles {f : State → Handed} (h : Still s (f s).1) : Votes s (settled (f s)) := (Revotes.of_still h).voting
  have calm {f : State → Handed} (h : Calm s (f s).1) : Votes s (Machine.inService (fun u => settled (f u)) s) :=
    handed (.of_calm h)
  cases c with
  | powerOn => cases ht; exact caused _
  | resetLine => cases ht; exact caused _
  | supplyDip => cases ht; exact caused _
  | resetEnd straps written => exact absurd trivial hc
  | exchangeOpen q => cases ht; exact (Still.setMgmt s q _).voting
  | portSync q => cases ht; exact inserted (.setMgmt s q _)
  | exchangeEnd q midFrame => cases ht; exact (Still.closeExchange q midFrame s).voting
  | framingFault q cause => cases ht; exact inserted (.setMgmt s q _)
  | requestFrameReceived q kind tag payload =>
    cases ht
    refine .receiveFrame q tag kind s fun hd => hc ?_
    exact BitVec.eq_of_toNat_eq (kind_of_restart hd)
  | replyClockedOut q => cases ht; exact inserted (.replySent q s)
  | storeWriteComplete key => cases ht; exact inserted (.writeCompleted key s)
  | pageEnd player => cases ht; exact calm (.pageEnded player s)
  | breakTimerExpiry p => cases ht; exact inserted (.breakEnded p s)
  | advertisementReceived p grades ack identity => cases ht; exact handed (.advertised p grades ack identity s)
  | idlePatternReceived p pattern => cases ht; exact handed (.patternSeen p pattern s)
  | advertiseTimerExpiry p => cases ht; exact handed (.advertiseEnded p s)
  | lossOfSignal p => cases ht; exact handed (.signalLost p s)
  | signalRestored p => cases ht; exact inserted (.setSpan s p _)
  | beaconReceived p b => cases ht; exact handed (.beaconArrived p b s)
  | silenceTimerExpiry q => cases ht; exact handed (.silenceEnded q s)
  | waitToRestoreExpiry r => cases ht; exact handed (.restoreEvent r _ s)
  | uplinkBlockArrival p block => cases ht; exact inserted (.blockArrived p block s)
  | blockTick => cases ht; exact handed (.blockTicked s)
  | slipBurstClear p => cases ht; exact inserted (.setSpan s p _)
  | hangExpiry ch => cases ht; exact calm (.hangEnd ch s)
  | keyLimitExpiry ch => cases ht; exact calm (.keyLimit ch s)
  | baseKeyChange ch asserted =>
    cases ht
    have lane : Still s { s with baseLane := s.baseLane.set ch asserted } := ⟨rfl, rfl, rfl, rfl, rfl, rfl, rfl, rfl⟩
    exact .after lane (.inService fun hr hv => (Revotes.of_calm (.baseKeyed ch asserted _)).votes hr hv)
  | testLock p => cases ht; exact inserted (.testLocked p s)
  | testLockTimeout p => cases ht; exact inserted (.stopTest p _ _ s)
  | spanTestTimerExpiry p => cases ht; exact inserted (.stopTest p _ _ s)
  | testBitError p => cases ht; exact inserted (.testError p s)
  | sourceSignalChange src valid => cases ht; exact (Still.sourceSignal src valid s).voting
  | sourcePresent src => cases ht; exact settles (.sourceAppears src s)
  | sourceAbsent src => cases ht; exact settles (.sourceVanishes src s)
  | warmupEnd => cases ht; exact settles (.warmupEnded s)
  | measurement offset => cases ht; exact settles (.measured offset s)
  | switchTimerExpiry => cases ht; exact settles (.switchEnded s)
  | holdoverExpiry => cases ht; exact settles (.holdoverEnded s)
  | contactLevelChange c level =>
    cases ht
    split
    · exact (Still.setContact s c _).voting
    · exact (Still.rawLevel c level s).voting
  | debounceTimerExpiry c => cases ht; exact handed (.debounced c s)
  | watchExpiry => cases ht; exact handed (.watchExpired s)
  | _ => cases h

/-- The rows of a request read it as it stands, or refuse its length. -/
theorem decoded_of_request {r q : Request} (h : Request.decoded r = .request q) : q = r := by
  unfold Request.decoded at h
  split at h
  · split at h
    · exact (Decoded.request.inj h).symm
    · cases h
  · exact (Decoded.request.inj h).symm

theorem Votes.exec {c : Instr} {s t : State} (ht : Machine.exec c s = .next t) (hc : ¬Resets c) : Votes s t := by
  cases hr : c.request? with
  | none => exact .event hr hc ht
  | some x =>
    obtain ⟨port, tag, r⟩ := x
    rw [exec_request hr] at ht
    cases ht
    refine .receiveFrame port tag _ s fun hd => hc ?_
    obtain rfl := decoded_of_request hd
    cases c with
    | restart => trivial
    | _ => cases hr

/-! ### Resets (R177, R178) -/

/-- After a reset each voter covers what its carrier's lists name, and no unit is fed. -/
theorem AfterReset.votersSound {kind : ResetKind} {straps : Nat} {s t : State} (h : AfterReset kind straps s t)
    (k : PlansSound t) : VotersSound t := by
  have voters := h.voters fun x hx => k.templates 0 x (.inl hx)
  have unfed (p : Position) : (t.unitState p).side = none := by
    rw [(h.units p).1]
    split <;> rfl
  refine votersSound_iff.2 fun ch => ?_
  rw [voters ch]
  refine ⟨rfl, ?_, nofun⟩
  exact (List.filter_eq_nil_iff.2 fun p _ => by simp [unfed p]).symm

/-- A RESTART is refused or answered, or leaves what a reset does. -/
theorem restart_cases {port : MgmtPort} {tag kind : Byte} {s t : State}
    (h : Machine.receiveFrame port tag kind (.request .restart) s = t) :
    t = settled (restartReset (Machine.watchFrame port s)) ∨ Votes s t := by
  have concluded {x : Result} (h : Revotes (Machine.watchFrame port s) x.handed) :
      Votes s (settled (Machine.conclude port tag kind x)) :=
    .after (.watchFrame port s) fun hr hv => (Revotes.conclude port tag kind h).votes hr hv
  subst h
  unfold Machine.receiveFrame Machine.frameTaken Machine.takeRequestOn
  dsimp only
  split
  · split
    · split
      · exact .inr (concluded (.of_refuse _ _))
      · split
        · exact .inl rfl
        · exact .inr (concluded (.carry _ _ _ _))
    · exact .inr (Still.voting ((Still.watchFrame port s).trans (.setMgmt _ port _)))
  · exact .inr (.refl s)

theorem restart_votersSound {port : MgmtPort} {tag kind : Byte} {s t : State}
    (h : Machine.receiveFrame port tag kind (.request .restart) s = t) (hr : Ready s) (hv : VotersSound s)
    (k : PlansSound t) : VotersSound t := by
  rcases restart_cases h with rfl | votes
  · exact (afterRestart port s).1.votersSound k
  · exact (votes hr hv).1

/-- Every command, a reset's end too, leaves the voters sound. -/
theorem exec_votersSound {c : Instr} {s t : State} (ht : Machine.exec c s = .next t) (hp : PlansSound s) (ready : Ready s)
    (hv : VotersSound s) : VotersSound t := by
  have plans : PlansSound t := (Preserves.exec ht).plans hp
  by_cases hc : Resets c
  · cases c with
    | resetEnd straps written =>
      by_cases idle : s.causes = []
      · have : exec (.resetEnd straps written) s = .next s :=
          congrArg Host.Outcome.next (if_neg (by simp [State.inReset, idle]))
        cases ht.symm.trans this
        exact hv
      · cases ht.symm.trans (exec_resetEnd idle straps written)
        rw [endReset_eq] at plans ⊢
        exact (afterReset _ straps s _).votersSound plans
    | restart port tag =>
      rw [exec_request rfl] at ht
      exact restart_votersSound (Host.Outcome.next.inj ht) ready hv plans
    | requestFrameReceived port kind tag payload =>
      have received : receiveFrame port tag kind (decodeRequest kind.toNat payload) s = t := Host.Outcome.next.inj ht
      by_cases hd : decodeRequest kind.toNat payload = .request .restart
      · rw [hd] at received
        exact restart_votersSound received ready hv plans
      · exact received ▸ (Votes.receiveFrame port tag kind s hd ready hv).1
    | _ => exact hc.elim
  · exact (Votes.exec ht hc ready hv).1

theorem step_votersSound {s t : State} (h : Machine.step s = .next t) (hp : PlansSound s) (hq : QueueSound s)
    (hv : VotersSound s) : VotersSound t := by
  have ready := ready_of_sound hp hq
  unfold Machine.step at h
  split at h
  next =>
    cases h
    exact Calm.sound (s := s) ⟨.of_same rfl rfl rfl rfl, fun _ => .refl _⟩ hv
  next c rest _ =>
    have taken : Still s { s with pending := rest } := ⟨rfl, rfl, rfl, rfl, rfl, rfl, rfl, rfl⟩
    exact exec_votersSound h (PlansSound.congr (s := s) rfl rfl rfl hp) (taken.ready ready) (taken.calm.sound hv)

end Sys2Proof.Machine
end

section
open Sys2Proof Sys2Proof.Machine

/-- Settles O40: an operation leaves what the voters stand for, or hands on that they are judged afresh (`Revotes`), which the
hand-overs do in whatever order (`Judged.settled`); a tick is taken port by port and voter by voter (`tickState_voter`). -/
theorem ticksAreVotedOn : Obligations.TicksAreVotedOn := by
  unfold Obligations.TicksAreVotedOn
  refine ⟨fun s t h hp hq hv => step_votersSound h hp hq hv, fun c s t h hc hp hq hv =>
    (Votes.exec h hc (ready_of_sound hp hq) hv).2, ?_⟩
  intro s hc
  refine ⟨tickState s, congrArg Host.Outcome.next (inService_eq hc _), tickState_sameBut s, tickState_spans s,
    tickState_posts s, fun ch => ?_⟩
  rw [tickState_voter]
  intro v v' quality hears
  obtain ⟨cands, console, base, covers⟩ := tickedVoter_keeps s ch
  obtain ⟨source, state, hang⟩ := tickedVoter_vote s ch
  refine ⟨cands, console, base, covers, ⟨tickedVoter_forwarded s ch, ?_⟩, fun hn => ?_, fun hh => ?_⟩
  · have := forwards_of_forwarded v'
    rwa [show v'.forwarded = _ from tickedVoter_forwarded s ch] at this
  · have silent : heard (tickHearing s ch).cands = false :=
      Bool.eq_false_iff.2 fun hh => hn ((heard_tickHearing s ch).1 hh)
    rw [source, state, hang]
    exact vote_silent s ch (tickHearing s ch) silent
  · obtain ⟨idle, hanging, other⟩ := vote_heard s ch (tickHearing s ch) ((heard_tickHearing s ch).2 hh)
    rw [source, state, hang, show v'.cands = _ from cands]
    refine ⟨fun hi => ?_, hanging, other⟩
    obtain ⟨active, q, hq, fresh⟩ := idle hi
    obtain ⟨rescue, reported⟩ := tickState_wakes s ch hi (q := q) (by rw [state]; simp [active, tickVote]) (source.trans hq)
    exact ⟨active, rescue, q, hq, fresh, reported⟩

end

section
/-! SUPPORT. The return of the waiting units: what the end of a running timer and RING REVERT come to. -/

namespace Sys2Proof.Machine

open Sys2Proof

/-- A return of units changes the parts that a feed change reaches, whatever was put in its state first. -/
theorem restored_settled_sameBut {r : Ring} {cause : FeedCause} {s u w : State}
    (h : SameBut [.spans, .rings, .events] w u) : SameBut fedParts w (settled (u, (restoreEvent r cause s).2)) :=
  (h.mono (by simp [fedParts])).trans
    ((settled_ofRing (x := (u, (restoreEvent r cause s).2)) restoreEvent_ofRing).mono (by simp [ringParts, fedParts]))

theorem exec_waitToRestoreExpiry {s : State} (hc : s.causes = []) (r : Ring) :
    exec (.waitToRestoreExpiry r) s = .next (settled (restoreEvent r .restore s)) := by
  have idle : s.inReset = false := by simp [State.inReset, hc]
  exact congrArg Host.Outcome.next (if_neg (by simp [idle]))

theorem ringRevert_badId {n : Nat} (h : ringOf n = none) (s : State) : ringRevert n s = refuse s .badId := by
  simp only [ringRevert, h]

theorem ringRevert_stopped {r : Ring} {s : State} (h : (s.rings.get r).timer = none) :
    ringRevert (ringNumber r) s = refuse s .wrongState := by
  simp [ringRevert, ringOf_eq_some.2 (rfl : ringNumber r = ringNumber r), h]

theorem ringRevert_running {r : Ring} {s : State} (h : (s.rings.get r).timer ≠ none) :
    ringRevert (ringNumber r) s = done .accepted [] (restoreEvent r .revert s) := by
  simp [ringRevert, ringOf_eq_some.2 (rfl : ringNumber r = ringNumber r), h]

end Sys2Proof.Machine
end

section
open Sys2Proof Sys2Proof.Machine

/-- Settles O41: both are the ring's return (`restored_settled`), the one in the state it finds, the other in the watched
state with its reply given meanwhile. -/
theorem waitingUnitsReturnTogether : Obligations.WaitingUnitsReturnTogether := by
  intro s r hc x
  refine ⟨fun stopped => ?_, fun running => ?_, fun port tag n served => ?_⟩
  · rw [exec_waitToRestoreExpiry hc, restoreEvent_stopped _ stopped, settled_nil]
  · exact ⟨_, exec_waitToRestoreExpiry hc r, restored_settled_sameBut restoreEvent_sameBut,
      restored_settled (cause := .restore) running (SameBut.refl _ _)⟩
  intro w
  have timer : (w.rings.get r).timer = x.timer := by rw [watchFrame_rings]
  refine ⟨fun bad => ?_, fun named stopped => ?_, fun named running => ?_⟩
  · refine exec_ready rfl served rfl (by simp) (ringRevert_badId (ringOf_eq_none.2 fun r' => ?_) w)
    cases r' <;> simp only [ringNumber] <;> omega
  · subst named
    exact exec_ready rfl served rfl (by simp) (ringRevert_stopped (timer.trans stopped))
  · subst named
    have running : (w.rings.get r).timer ≠ none := timer ▸ running
    exact ⟨_, exec_done rfl served rfl (by simp) (ringRevert_running running),
      restored_settled_sameBut (withReply_congr restoreEvent_sameBut port _),
      restored_settled (cause := .revert) running ((withReply_sameBut _ port _).mono (by simp))⟩
end

section
/-! SUPPORT. A ring topology record that stands for its inputs, and what a recomputation and a return of its units make of it
(R44 to R51, R56, R57). -/

namespace Sys2Proof.Machine

open Sys2Proof

/-! ### Hops and reachability, hop by hop and unit by unit (R44 to R49) -/

theorem ringLength_le (s : State) (r : Ring) : s.ringLength r ≤ 12 := by
  have step (us : List UnitNo) (m : Nat) (h : m ≤ 12) : us.foldl (fun m u => max m (u.val + 1)) m ≤ 12 := by
    induction us generalizing m with
    | nil => exact h
    | cons u us ih => exact ih _ (max_le h u.isLt)
  exact step _ 0 (by omega)

@[simp] theorem positionAt_unit (r : Ring) (u : UnitNo) : positionAt r (u.val + 1) = some ⟨r, u⟩ := by
  simp [positionAt, identOf_fin]

theorem passable_iff (s : State) (r : Ring) (u : UnitNo) : s.passable ⟨r, u⟩ = true ↔ PassesAt s r u := by
  simp [State.passable, PassesAt, and_assoc]

section
variable (s : State) (r : Ring)

theorem formHops_length : (formHops s r).length = s.ringLength r + 1 := by simp [formHops]

theorem formHops_get {i : Nat} (h : i ≤ s.ringLength r) :
    (formHops s r)[i]? = some (formHop s r (s.ringLength r) (i + 1)) := by
  simp [formHops, List.getElem?_map, List.getElem?_range (Nat.lt_succ_of_le h)]

theorem formHop_first (n : Nat) :
    formHop s r n 1 = if s.present ⟨r, 0⟩ then (s.spans.get ⟨r, .a⟩).state.hop else none := by
  have : positionAt r 1 = some ⟨r, 0⟩ := positionAt_unit r 0
  simp [formHop, terminalHop, this]

theorem formHop_last {n : Nat} {u : UnitNo} (h : u.val + 1 = n) :
    formHop s r n (n + 1) = if s.present ⟨r, u⟩ then (s.spans.get ⟨r, .b⟩).state.hop else none := by
  subst h
  simp [formHop, terminalHop]

theorem formHop_inner {n : Nat} {u v : UnitNo} (h : v.val = u.val + 1) (hn : v.val < n) : formHop s r n (v.val + 1) =
    if s.present ⟨r, u⟩ = true ∧ s.present ⟨r, v⟩ = true then hopMin (s.report ⟨r, u⟩ false) (s.report ⟨r, v⟩ true)
    else none := by
  have first : v.val + 1 ≠ 1 := by omega
  have last : v.val + 1 ≠ n + 1 := by omega
  have before : positionAt r (v.val + 1 - 1) = some ⟨r, u⟩ := by rw [Nat.add_sub_cancel, h, positionAt_unit]
  simp only [formHop, first, last, if_false, before, positionAt_unit, innerHop, Bool.and_eq_true]

/-- A hop list is the one that the ports, the beacons and the reports give, told hop by hop (R45 to R48). -/
structure HopsStand (hops : List HopState) : Prop where
  length : hops.length = s.ringLength r + 1
  first : hops[0]? = some (if s.present ⟨r, 0⟩ then (s.spans.get ⟨r, .a⟩).state.hop else none)
  last : ∀ u : UnitNo, u.val + 1 = s.ringLength r → hops[u.val + 1]? =
    some (if s.present ⟨r, u⟩ then (s.spans.get ⟨r, .b⟩).state.hop else none)
  inner : ∀ u v : UnitNo, v.val = u.val + 1 → v.val < s.ringLength r → hops[v.val]? =
    some (if s.present ⟨r, u⟩ = true ∧ s.present ⟨r, v⟩ = true then hopMin (s.report ⟨r, u⟩ false) (s.report ⟨r, v⟩ true)
      else none)

theorem formHops_stand : HopsStand s r (formHops s r) where
  length := formHops_length s r
  first := by rw [formHops_get s r (Nat.zero_le _), formHop_first]
  last u h := by rw [h, formHops_get s r le_rfl, formHop_last s r h]
  inner u v h hn := by rw [formHops_get s r hn.le, formHop_inner s r h hn]

variable {s r}

theorem HopsStand.eq_formHops {hops : List HopState} (h : HopsStand s r hops) : hops = formHops s r := by
  have made := formHops_stand s r
  have short := ringLength_le s r
  refine List.ext_getElem? fun i => ?_
  obtain rfl | hi := Nat.eq_zero_or_pos i
  · rw [h.first, made.first]
  obtain ⟨j, rfl⟩ := Nat.exists_eq_add_of_lt hi
  rw [Nat.zero_add]
  rcases Nat.lt_trichotomy (j + 1) (s.ringLength r) with lt | eq | gt
  · exact (h.inner ⟨j, by omega⟩ ⟨j + 1, by omega⟩ rfl lt).trans (made.inner ⟨j, by omega⟩ ⟨j + 1, by omega⟩ rfl lt).symm
  · exact (h.last ⟨j, by omega⟩ eq).trans (made.last ⟨j, by omega⟩ eq).symm
  · rw [List.getElem?_eq_none (by rw [h.length]; omega), List.getElem?_eq_none (by rw [made.length]; omega)]

theorem hopsStand_iff {hops : List HopState} : HopsStand s r hops ↔ hops = formHops s r :=
  ⟨HopsStand.eq_formHops, fun h => h ▸ formHops_stand s r⟩

variable {hops : List HopState} {u : UnitNo}

theorem hopUp_iff (i : Nat) : hopUp hops (i + 1) = true ↔ ∃ g, hops[i]? = some (some g) := by
  rw [hopUp, Nat.add_sub_cancel, List.getD_eq_getElem?_getD]
  cases hops[i]? with
  | none => simp
  | some x => cases x <;> simp

theorem passableAt_unit (u : UnitNo) : passableAt s r (u.val + 1) = true ↔ PassesAt s r u := by
  rw [passableAt, positionAt_unit, Option.any_some, passable_iff]

theorem reachableA_iff : reachableA s r hops u = true ↔ u.val < s.ringLength r ∧
    ∀ v : UnitNo, v ≤ u → PassesAt s r v ∧ ∃ g, hops[v.val]? = some (some g) := by
  simp only [reachableA, Bool.and_eq_true, decide_eq_true_eq, List.all_eq_true, List.mem_range]
  refine and_congr_right fun _ => ⟨fun h v hv => ?_, fun h j hj => ?_⟩
  · obtain ⟨up, passes⟩ := h v.val (Nat.lt_succ_of_le hv)
    exact ⟨(passableAt_unit v).1 passes, (hopUp_iff _).1 up⟩
  · obtain ⟨passes, up⟩ := h ⟨j, by omega⟩ (Nat.le_of_lt_succ hj)
    exact ⟨(hopUp_iff _).2 up, (passableAt_unit ⟨j, by omega⟩).2 passes⟩

theorem reachableB_iff : reachableB s r hops u = true ↔ u.val < s.ringLength r ∧
    ∀ v : UnitNo, u ≤ v → v.val < s.ringLength r → PassesAt s r v ∧ ∃ g, hops[v.val + 1]? = some (some g) := by
  have short := ringLength_le s r
  simp only [reachableB, Bool.and_eq_true, decide_eq_true_eq, List.all_eq_true, List.mem_range, Bool.or_eq_true]
  refine and_congr_right fun _ => ⟨fun h v hv hn => ?_, fun h j hj => ?_⟩
  · obtain ⟨up, passes⟩ := (h v.val hn).resolve_left (Nat.not_lt.2 hv)
    exact ⟨(passableAt_unit v).1 passes, (hopUp_iff _).1 up⟩
  · refine (Nat.lt_or_ge j u.val).imp_right fun hu => ?_
    obtain ⟨passes, up⟩ := h ⟨j, by omega⟩ hu hj
    exact ⟨(hopUp_iff _).2 up, (passableAt_unit ⟨j, by omega⟩).2 passes⟩

theorem reachableA_mono {v : UnitNo} (h : v ≤ u) (hu : reachableA s r hops u = true) : reachableA s r hops v = true := by
  obtain ⟨hn, all⟩ := reachableA_iff.1 hu
  exact reachableA_iff.2 ⟨Nat.lt_of_le_of_lt h hn, fun w hw => all w (hw.trans h)⟩

theorem reachableB_mono {v : UnitNo} (h : v ≤ u) (hv : reachableB s r hops v = true) (hu : u.val < s.ringLength r) :
    reachableB s r hops u = true := by
  obtain ⟨-, all⟩ := reachableB_iff.1 hv
  exact reachableB_iff.2 ⟨hu, fun w hw => all w (h.trans hw)⟩

end

/-! ### A record that stands (R44 to R51, R56) -/

/-- A record `x` of a ring stands for the ring's inputs in `s`, in the terms of the recomputation. -/
structure RingStands (s : State) (r : Ring) (x : RingRec) : Prop where
  hops : x.hops = formHops s r
  reachA : ∀ u : UnitNo, x.reachA[u] = reachableA s r x.hops u
  reachB : ∀ u : UnitNo, x.reachB[u] = reachableB s r x.hops u
  absent : ∀ u : UnitNo, x.units[u] = .absent ↔ (s.unit ⟨r, u⟩).commissioned = false
  beacon : ∀ u, (posGet s.beacons ⟨r, u⟩).status = none ↔ (s.unit ⟨r, u⟩).commissioned = false
  mismatch : ∀ u : UnitNo, x.units[u] = .mismatch ↔ (s.unit ⟨r, u⟩).commissioned = true ∧ s.mismatched ⟨r, u⟩ = true
  fed : ∀ u : UnitNo, (x.units[u] = .fedA ∨ x.units[u] = .fedB) ↔ (x.reachA[u] = true ∨ x.reachB[u] = true)
  fedA : ∀ u : UnitNo, x.units[u] = .fedA → x.reachA[u] = true
  fedB : ∀ u : UnitNo, x.units[u] = .fedB → x.reachB[u] = true
  before : ∀ u v : UnitNo, v ≤ u → x.units[u] = .fedA → x.units[v] = .fedA
  timer : x.timer ≠ none ↔ ∃ u : UnitNo, x.units[u] = .fedB ∧ x.reachA[u] = true

/-- The rings are sound when each one's record stands. -/
theorem ringsSound_iff {s : State} : RingsSound s ↔ ∀ r, RingStands s r (s.rings.get r) := by
  constructor
  · intro h r
    have hops : HopsStand s r (s.rings.get r).hops := ⟨h.hops r, h.first r, h.last r, h.inner r⟩
    exact ⟨hops.eq_formHops, fun u => Bool.eq_iff_iff.2 ((h.reachA r u).trans reachableA_iff.symm),
      fun u => Bool.eq_iff_iff.2 ((h.reachB r u).trans reachableB_iff.symm), fun u => h.absent ⟨r, u⟩,
      fun u => h.beacon ⟨r, u⟩, fun u => h.mismatch ⟨r, u⟩, fun u => h.fed ⟨r, u⟩, fun u => h.fedA ⟨r, u⟩,
      fun u => h.fedB ⟨r, u⟩, h.before r, h.timer r⟩
  · intro h
    have hops (r : Ring) : HopsStand s r (s.rings.get r).hops := hopsStand_iff.2 (h r).hops
    exact ⟨fun r => (hops r).length, fun r => (hops r).first, fun r => (hops r).last, fun r => (hops r).inner,
      fun r u => by rw [(h r).reachA, reachableA_iff], fun r u => by rw [(h r).reachB, reachableB_iff],
      fun p => (h p.ring).absent p.unit, fun p => (h p.ring).beacon p.unit, fun p => (h p.ring).mismatch p.unit,
      fun p => (h p.ring).fed p.unit, fun p => (h p.ring).fedA p.unit, fun p => (h p.ring).fedB p.unit,
      fun r => (h r).before, fun r => (h r).timer⟩

/-- Two states agree on all that a ring's record is formed from: the terminal ports' hops, the commissioned positions, and
the presence, the verdict and the reports of each. -/
structure RingInputs (r : Ring) (s t : State) : Prop where
  hop : ∀ side, (t.spans.get ⟨r, side⟩).state.hop = (s.spans.get ⟨r, side⟩).state.hop
  commissioned : ∀ u, (t.unit ⟨r, u⟩).commissioned = (s.unit ⟨r, u⟩).commissioned
  present : ∀ u, t.present ⟨r, u⟩ = s.present ⟨r, u⟩
  mismatched : ∀ u, (s.unit ⟨r, u⟩).commissioned = true → t.mismatched ⟨r, u⟩ = s.mismatched ⟨r, u⟩
  report : ∀ u up, t.report ⟨r, u⟩ up = s.report ⟨r, u⟩ up
  vacant : ∀ u, (posGet t.beacons ⟨r, u⟩).status = none ↔ (posGet s.beacons ⟨r, u⟩).status = none

section
variable {r : Ring} {s t u : State}

theorem RingInputs.refl (r : Ring) (s : State) : RingInputs r s s :=
  ⟨fun _ => rfl, fun _ => rfl, fun _ => rfl, fun _ _ => rfl, fun _ _ => rfl, fun _ => .rfl⟩

theorem RingInputs.trans (h : RingInputs r s t) (k : RingInputs r t u) : RingInputs r s u where
  hop side := (k.hop side).trans (h.hop side)
  commissioned v := (k.commissioned v).trans (h.commissioned v)
  present v := (k.present v).trans (h.present v)
  mismatched v hv := (k.mismatched v ((h.commissioned v).trans hv)).trans (h.mismatched v hv)
  report v up := (k.report v up).trans (h.report v up)
  vacant v := (k.vacant v).trans (h.vacant v)

/-- The ports' hops, the Remote Unit Table and the beacons are all that a ring's record is formed from. -/
theorem RingInputs.of_same (hop : ∀ p, (t.spans.get p).state.hop = (s.spans.get p).state.hop)
    (units : t.work.units = s.work.units) (beacons : t.beacons = s.beacons) (r : Ring) : RingInputs r s t := by
  have unit (p : Position) : t.unit p = s.unit p := by rw [State.unit, State.unit, units]
  exact ⟨fun side => hop _, fun u => by rw [unit], fun u => by rw [State.present, State.present, beacons],
    fun u _ => by rw [State.mismatched, State.mismatched, beacons, unit],
    fun u up => by rw [State.report, State.report, beacons], fun u => by rw [beacons]⟩

theorem RingInputs.passes (h : RingInputs r s t) (u : UnitNo) : PassesAt t r u ↔ PassesAt s r u := by
  rw [PassesAt, PassesAt, h.commissioned, h.present]
  exact and_congr_right fun hc => by rw [h.mismatched u hc]

theorem RingInputs.length (h : RingInputs r s t) : t.ringLength r = s.ringLength r := by
  simp only [State.ringLength, h.commissioned]

theorem RingInputs.formHops (h : RingInputs r s t) : formHops t r = formHops s r := by
  have made := formHops_stand s r
  refine (HopsStand.eq_formHops ⟨by rw [h.length]; exact made.length, by rw [h.present, h.hop]; exact made.first,
    fun u hu => ?_, fun u v hv hn => ?_⟩).symm
  · rw [h.present, h.hop]
    exact made.last u (h.length ▸ hu)
  · rw [h.present, h.present, h.report, h.report]
    exact made.inner u v hv (h.length ▸ hn)

theorem RingInputs.reachableA (h : RingInputs r s t) (hops : List HopState) (u : UnitNo) :
    reachableA t r hops u = reachableA s r hops u :=
  Bool.eq_iff_iff.2 (by simp only [reachableA_iff, h.length, h.passes])

theorem RingInputs.reachableB (h : RingInputs r s t) (hops : List HopState) (u : UnitNo) :
    reachableB t r hops u = reachableB s r hops u :=
  Bool.eq_iff_iff.2 (by simp only [reachableB_iff, h.length, h.passes])

/-- A record stands wherever its inputs are the same. -/
theorem RingStands.congr {x : RingRec} (h : RingInputs r s t) (k : RingStands s r x) : RingStands t r x where
  hops := k.hops.trans h.formHops.symm
  reachA u := (k.reachA u).trans (h.reachableA _ u).symm
  reachB u := (k.reachB u).trans (h.reachableB _ u).symm
  absent u := by rw [h.commissioned]; exact k.absent u
  beacon u := by rw [h.commissioned]; exact (h.vacant u).trans (k.beacon u)
  mismatch u := (k.mismatch u).trans (by rw [h.commissioned]; exact and_congr_right fun hc => by rw [h.mismatched u hc])
  fed := k.fed
  fedA := k.fedA
  fedB := k.fedB
  before := k.before
  timer := k.timer

end

/-! ### Consequences of standing -/

section
variable {s : State} {r : Ring} {x : RingRec} {u v : UnitNo}

theorem RingStands.reachA_mono (h : RingStands s r x) (hv : v ≤ u) (hu : x.reachA[u] = true) : x.reachA[v] = true := by
  rw [h.reachA] at hu ⊢
  exact reachableA_mono hv hu

theorem RingStands.reachB_length (h : RingStands s r x) (hu : x.reachB[u] = true) : u.val < s.ringLength r := by
  rw [h.reachB] at hu
  exact (reachableB_iff.1 hu).1

/-- A unit that is reachable is FED_A or FED_B, and no other is. -/
theorem RingStands.unfed (h : RingStands s r x) (ha : x.units[u] ≠ .fedA) (hb : x.units[u] ≠ .fedB) :
    x.reachA[u] = false ∧ x.reachB[u] = false := by
  have := (h.fed u).not.1 (not_or.2 ⟨ha, hb⟩)
  simpa using this

end

end Sys2Proof.Machine
end

section
/-! SUPPORT. A ring's record formed afresh, and its units' return: it stands, and its units and its timer are decided row by
row (R49 to R51, R56, R57). -/

namespace Sys2Proof.Machine

open Sys2Proof

/-! ### The rows of R51 and the timer of R56 -/

/-- The units of `new` that are reachable from A are decided from their states in `old` by the rows of R51. -/
structure Decided (old new : RingRec) : Prop where
  wasFedA : ∀ u : UnitNo, old.units[u] = .fedA → new.reachA[u] = true → new.units[u] = .fedA
  wasFedB : ∀ u : UnitNo, old.units[u] = .fedB → new.reachA[u] = true →
    new.units[u] = if new.reachB[u] then .fedB else .fedA
  wasUnfed : ∀ u : UnitNo, old.units[u] ≠ .fedA → old.units[u] ≠ .fedB → new.reachA[u] = true →
    new.units[u] = if ∃ v < u, new.units[v] = .fedB then .fedB else .fedA

/-- A timer of `new` has the moment it had in `old`, or starts at `now` (R56). -/
structure Timed (now : Nat) (old new : RingRec) : Prop where
  starts : ∀ x, old.timer = none → new.timer = some x → x = now
  runs : ∀ x y, old.timer = some x → new.timer = some y → y = x

theorem decideUnit_true (old : UnitState) (b lowerB : Bool) : decideUnit old true b lowerB =
    match old with
    | .fedA => .fedA
    | .fedB => if b then .fedB else .fedA
    | _ => if lowerB then .fedB else .fedA := by
  cases old <;> rfl

section
variable (old : UnitState) (a b lowerB : Bool)

theorem decideUnit_ne_absent : decideUnit old a b lowerB ≠ .absent := by
  cases a <;> cases b <;> cases old <;> cases lowerB <;> decide

/-- A unit that is decided is fed where it is reachable. -/
theorem decideUnit_fed : (decideUnit old a b lowerB = .fedA ∨ decideUnit old a b lowerB = .fedB) ↔ (a = true ∨ b = true) := by
  cases a <;> cases b <;> cases old <;> cases lowerB <;> decide

theorem decideUnit_fedA (h : decideUnit old a b lowerB = .fedA) : a = true := by
  cases a
  · cases b <;> cases h
  · rfl

/-- A unit becomes FED_B where it is reachable from B, or because a lower one is FED_B. -/
theorem decideUnit_fedB (h : decideUnit old a b lowerB = .fedB) : b = true ∨ (a = true ∧ lowerB = true) := by
  cases a <;> cases b <;> cases old <;> cases lowerB <;> simp_all [decideUnit]

end

theorem restoreTimer_ne_none {now : Nat} {units : Vector UnitState 12} {a : Vector Bool 12} {old : Option Nat} :
    restoreTimer now units a old ≠ none ↔ ∃ u : UnitNo, units[u] = .fedB ∧ a[u] = true := by
  have waits : (List.finRange 12).any (waiting units a) = true ↔ ∃ u : UnitNo, units[u] = .fedB ∧ a[u] = true := by
    simp [List.any_eq_true, waiting]
  rw [← waits, restoreTimer]
  split <;> simp_all

/-! ### A recomputation (R49 to R51) -/

/-- A ring's inputs have changed from `s` to `v`, the verdict on no commissioned position but those of `judged`; and a
position still has a beacon status where it is commissioned (R31, R49). -/
structure Reforms (r : Ring) (judged : List UnitNo) (s v : State) : Prop where
  verdict : ∀ u, u ∉ judged → (s.unit ⟨r, u⟩).commissioned = true → (v.unit ⟨r, u⟩).commissioned = true →
    v.mismatched ⟨r, u⟩ = s.mismatched ⟨r, u⟩
  vacant : (∀ u, (posGet s.beacons ⟨r, u⟩).status = none ↔ (s.unit ⟨r, u⟩).commissioned = false) →
    ∀ u, (posGet v.beacons ⟨r, u⟩).status = none ↔ (v.unit ⟨r, u⟩).commissioned = false

section
variable {s v : State} {r : Ring} {judged : List UnitNo}

theorem recomputeRing_reachA (u : UnitNo) : (recomputeRing v r judged).reachA[u] = reachableA v r (formHops v r) u :=
  tabulate_getElem _ u

theorem recomputeRing_reachB (u : UnitNo) : (recomputeRing v r judged).reachB[u] = reachableB v r (formHops v r) u :=
  tabulate_getElem _ u

/-- A unit that a recomputation does not decide: it keeps its state, and neither the reachability of the ring's units nor its
length has changed. -/
structure Kept (v : State) (r : Ring) (judged : List UnitNo) (u : UnitNo) : Prop where
  state : (recomputeRing v r judged).units[u] = (v.rings.get r).units[u]
  reachA : (recomputeRing v r judged).reachA = (v.rings.get r).reachA
  reachB : (recomputeRing v r judged).reachB = (v.rings.get r).reachB
  unjudged : u ∉ judged
  length : ∀ w : UnitNo, (v.rings.get r).units[w] = .absent ↔ (v.unit ⟨r, w⟩).commissioned = false

theorem recomputeRing_cases (v : State) (r : Ring) (judged : List UnitNo) (u : UnitNo) :
    let new := recomputeRing v r judged
    new.units[u] = judgeUnit v r new.reachA new.reachB u (v.rings.get r).units[u] (decide (∃ w < u, new.units[w] = .fedB)) ∨
      Kept v r judged u := by
  intro new
  have decided := judgeUnits_get v r new.reachA new.reachB (fun u =>
    ((List.finRange 12).any fun u => (decide ((v.rings.get r).units[u] = .absent)) == (v.unit ⟨r, u⟩).commissioned) ||
      decide (new.reachA ≠ (v.rings.get r).reachA) || decide (new.reachB ≠ (v.rings.get r).reachB) ||
      decide (u ∈ judged)) (v.rings.get r).units u
  split at decided
  next => exact .inl decided
  next idle =>
    simp only [Bool.or_eq_true, decide_eq_true_eq, not_or, not_not, Bool.not_eq_true] at idle
    obtain ⟨⟨⟨length, reachA⟩, reachB⟩, unjudged⟩ := idle
    refine .inr ⟨decided, reachA, reachB, unjudged, fun w => ?_⟩
    have := List.any_eq_false.1 length w (List.mem_finRange w)
    cases hc : (v.unit ⟨r, w⟩).commissioned <;> simpa [hc] using this

/-- A unit that is reachable is passable, so that its state is decided by its reachability. -/
theorem judgeUnit_reached {a b : Vector Bool 12} {u : UnitNo} (h : PassesAt v r u) (old : UnitState) (lowerB : Bool) :
    judgeUnit v r a b u old lowerB = decideUnit old a[u] b[u] lowerB := by
  simp [judgeUnit, h.1, h.2.2]

theorem recomputeRing_passes {u : UnitNo} (h : (recomputeRing v r judged).reachA[u] = true ∨
    (recomputeRing v r judged).reachB[u] = true) : PassesAt v r u := by
  rw [recomputeRing_reachA, recomputeRing_reachB] at h
  exact (passable_iff v r u).1 (h.elim reachableA_passable reachableB_passable)

variable (rings : v.rings = s.rings) (stands : RingStands s r (s.rings.get r)) (reforms : Reforms r judged s v)

/-- What a decision makes of a unit that is not commissioned, or identity-mismatched, and what it makes of the others (R50). -/
theorem judgeUnit_absent (a b : Vector Bool 12) (u : UnitNo) (old : UnitState) (lowerB : Bool) :
    judgeUnit v r a b u old lowerB = .absent ↔ (v.unit ⟨r, u⟩).commissioned = false := by
  cases hc : (v.unit ⟨r, u⟩).commissioned <;> cases hm : v.mismatched ⟨r, u⟩ <;>
    simp [judgeUnit, hc, hm, decideUnit_ne_absent]

theorem judgeUnit_mismatch (a b : Vector Bool 12) (u : UnitNo) (old : UnitState) (lowerB : Bool) :
    judgeUnit v r a b u old lowerB = .mismatch ↔ (v.unit ⟨r, u⟩).commissioned = true ∧ v.mismatched ⟨r, u⟩ = true := by
  cases hc : (v.unit ⟨r, u⟩).commissioned <;> cases hm : v.mismatched ⟨r, u⟩ <;>
    simp [judgeUnit, hc, hm, decideUnit_ne_mismatch]

/-- A unit that a decision feeds has been decided by its reachability. -/
theorem judgeUnit_fed {a b : Vector Bool 12} {u : UnitNo} {old : UnitState} {lowerB : Bool}
    (h : judgeUnit v r a b u old lowerB = .fedA ∨ judgeUnit v r a b u old lowerB = .fedB) :
    judgeUnit v r a b u old lowerB = decideUnit old a[u] b[u] lowerB := by
  cases hc : (v.unit ⟨r, u⟩).commissioned <;> cases hm : v.mismatched ⟨r, u⟩ <;> simp_all [judgeUnit]

include rings stands in
theorem recomputeRing_fedB (u : UnitNo) (hu : (recomputeRing v r judged).units[u] = .fedB) :
    (recomputeRing v r judged).reachB[u] = true := by
  have old : RingStands s r (v.rings.get r) := rings ▸ stands
  induction u using WellFoundedLT.induction with
  | ind u ih =>
  rcases recomputeRing_cases v r judged u with judgement | kept
  · rw [hu] at judgement
    rw [judgeUnit_fed (.inr judgement.symm)] at judgement
    refine (decideUnit_fedB _ _ _ _ judgement.symm).elim id fun ⟨reached, lower⟩ => ?_
    obtain ⟨w, hw, fed⟩ := of_decide_eq_true lower
    have below := ih w hw fed
    rw [recomputeRing_reachB] at below ⊢
    rw [recomputeRing_reachA] at reached
    exact reachableB_mono hw.le below (reachableA_iff.1 reached).1
  · rw [kept.state] at hu
    rw [kept.reachB]
    exact old.fedB u hu

include rings stands in
theorem recomputeRing_decided : Decided (s.rings.get r) (recomputeRing v r judged) := by
  have old : RingStands s r (v.rings.get r) := rings ▸ stands
  rw [← rings]
  have row (u : UnitNo) (hu : (recomputeRing v r judged).reachA[u] = true) :=
    (recomputeRing_cases v r judged u).imp_left fun h => by
      rw [judgeUnit_reached (recomputeRing_passes (.inl hu)), hu, decideUnit_true] at h
      exact h
  refine ⟨fun u ho hu => ?_, fun u ho hu => ?_, fun u ha hb hu => ?_⟩
  · rcases row u hu with judged | kept
    · rwa [ho] at judged
    · rw [kept.state, ho]
  · rcases row u hu with judged | kept
    · rwa [ho] at judged
    · rw [kept.state, ho, kept.reachB, old.fedB u ho, if_pos rfl]
  · rcases row u hu with judged | kept
    · simpa only [decide_eq_true_eq] using judged
    · rw [kept.reachA] at hu
      cases hu.symm.trans (old.unfed ha hb).1

theorem recomputeRing_timed (now : v.now = s.now) (rings : v.rings = s.rings) :
    Timed s.now (s.rings.get r) (recomputeRing v r judged) := by
  have timer : (recomputeRing v r judged).timer = none ∨
      (recomputeRing v r judged).timer = some ((s.rings.get r).timer.getD s.now) := by
    rw [← rings, ← now]
    simp only [recomputeRing, restoreTimer]
    split <;> simp
  refine ⟨fun x old new => ?_, fun x y old new => ?_⟩ <;>
  · rw [new, old] at timer
    simpa using timer

/-- The FED_A units stand before the FED_B units, as the rows of R51 decide them from such units (R51, R54). -/
theorem Decided.before {old new : RingRec} (h : Decided old new)
    (oldBefore : ∀ u v : UnitNo, v ≤ u → old.units[u] = .fedA → old.units[v] = .fedA)
    (fed : ∀ u : UnitNo, (new.units[u] = .fedA ∨ new.units[u] = .fedB) ↔ (new.reachA[u] = true ∨ new.reachB[u] = true))
    (fedA : ∀ u : UnitNo, new.units[u] = .fedA → new.reachA[u] = true)
    (fedB : ∀ u : UnitNo, new.units[u] = .fedB → new.reachB[u] = true)
    (reachA : ∀ u v : UnitNo, v ≤ u → new.reachA[u] = true → new.reachA[v] = true)
    (reachB : ∀ u v : UnitNo, v ≤ u → new.reachB[v] = true → new.reachA[u] = true → new.reachB[u] = true)
    (u v : UnitNo) (hv : v ≤ u) (hu : new.units[u] = .fedA) : new.units[v] = .fedA := by
  have reached := fedA u hu
  obtain rfl | lower := hv.eq_or_lt
  · exact hu
  refine ((fed v).2 (.inl (reachA u v hv reached))).resolve_right fun hb => ?_
  by_cases wasA : old.units[u] = .fedA
  · have := h.wasFedA v (oldBefore u v hv wasA) (reachA u v hv reached)
    cases hb.symm.trans this
  by_cases wasB : old.units[u] = .fedB
  · have := h.wasFedB u wasB reached
    rw [if_pos (reachB u v hv (fedB v hb) reached)] at this
    cases hu.symm.trans this
  · have := h.wasUnfed u wasA wasB reached
    rw [if_pos ⟨v, lower, hb⟩] at this
    cases hu.symm.trans this

include rings stands reforms in
/-- A ring's record formed afresh stands for the inputs it is formed from. -/
theorem recomputeRing_stands : RingStands v r (recomputeRing v r judged) := by
  have old : RingStands s r (v.rings.get r) := rings ▸ stands
  let new := recomputeRing v r judged
  have reachA (u : UnitNo) : new.reachA[u] = reachableA v r new.hops u := recomputeRing_reachA u
  have reachB (u : UnitNo) : new.reachB[u] = reachableB v r new.hops u := recomputeRing_reachB u
  have cases_ := recomputeRing_cases v r judged
  have absent (u : UnitNo) : new.units[u] = .absent ↔ (v.unit ⟨r, u⟩).commissioned = false := by
    rcases cases_ u with judgement | kept
    · rw [show new.units[u] = _ from judgement, judgeUnit_absent]
    · rw [show new.units[u] = _ from kept.state, kept.length]
  have mismatch (u : UnitNo) : new.units[u] = .mismatch ↔
      (v.unit ⟨r, u⟩).commissioned = true ∧ v.mismatched ⟨r, u⟩ = true := by
    rcases cases_ u with judgement | kept
    · rw [show new.units[u] = _ from judgement, judgeUnit_mismatch]
    · have same : (v.unit ⟨r, u⟩).commissioned = (s.unit ⟨r, u⟩).commissioned := by
        have := (kept.length u).symm.trans (old.absent u)
        rwa [Bool.eq_false_iff, Bool.eq_false_iff, not_iff_not, ← Bool.eq_iff_iff] at this
      rw [show new.units[u] = _ from kept.state, old.mismatch, same]
      refine and_congr_right fun hc => ?_
      rw [reforms.verdict u kept.unjudged hc (same.trans hc)]
  have fed (u : UnitNo) : (new.units[u] = .fedA ∨ new.units[u] = .fedB) ↔ (new.reachA[u] = true ∨ new.reachB[u] = true) := by
    rcases cases_ u with judgement | kept
    · constructor
      · intro h
        rw [show new.units[u] = _ from judgement] at h
        rw [judgeUnit_fed h, decideUnit_fed] at h
        exact h
      · intro h
        rw [show new.units[u] = _ from judgement, judgeUnit_reached (recomputeRing_passes h), decideUnit_fed]
        exact h
    · rw [show new.units[u] = _ from kept.state, show new.reachA = _ from kept.reachA, show new.reachB = _ from kept.reachB]
      exact old.fed u
  have fedA (u : UnitNo) (hu : new.units[u] = .fedA) : new.reachA[u] = true := by
    rcases cases_ u with judgement | kept
    · rw [show new.units[u] = _ from judgement] at hu
      rw [judgeUnit_fed (.inl hu)] at hu
      exact decideUnit_fedA _ _ _ _ hu
    · rw [show new.units[u] = _ from kept.state] at hu
      rw [show new.reachA = _ from kept.reachA]
      exact old.fedA u hu
  have fedB := recomputeRing_fedB (judged := judged) rings stands
  refine ⟨rfl, reachA, reachB, absent, reforms.vacant stands.beacon, mismatch, fed, fedA, fedB, ?_, ?_⟩
  · refine (recomputeRing_decided rings stands).before stands.before fed fedA fedB (fun u w hw hu => ?_)
      fun u w hw hb hu => ?_
    · rw [reachA] at hu ⊢
      exact reachableA_mono hw hu
    · rw [reachA] at hu
      rw [reachB] at hb ⊢
      exact reachableB_mono hw hb (reachableA_iff.1 hu).1
  · exact restoreTimer_ne_none

end

/-! ### The waiting units' return (R56, R57) -/

section
variable {s : State} {r : Ring} {x : RingRec}

theorem restoredRing_stands (h : RingStands s r x) : RingStands s r (restoredRing x) := by
  have units := restoredRing_units x
  have waits (u : UnitNo) : x.units[u] = .fedB ∧ x.reachA[u] = true → x.units[u] = .fedB := And.left
  refine ⟨h.hops, h.reachA, h.reachB, fun u => ?_, h.beacon, fun u => ?_, fun u => ?_, fun u hu => ?_, fun u hu => ?_,
    fun u v hv hu => ?_, ?_⟩
  · rw [units, ← h.absent]
    split <;> simp_all
  · rw [units, ← h.mismatch]
    split <;> simp_all
  · rw [show (restoredRing x).reachA = x.reachA from rfl, show (restoredRing x).reachB = x.reachB from rfl, ← h.fed, units]
    split <;> simp_all
  · rw [units] at hu
    split at hu
    next wait => exact wait.2
    next => exact h.fedA u hu
  · rw [units] at hu
    split at hu
    next => cases hu
    next => exact h.fedB u hu
  · have reached : x.reachA[v] = true := by
      rw [units] at hu
      split at hu
      next wait => exact h.reachA_mono hv wait.2
      next => exact h.reachA_mono hv (h.fedA u hu)
    rw [units]
    split
    next => rfl
    next idle => exact ((h.fed v).2 (.inl reached)).resolve_right fun hb => idle ⟨hb, reached⟩
  · refine iff_of_false (fun h => h rfl) ?_
    rintro ⟨u, hu, reached⟩
    rw [units] at hu
    split at hu
    next => cases hu
    next idle => exact idle ⟨hu, reached⟩

end

end Sys2Proof.Machine
end

section
/-! SUPPORT. What one command makes of the rings, the break-in unit and the planners: the ways in which it can concern them, as
an inductive relation between a state and a command's result (R49, R57, R83, R134, R138, R154). -/

namespace Sys2Proof.Machine

open Sys2Proof

/-! ### States that differ in nothing that rings, queue and planners read -/

/-- Two states agree on the rings, the break-in unit and the planners, and on what they read but a ring's inputs. -/
structure Apart (s t : State) : Prop where
  clock : t.now = s.now
  rings : t.rings = s.rings
  carriage : t.carriage = s.carriage
  breakin : t.breakin = s.breakin
  zones : t.work.zones = s.work.zones
  catalogue : t.work.catalogue = s.work.catalogue
  active : t.activePlan = s.activePlan

/-- Two states agree on the rings' inputs too. -/
structure Aside (s t : State) : Prop extends Apart s t where
  inputs : ∀ r, RingInputs r s t

/-- A command has done nothing yet that concerns rings, queue or planners, nor the templates of the plans, but may have posted
records. -/
structure Prelude (s t : State) : Prop extends Aside s t where
  lists : t.work.plans = s.work.plans
  logs : Logs s t

theorem Apart.refl (s : State) : Apart s s := ⟨rfl, rfl, rfl, rfl, rfl, rfl, rfl⟩

theorem Apart.trans {s t u : State} (h : Apart s t) (k : Apart t u) : Apart s u where
  clock := k.clock.trans h.clock
  rings := k.rings.trans h.rings
  carriage := k.carriage.trans h.carriage
  breakin := k.breakin.trans h.breakin
  zones := k.zones.trans h.zones
  catalogue := k.catalogue.trans h.catalogue
  active := k.active.trans h.active

theorem Aside.refl (s : State) : Aside s s := ⟨.refl s, fun r => .refl r s⟩

theorem Aside.trans {s t u : State} (h : Aside s t) (k : Aside t u) : Aside s u :=
  ⟨h.toApart.trans k.toApart, fun r => (h.inputs r).trans (k.inputs r)⟩

theorem Prelude.refl (s : State) : Prelude s s := ⟨.refl s, rfl, .refl s⟩

theorem Prelude.trans {s t u : State} (h : Prelude s t) (k : Prelude t u) : Prelude s u :=
  ⟨h.toAside.trans k.toAside, k.lists.trans h.lists, h.logs.trans k.logs⟩

/-- The parts that concern rings, queue or planners. -/
def concernedParts : List Part := [.clock, .resets, .spans, .beacons, .rings, .carriage, .breakin, .plans, .work]

section
variable {changed : List Part} {s t : State}

theorem Aside.of_sameBut (h : SameBut changed s t) (hc : ∀ x ∈ changed, x ∉ concernedParts) : Aside s t := by
  have kept (x : Part) (hx : x ∈ concernedParts) : x.same s t := h x fun hm => hc x hm hx
  have work : t.work = s.work := kept .work (by simp [concernedParts])
  have plans : t.plans = s.plans := kept .plans (by simp [concernedParts])
  have spans : t.spans = s.spans := kept .spans (by simp [concernedParts])
  exact ⟨⟨kept .clock (by simp [concernedParts]), kept .rings (by simp [concernedParts]),
      kept .carriage (by simp [concernedParts]), kept .breakin (by simp [concernedParts]), by rw [work], by rw [work],
      activePlan_congr work plans⟩,
    .of_same (fun p => by rw [spans]) (by rw [work]) (kept .beacons (by simp [concernedParts]))⟩

theorem Prelude.postAll (s : State) (es : List Note) : Prelude s (s.postAll es) :=
  have same := postAll_sameBut s es
  ⟨.of_sameBut same (by simp [concernedParts]), by rw [same .work (by simp)], .postAll s es⟩

theorem Prelude.post (s : State) (e : Note) : Prelude s (s.post e) := .postAll s [e]

/-- A port's record replaced by one with the same hop. -/
theorem Prelude.setSpan {p : SpanPort} {x : Span} (h : x.state.hop = (s.spans.get p).state.hop) : Prelude s (s.setSpan p x) where
  toApart := ⟨rfl, rfl, rfl, rfl, rfl, rfl, rfl⟩
  inputs := .of_same (fun q => by rw [State.setSpan_spans, PerSpan.get_set]; split <;> simp_all) rfl rfl
  lists := rfl
  logs := .of_sameBut (setSpan_sameBut s p x) (by simp) (by simp) (by simp)

theorem Aside.ite {c : Prop} [Decidable c] {s t u : State} (ht : Aside s t) (hu : Aside s u) :
    Aside s (if c then t else u) := by
  split
  · exact ht
  · exact hu

theorem Prelude.ite {c : Prop} [Decidable c] {s t u : State} (ht : Prelude s t) (hu : Prelude s u) :
    Prelude s (if c then t else u) := by
  split
  · exact ht
  · exact hu

end

/-- A hand-over that reaches neither the planners nor the break-in unit. -/
def HandOver.apart (h : HandOver) : Prop := Part.carriage ∉ h.reach ∧ Part.breakin ∉ h.reach

theorem apart_nil : ∀ h ∈ ([] : List HandOver), h.apart := by simp

theorem alloc_apart (p : Position) (e : AllocEvent) : (HandOver.alloc p e).apart := by simp [HandOver.apart, HandOver.reach]

theorem posts_apart (ns : List Note) : (HandOver.posts ns).apart := by simp [HandOver.apart, HandOver.reach]

/-! ### The deeds -/

/-- A queue that a settlement may take: short, in queue order, with the acceptances up to `n`, of ids from 1 to 255 that
differ, a player at one request at most (R130, R131). -/
structure QueueReady (n : Nat) (q : List BreakIn) : Prop where
  size : q.length ≤ 8
  ids : (q.map BreakIn.id).Nodup
  range : ∀ r ∈ q, 1 ≤ r.id ∧ r.id ≤ 255
  order : q.Pairwise fun x y => y.priority < x.priority ∨ (y.priority = x.priority ∧ x.acceptance < y.acceptance)
  acceptances : (q.map BreakIn.acceptance).Nodup
  accepted : ∀ r ∈ q, r.acceptance ≤ n
  players : (q.filterMap BreakIn.player).Nodup

/-- What a command makes of rings, queue and planners, by way of its result: nothing; a ring's record formed afresh, or its
units' return; a Catalogue record replaced; a plan made active; a settlement of the break-in queue; a zone given other
members; a page passed. `returns` says which ring's units the command may return, and in which states. Behind a ring's record
or a plan's change one event more may be handed on that concerns none of these. -/
inductive Deed (returns : Ring → State → Prop) : State → Handed → Prop
  | aside {s u : State} {hs : List HandOver} (h : Aside s u) (apart : ∀ h ∈ hs, h.apart) : Deed returns s (u, hs)
  | formed {s v : State} {tail : List HandOver} (r : Ring) (cause : FeedCause) (judged : List UnitNo) (h : Apart s v)
      (lists : v.work.plans = s.work.plans) (logs : Logs s v) (others : ∀ r', r' ≠ r → RingInputs r' s v)
      (reforms : Reforms r judged s v) (apart : ∀ h ∈ tail, h.apart) (few : (tail.map HandOver.weight).sum ≤ 1) :
      Deed returns s ((feedEvent r cause judged v).1, (feedEvent r cause judged v).2 ++ tail)
  | returned {s : State} (r : Ring) (cause : FeedCause) (running : (s.rings.get r).timer ≠ none) (why : returns r s) :
      Deed returns s (restoreEvent r cause s)
  | catalogued {s : State} (c : CarrierNo) (new : Option Carrier) : Deed returns s (changeCarrier c new s)
  | activated {s : State} {tail : List HandOver} (p : PlanNo) (stack : List PlanNo) (cause : ActivationCause)
      (source : ActivationSource) (trigger : Option TriggerNo) (apart : ∀ h ∈ tail, h.apart)
      (few : (tail.map HandOver.weight).sum ≤ 1) :
      Deed returns s ((activate p stack cause source trigger s).1, (activate p stack cause source trigger s).2 ++ tail)
  | settled {s : State} (removals : List Note) (q : List BreakIn) (n : Nat) (few : removals.length ≤ 12)
      (ready : QueueSound s → QueueReady n q) :
      Deed returns s (settlement removals q { s with breakin := { s.breakin with accepted := n } })
  | rezoned {s : State} (z : ZoneNo) (members : List Position) (free : zoneConflict s z members = none) :
      Deed returns s (changeZone z members s)
  | paged {s : State} (b : BreakInUnit) (carrying : b.carrying = s.breakin.carrying)
      (sound : QueueSound s → QueueSound { s with breakin := b }) : Deed returns s ({ s with breakin := b }, [])
  | after {s v : State} {y : Handed} (h : Prelude s v) (k : Deed returns v y) : Deed returns s y

section
variable {returns : Ring → State → Prop} {s : State}

theorem Deed.idle {y : Handed} (h : Aside s y.1) (apart : ∀ h ∈ y.2, h.apart) : Deed returns s y := .aside h apart

theorem Deed.still {u : State} (h : Prelude s u) : Deed returns s (u, []) := .aside h.toAside apart_nil

theorem Deed.nothing (s : State) : Deed returns s (s, []) := .still (.refl s)

theorem Deed.activate (p : PlanNo) (stack : List PlanNo) (cause : ActivationCause) (source : ActivationSource)
    (trigger : Option TriggerNo) : Deed returns s (Machine.activate p stack cause source trigger s) := by
  simpa only [List.append_nil] using Deed.activated (returns := returns) (s := s) p stack cause source trigger apart_nil (by simp)

end

end Sys2Proof.Machine
end

section
/-! SUPPORT. The deeds of the span ports, the beacons and the buffers, and of the events at the rings (chapters 2 and 3). -/

namespace Sys2Proof.Machine

open Sys2Proof

section
variable {returns : Ring → State → Prop} {s : State}

/-! ### Span ports (R22 to R29, R36 to R40) -/

/-- A port's record replaced, with a record posted, and its ring formed afresh (R20, R49). -/
theorem Deed.hop (p : SpanPort) (x : Span) (e : Note) :
    Deed returns s (feedEvent p.ring .hop [] ((s.setSpan p x).post e)) := by
  have same : SameBut [.spans, .events] s ((s.setSpan p x).post e) :=
    ((setSpan_sameBut s p x).mono (by simp)).trans ((post_sameBut _ e).mono (by simp))
  have work : ((s.setSpan p x).post e).work = s.work := same .work (by simp)
  have beacons : ((s.setSpan p x).post e).beacons = s.beacons := same .beacons (by simp)
  have spans : ((s.setSpan p x).post e).spans = (s.setSpan p x).spans := post_sameBut _ e .spans (by simp)
  have unit (q : Position) : ((s.setSpan p x).post e).unit q = s.unit q := by rw [State.unit, State.unit, work]
  have formed := Deed.formed (returns := returns) (s := s) (v := (s.setSpan p x).post e) (tail := []) p.ring .hop []
    ⟨same .clock (by simp), same .rings (by simp), same .carriage (by simp), same .breakin (by simp), by rw [work], by rw [work],
      activePlan_congr work (same .plans (by simp))⟩ (by rw [work])
    ((Logs.of_sameBut (setSpan_sameBut s p x) (by simp) (by simp) (by simp)).trans (.post _ e)) (fun r' hr => ?_)
    ⟨fun u _ _ _ => ?_, fun h u => ?_⟩ apart_nil (by simp)
  · simpa only [List.append_nil] using formed
  · have other (side : Side) : (⟨r', side⟩ : SpanPort) ≠ p := fun he => hr (congrArg SpanPort.ring he)
    refine ⟨fun side => ?_, fun u => by rw [unit], fun u => ?_, fun u _ => ?_, fun u up => ?_, fun u => by rw [beacons]⟩
    · rw [spans, State.setSpan_spans, PerSpan.get_set, if_neg (other side)]
    · rw [State.present, State.present, beacons]
    · rw [State.mismatched, State.mismatched, beacons, unit]
    · rw [State.report, State.report, beacons]
  · rw [State.mismatched, State.mismatched, beacons, unit]
  · rw [beacons, unit]
    exact h u

theorem Deed.leaveUp (p : SpanPort) (cause : DownCause) (next : Span → Span) :
    Deed returns s (Machine.leaveUp p cause next s) := .hop p _ _

theorem Deed.enterUp (p : SpanPort) (g : Grade) (m : LinkMode) (partner : Partner) :
    Deed returns s (Machine.enterUp p g m partner s) := .hop p _ _

variable {p : SpanPort}

theorem Prelude.failAttempt (h : (s.spans.get p).state.hop = none) (fault : Option (LinkFault × List Field)) :
    Prelude s (Machine.failAttempt p fault s).1 := by
  unfold Machine.failAttempt
  dsimp only
  split
  · exact .setSpan (by exact h.symm)
  · split
    · exact .setSpan (by exact h.symm)
    · exact (Prelude.setSpan (by exact h.symm)).trans (.post _ _)

theorem Deed.failAttempt (h : (s.spans.get p).state.hop = none) (fault : Option (LinkFault × List Field)) :
    Deed returns s (Machine.failAttempt p fault s) := by
  have none : (Machine.failAttempt p fault s).2 = [] := by
    unfold Machine.failAttempt
    dsimp only
    split
    · rfl
    · split <;> rfl
  exact .idle (Prelude.failAttempt h fault).toAside (by rw [none]; exact apart_nil)

theorem Deed.resolve (h : (s.spans.get p).state.hop = none) (theirs : GradeSet) (identity : Nat) :
    Deed returns s (Machine.resolve p theirs identity s) := by
  unfold Machine.resolve
  split
  · exact .enterUp _ _ _ _
  · exact .failAttempt h _

theorem Deed.advertised (p : SpanPort) (theirs : GradeSet) (ack : Bool) (identity : Nat) (s : State) :
    Deed returns s (Machine.advertised p theirs ack identity s) := by
  unfold Machine.advertised
  dsimp only
  split
  next => exact .leaveUp _ _ _
  next hs =>
    split
    · refine .after (Prelude.setSpan (by rfl)) (.resolve ?_ _ _)
      rw [get_setSpan_self, hs]
      rfl
    · exact .still (.setSpan (by rfl))
  next => exact .nothing s

theorem Deed.patternSeen (p : SpanPort) (pattern : IdlePattern) (s : State) :
    Deed returns s (Machine.patternSeen p pattern s) := by
  unfold Machine.patternSeen
  dsimp only
  split
  · split
    · exact .nothing s
    · exact .leaveUp _ _ _
  · split
    · exact .nothing s
    · split <;> exact .still (.setSpan (by rfl))
  · exact .nothing s

theorem Deed.parallelUp (h : (s.spans.get p).state.hop = none) (pattern : IdlePattern) :
    Deed returns s (Machine.parallelUp p pattern s) := by
  unfold Machine.parallelUp
  split
  · exact .enterUp _ _ _ _
  · exact .failAttempt h _

theorem Deed.advertiseEnded (p : SpanPort) (s : State) : Deed returns s (Machine.advertiseEnded p s) := by
  unfold Machine.advertiseEnded
  dsimp only
  split
  next hs =>
    have down : (s.spans.get p).state.hop = none := by rw [hs]; rfl
    split
    · exact .failAttempt down _
    · split
      · exact .failAttempt down _
      · exact .parallelUp down _
      · exact .parallelUp down _
      · exact .failAttempt down _
  next => exact .nothing s

theorem Prelude.breakEnded (p : SpanPort) (s : State) : Prelude s (Machine.breakEnded p s) := by
  unfold Machine.breakEnded
  dsimp only
  split
  next hs => exact .setSpan (by rw [hs]; rfl)
  next => exact .refl s

/-- A test that ends leaves a port that is DOWN in another state in which it is DOWN. -/
theorem Prelude.endTest (h : (s.spans.get p).state.hop = none) (t : SpanTest) (ending : TestEnding) {next : Span → Span}
    (down : (next (s.spans.get p)).state.hop = none) : Prelude s (Machine.endTest p t ending next s) := by
  unfold Machine.endTest
  exact (Prelude.setSpan (by exact down.trans h.symm)).trans (.post _ _)

theorem running_eq_some {x : Span} {t : SpanTest} (h : x.running = some t) : x.state = .test ∧ x.test = some t := by
  unfold Span.running at h
  split at h
  next hs => exact ⟨hs, h⟩
  next => cases h

theorem Prelude.stopTest (p : SpanPort) (ending : TestEnding) (cond : SpanTest → Bool) (s : State) :
    Prelude s (Machine.stopTest p ending cond s) := by
  unfold Machine.stopTest
  split
  next t ht =>
    split
    · exact .endTest (by rw [(running_eq_some ht).1]; rfl) t ending rfl
    · exact .refl s
  next => exact .refl s

theorem Prelude.testLocked (p : SpanPort) (s : State) : Prelude s (Machine.testLocked p s) := by
  unfold Machine.testLocked
  dsimp only
  split
  · exact .setSpan (by rfl)
  · exact .refl s

theorem Prelude.testError (p : SpanPort) (s : State) : Prelude s (Machine.testError p s) := by
  unfold Machine.testError
  dsimp only
  split
  · exact .ite (.setSpan (by rfl)) (.refl s)
  · exact .refl s

theorem Deed.signalLost (p : SpanPort) (s : State) : Deed returns s (Machine.signalLost p s) := by
  unfold Machine.signalLost
  dsimp only
  split
  · exact .after (Prelude.setSpan (by rfl)) (.leaveUp _ _ _)
  · exact .still ((Prelude.setSpan (by rfl)).trans (.stopTest _ _ _ _))
  · exact .still (.setSpan (by rfl))

/-! ### The elasticity buffer (R34 to R37) -/

theorem Prelude.slipAt (p : SpanPort) (b : Buffer) (s : State) : Prelude s (Machine.slipAt p b s) := by
  unfold Machine.slipAt
  dsimp only
  split
  · exact (Prelude.setSpan (by rfl)).trans (.post _ _)
  · exact .setSpan (by rfl)

theorem Prelude.blockArrived (p : SpanPort) (block : UplinkBlock) (s : State) :
    Prelude s (Machine.blockArrived p block s) := by
  unfold Machine.blockArrived
  dsimp only
  split
  · split
    · exact .ite (.setSpan (by rfl)) (.slipAt _ _ s)
    · exact .setSpan (by rfl)
  · exact .refl s

theorem Span.ticked_hop (x : Span) (now : Nat) : (x.ticked now).state.hop = x.state.hop := by
  unfold Span.ticked
  split
  · rfl
  · split <;> rfl

theorem Aside.tickPorts (s : State) : Aside s (Machine.tickPorts s) := by
  have same := tickPorts_sameBut (s := s)
  have work : (Machine.tickPorts s).work = s.work := same .work (by simp)
  exact ⟨⟨same .clock (by simp), same .rings (by simp), same .carriage (by simp), same .breakin (by simp), by rw [work],
      by rw [work], activePlan_congr work (same .plans (by simp))⟩,
    .of_same (fun p => by rw [tickPorts_spans, Span.ticked_hop]) (by rw [work]) (same .beacons (by simp))⟩

theorem Deed.blockTicked (s : State) : Deed returns s (Machine.blockTicked s) := by
  rw [blockTicked_eq]
  refine .aside (.tickPorts s) fun h hm => ?_
  obtain ⟨ch, -, rfl⟩ := List.mem_map.1 hm
  simp [HandOver.apart, HandOver.reach]

theorem Prelude.thresholdChanged (p : SpanPort) (s : State) : Prelude s (Machine.thresholdChanged p s) := by
  unfold Machine.thresholdChanged
  exact .ite (.setSpan (by rfl)) (.refl s)

/-! ### Beacons (R30 to R33) -/

theorem setBeacon_get (s : State) (q p : Position) (x : BeaconRec) :
    posGet (s.setBeacon q x).beacons p = if p = q then x else posGet s.beacons p := by
  rw [State.setBeacon_beacons, posGet_posSet]

theorem setBeacon_mismatched {q p : Position} (h : p ≠ q) (x : BeaconRec) :
    (s.setBeacon q x).mismatched p = s.mismatched p := by
  rw [State.mismatched, State.mismatched, setBeacon_get, if_neg h]
  rfl

/-- A beacon record replaced by one of the same presence, verdict and reports changes no ring's inputs. -/
theorem setBeacon_inputs {q : Position} {x : BeaconRec} (status : x.status = (posGet s.beacons q).status)
    (verdict : (s.setBeacon q x).mismatched q = s.mismatched q) (reports : x.reports = (posGet s.beacons q).reports)
    (r : Ring) : RingInputs r s (s.setBeacon q x) := by
  refine ⟨fun _ => rfl, fun _ => rfl, fun u => ?_, fun u _ => ?_, fun u up => ?_, fun u => ?_⟩
  · rw [State.present, State.present, setBeacon_get]
    split
    next he => rw [he, status]
    next => rfl
  · by_cases he : ⟨r, u⟩ = q
    · rw [he, verdict]
    · exact setBeacon_mismatched he x
  · rw [State.report, State.report, setBeacon_get]
    by_cases he : ⟨r, u⟩ = q
    · rw [if_pos he, he, reports]
    · rw [if_neg he]
  · rw [setBeacon_get]
    split
    next he => rw [he, status]
    next => rfl

/-- A beacon record replaced changes the inputs of its own ring alone. -/
theorem setBeacon_others {q : Position} {x : BeaconRec} {r : Ring} (h : r ≠ q.ring) : RingInputs r s (s.setBeacon q x) := by
  have beacon (u : UnitNo) : posGet (s.setBeacon q x).beacons ⟨r, u⟩ = posGet s.beacons ⟨r, u⟩ := by
    rw [setBeacon_get, if_neg fun he => h (congrArg Position.ring he)]
  exact ⟨fun _ => rfl, fun _ => rfl, fun u => by rw [State.present, State.present, beacon],
    fun u _ => by rw [State.mismatched, State.mismatched, beacon]; rfl,
    fun u up => by rw [State.report, State.report, beacon], fun u => by rw [beacon]⟩

theorem Apart.setBeacon (s : State) (q : Position) (x : BeaconRec) : Apart s (s.setBeacon q x) :=
  ⟨rfl, rfl, rfl, rfl, rfl, rfl, rfl⟩

/-- A beacon record replaced, records posted, and the ring formed afresh, with its verdict judged where it has changed. -/
theorem Deed.beacon {q : Position} {x : BeaconRec} {tail : List HandOver} (cause : FeedCause) (judged : List UnitNo)
    (notes : List Note)
    (commissioned : (s.unit q).commissioned = true ∨ (posGet s.beacons q).status ≠ none) (status : x.status ≠ none)
    (verdict : q.unit ∉ judged → (s.setBeacon q x).mismatched q = s.mismatched q) (apart : ∀ h ∈ tail, h.apart)
    (few : (tail.map HandOver.weight).sum ≤ 1) :
    let y := feedEvent q.ring cause judged ((s.setBeacon q x).postAll notes)
    Deed returns s (y.1, y.2 ++ tail) := by
  intro y
  have posted := Prelude.postAll (s.setBeacon q x) notes
  have inputs := posted.inputs q.ring
  refine .formed q.ring cause judged ((Apart.setBeacon s q x).trans posted.toApart) posted.lists
    ((Logs.of_sameBut (setBeacon_sameBut s q x) (by simp) (by simp) (by simp)).trans posted.logs)
    (fun r' hr => (setBeacon_others hr).trans (posted.inputs r')) ⟨fun u hu hs hv => ?_, fun h u => ?_⟩ apart few
  · rw [inputs.mismatched u hs]
    by_cases he : ⟨q.ring, u⟩ = q
    · rw [he]
      exact verdict (by rwa [← congrArg Position.unit he])
    · exact setBeacon_mismatched he x
  · rw [inputs.commissioned, inputs.vacant, setBeacon_get]
    split
    next he =>
      have vacant := h u
      rw [he] at vacant ⊢
      refine iff_of_false status fun hc => ?_
      exact commissioned.elim (fun hc' => by cases hc.symm.trans hc') (fun hs => hs (vacant.2 hc))
    next => exact h u

theorem Deed.handBeacon (q : Position) (b : Beacon) (commissioned : (s.unit q).commissioned = true) :
    Deed returns s (Machine.handBeacon q b s) := by
  rw [handBeacon_eq, beaconFed, fedIf]
  have apart : ∀ h ∈ (if (posGet s.beacons q).amplifier = b.amplifier then [] else [HandOver.alloc q .amplifier]), h.apart := by
    intro h hm
    split at hm
    · cases hm
    · rw [List.mem_singleton.1 hm]
      exact alloc_apart _ _
  split
  next hears =>
    refine .beacon _ _ _ (.inl commissioned) nofun (fun hu => ?_) apart ?_
    · by_contra changed
      have judges : beaconJudges q b s = true := bne_iff_ne.2 fun he => changed he.symm
      rw [judges, if_pos rfl] at hu
      exact hu (List.mem_singleton_self _)
    · split <;> simp [HandOver.weight]
  next quiet =>
    simp only [Bool.not_eq_true, beaconHears, Bool.or_eq_false_iff] at quiet
    obtain ⟨⟨found, judged⟩, reports⟩ := quiet
    have present : (posGet s.beacons q).status = some .present := by simpa [beaconFinds] using found
    have verdict : (s.setBeacon q (beaconRecord b s.now)).mismatched q = s.mismatched q :=
      (bne_eq_false_iff_eq.1 judged).symm
    have posted := Prelude.postAll (s.setBeacon q (beaconRecord b s.now)) (beaconNotes q b s)
    have set : Aside s (s.setBeacon q (beaconRecord b s.now)) :=
      ⟨.setBeacon s q _, setBeacon_inputs present.symm verdict (not_not.1 (of_decide_eq_false reports)).symm⟩
    exact .aside (set.trans posted.toAside) (by rw [List.nil_append]; exact apart)

theorem Deed.beaconArrived (p : SpanPort) (b : Beacon) (s : State) : Deed returns s (Machine.beaconArrived p b s) := by
  unfold Machine.beaconArrived
  dsimp only
  split
  · split
    next q hq => exact .handBeacon q b (beaconPosition_eq_some.1 hq).2.2.2
    next => exact .still (.setSpan (by rfl))
  · exact .nothing s

theorem Deed.silenceEnded (q : Position) (s : State) : Deed returns s (Machine.silenceEnded q s) := by
  unfold Machine.silenceEnded
  dsimp only
  split
  next h =>
    have lost := Deed.beacon (returns := returns) (s := s) (q := q) (tail := [])
      (x := { posGet s.beacons q with status := some .lost, silence := none }) .unit []
      [⟨.ruLost, .alarm, .position q, []⟩] (.inr (by rw [h.1]; exact nofun)) nofun (fun _ => ?_) apart_nil (by simp)
    · simp only [List.append_nil] at lost
      exact lost
    · rw [State.mismatched, State.mismatched, setBeacon_get, if_pos rfl]
      rfl
  next => exact .nothing s

/-! ### Rings (R57, R59) -/

theorem Deed.restoreEvent (r : Ring) (cause : FeedCause) (why : (s.rings.get r).timer ≠ none → returns r s) :
    Deed returns s (Machine.restoreEvent r cause s) := by
  by_cases stopped : (s.rings.get r).timer = none
  · rw [restoreEvent_stopped cause stopped]
    exact .nothing s
  · exact .returned r cause stopped (why stopped)

end

end Sys2Proof.Machine
end

section
/-! SUPPORT. The deeds of the reference unit, the voters, the plan unit, the contacts and the control watch (chapters 4, 7, 9 and
10). -/

namespace Sys2Proof.Machine

open Sys2Proof

/-! ### Results that concern neither rings, queue nor planners -/

/-- A result that changes nothing of rings, queue and planners, and hands nothing on that reaches them. -/
structure Quiet (s : State) (y : Handed) : Prop where
  state : Aside s y.1
  hands : ∀ h ∈ y.2, h.apart

theorem Quiet.deed {returns : Ring → State → Prop} {s : State} {y : Handed} (h : Quiet s y) : Deed returns s y :=
  .idle h.state h.hands

theorem Quiet.still {s u : State} (h : Aside s u) : Quiet s (u, []) := ⟨h, apart_nil⟩

theorem Quiet.refl (s : State) : Quiet s (s, []) := .still (.refl s)

theorem Quiet.after {s u : State} {y : Handed} (h : Aside s u) (k : Quiet u y) : Quiet s y := ⟨h.trans k.state, k.hands⟩

theorem Quiet.ite {c : Prop} [Decidable c] {s : State} {x y : Handed} (hx : Quiet s x) (hy : Quiet s y) :
    Quiet s (if c then x else y) := by
  split
  · exact hx
  · exact hy

theorem Quiet.andThen {s : State} {x : Handed} {f : State → Handed} (hx : Quiet s x) (hf : Quiet x.1 (f x.1)) :
    Quiet s (andThen x f) :=
  ⟨hx.state.trans hf.state, fun h hm => (List.mem_append.1 hm).elim (hx.hands h) (hf.hands h)⟩

theorem allocEverywhere_apart (e : AllocEvent) : ∀ h ∈ allocEverywhere e, h.apart := by
  intro h hm
  obtain ⟨p, -, rfl⟩ := List.mem_map.1 hm
  exact alloc_apart p e

/-! ### The reference unit (chapter 4) -/

section
variable (s : State)

theorem Aside.setReference (r : RefRec) : Aside s { s with reference := r } :=
  .of_sameBut (setReference_sameBut s r) (by simp [concernedParts])

theorem Quiet.setReference (r : RefRec) : Quiet s ({ s with reference := r }, []) := .still (.setReference s r)

theorem Quiet.enterRef (new : RefRec) (cause : RefCause) : Quiet s (Machine.enterRef new cause s) where
  state := .of_sameBut (enterRef_sameBut new cause s) (by simp [concernedParts])
  hands := by
    unfold Machine.enterRef
    dsimp only
    split
    · exact apart_nil
    · exact allocEverywhere_apart _

theorem Quiet.passOnFree : Quiet s (Machine.passOnFree s) := by
  unfold Machine.passOnFree
  split
  · exact .enterRef s _ _
  · exact .refl s

theorem Quiet.enterFree (cause : RefCause) : Quiet s (Machine.enterFree cause s) :=
  .andThen (.enterRef s _ _) (.passOnFree _)

theorem Quiet.passOnHoldover (cause : RefCause) : Quiet s (Machine.passOnHoldover cause s) := by
  unfold Machine.passOnHoldover
  split
  · exact .ite (.refl s) (.enterRef s _ _)
  · exact .refl s

theorem Quiet.enterHoldover (forced : Bool) (cause : RefCause) : Quiet s (Machine.enterHoldover forced cause s) :=
  .andThen (.enterRef s _ _) (.passOnHoldover _ _)

theorem Quiet.preferenceChanged : Quiet s (Machine.preferenceChanged s) := by
  unfold Machine.preferenceChanged
  split
  · exact .refl s
  · exact .refl s
  · exact .refl s
  · exact .ite (.enterRef s _ _) (.refl s)
  · exact .ite (.enterRef s _ _) (.refl s)
  · exact .setReference s _

theorem Quiet.limitChanged : Quiet s (Machine.limitChanged s) := by
  unfold Machine.limitChanged
  split
  · exact .ite (.enterFree s _) (.refl s)
  · exact .refl s

theorem Quiet.settingsEvent (preferred limit : Bool) : Quiet s (Machine.settingsEvent preferred limit s) :=
  .andThen (.ite (.preferenceChanged s) (.refl s)) (.ite (.limitChanged _) (.refl _))

theorem Aside.sourceSignal (src : Source) (valid : Bool) : Aside s (Machine.sourceSignal src valid s) :=
  .ite (.refl s) (.setReference s _)

theorem Quiet.warmupEnded : Quiet s (Machine.warmupEnded s) := by
  unfold Machine.warmupEnded
  split
  · split <;> exact .enterRef s _ _
  · exact .refl s

theorem Quiet.appeared (src : Source) : Quiet s (Machine.appeared src s) := by
  unfold Machine.appeared
  split
  · exact .refl s
  · exact .passOnFree s
  · exact .ite (.enterRef s _ _) (.refl s)
  · exact .ite (.enterRef s _ _) (.refl s)
  · exact .setReference s _
  · exact .passOnHoldover s _

theorem Quiet.sourceAppears (src : Source) : Quiet s (Machine.sourceAppears src s) :=
  .after (.sourceSignal s src true) (.ite (.refl _) (.after (.setReference _ _) (.appeared _ src)))

theorem Quiet.vanished (src : Source) : Quiet s (Machine.vanished src s) := by
  unfold Machine.vanished
  split
  · exact .refl s
  · exact .refl s
  · exact .refl s
  · exact .ite (.enterFree s _) (.refl s)
  · exact .ite (.enterFree s _) (.refl s)
  · exact .ite (.enterHoldover s _ _) (.setReference s _)

theorem Quiet.sourceVanishes (src : Source) : Quiet s (Machine.sourceVanishes src s) :=
  .after (.sourceSignal s src false) (.ite (.after (.setReference _ _) (.vanished _ src)) (.refl _))

theorem Quiet.measured (e : Int) : Quiet s (Machine.measured e s) := by
  unfold Machine.measured
  refine .ite (.refl s) ?_
  dsimp only
  split
  · exact .ite (.ite (.enterRef s _ _) (.setReference s _)) (.setReference s _)
  · exact .ite (.ite (.enterRef s _ _) (.setReference s _))
      (.ite (.setReference s _) (.ite (.enterRef s _ _) (.setReference s _)))
  · exact .ite (.setReference s _) (.ite (.enterRef s _ _) (.setReference s _))
  · exact .refl s

theorem Quiet.switchEnded : Quiet s (Machine.switchEnded s) := .ite (.enterRef s _ _) (.refl s)

theorem Quiet.holdoverEnded : Quiet s (Machine.holdoverEnded s) := .ite (.enterFree s _) (.refl s)

/-! ### Voters (chapter 7) -/

theorem Quiet.setVoterState (ch : ChannelNo) (new : VoterRec) (cause : TalkCause) :
    Quiet s (Machine.setVoterState ch new cause s) where
  state := .of_sameBut (setVoterState_sameBut ch new cause s) (by simp [concernedParts])
  hands := by
    unfold Machine.setVoterState
    dsimp only
    split
    · exact allocEverywhere_apart _
    · split
      · exact allocEverywhere_apart _
      · exact apart_nil

theorem Quiet.baseKeyed (ch : ChannelNo) (asserted : Bool) : Quiet s (Machine.baseKeyed ch asserted s) := by
  unfold Machine.baseKeyed
  dsimp only
  refine .ite (.refl s) (.ite ?_ ?_)
  · split <;> exact .setVoterState s _ _ _
  · split <;> exact .setVoterState s _ _ _

theorem Quiet.hangEnd (ch : ChannelNo) : Quiet s (Machine.hangEnd ch s) := .ite (.setVoterState s _ _ _) (.refl s)

theorem Quiet.keyLimit (ch : ChannelNo) : Quiet s (Machine.keyLimit ch s) :=
  .ite (.after (Prelude.post s _).toAside (.setVoterState _ _ _ _)) (.refl s)

theorem Quiet.consoleKeyed (ch : ChannelNo) : Quiet s (Machine.consoleKeyed ch s).2 := by
  unfold Machine.consoleKeyed
  dsimp only
  split
  · exact .refl s
  · exact .setVoterState s _ _ _

theorem Quiet.consoleUnkeyed (ch : ChannelNo) : Quiet s (Machine.consoleUnkeyed ch s).2 := by
  unfold Machine.consoleUnkeyed
  dsimp only
  split
  · exact .setVoterState s _ _ _
  · exact .refl s

end

/-! ### The plan unit, contacts and the control watch (R149 to R159, R175) -/

section
variable {returns : Ring → State → Prop} {s : State}

theorem Deed.carryOut (t : TriggerNo) (source : ActivationSource) : Deed returns s (Machine.carryOut s t source) :=
  .activate _ _ _ _ _

/-- A record posted behind what an invocation comes to. -/
theorem Deed.invokeFrom (t : TriggerNo) (by_ : Invoker) (n : Note) :
    Deed returns s ((Machine.invokeFrom s t by_).2.1, (Machine.invokeFrom s t by_).2.2 ++ [.posts [n]]) := by
  have tail : ∀ h ∈ [HandOver.posts [n]], h.apart := fun h hm => List.mem_singleton.1 hm ▸ posts_apart [n]
  obtain ⟨-, ⟨-, h⟩ | ⟨-, h⟩ | ⟨-, -, h⟩⟩ := invokeFrom_cases s t by_ <;> rw [h]
  · exact .activated _ _ _ _ _ tail (by simp [HandOver.weight])
  · exact .aside (.refl s) tail
  · exact .aside (Prelude.post s _).toAside tail

theorem Prelude.setContact (s : State) (c : ContactNo) (x : ContactRec) : Prelude s (s.setContact c x) where
  toAside := ⟨⟨rfl, rfl, rfl, rfl, rfl, rfl, rfl⟩, .of_same (fun _ => rfl) rfl rfl⟩
  lists := rfl
  logs := .of_agree ⟨rfl, rfl, fun _ => ⟨rfl, rfl⟩⟩

theorem Prelude.setContactEntry (s : State) (c : ContactNo) (x : ContactEntry) : Prelude s (s.setContactEntry c x) where
  toAside := ⟨⟨rfl, rfl, rfl, rfl, rfl, rfl, rfl⟩, .of_same (fun _ => rfl) rfl rfl⟩
  lists := rfl
  logs := .of_agree ⟨rfl, rfl, fun _ => ⟨rfl, rfl⟩⟩

theorem Aside.setStack (s : State) (stack : List PlanNo) : Aside s { s with plans := { s.plans with stack := stack } } :=
  ⟨⟨rfl, rfl, rfl, rfl, rfl, rfl, rfl⟩, .of_same (fun _ => rfl) rfl rfl⟩

theorem Deed.contactActivated (c : ContactNo) (s : State) : Deed returns s (Machine.contactActivated c s) := by
  unfold Machine.contactActivated
  split
  · exact .aside (.refl s) fun h hm => List.mem_singleton.1 hm ▸ posts_apart _
  · exact .invokeFrom _ _ _

/-- A record posted behind what a release comes to. -/
theorem Deed.withdrawPlan (c : ContactNo) (t : TriggerNo) (p : PlanNo) (n : Note) :
    Deed returns s ((Machine.withdrawPlan c t p s).2.1, (Machine.withdrawPlan c t p s).2.2 ++ [.posts [n]]) := by
  have tail : ∀ h ∈ [HandOver.posts [n]], h.apart := fun h hm => List.mem_singleton.1 hm ▸ posts_apart [n]
  unfold Machine.withdrawPlan
  split
  · split
    · exact .activated _ _ _ _ _ tail (by simp [HandOver.weight])
    · exact .aside (.refl s) tail
  · split
    · exact .aside (.setStack s _) tail
    · exact .aside (.refl s) tail

theorem Deed.contactReleased (c : ContactNo) (s : State) : Deed returns s (Machine.contactReleased c s) := by
  unfold Machine.contactReleased
  dsimp only
  split
  · split
    · exact .withdrawPlan _ _ _ _
    · exact .aside (.refl s) fun h hm => List.mem_singleton.1 hm ▸ posts_apart _
  · exact .aside (.refl s) fun h hm => List.mem_singleton.1 hm ▸ posts_apart _

theorem Deed.judgeContact (c : ContactNo) (s : State) : Deed returns s (Machine.judgeContact c s) := by
  unfold Machine.judgeContact
  dsimp only
  split
  · exact .after (.setContact s c _) (.contactActivated _ _)
  · exact .after (.setContact s c _) (.contactActivated _ _)
  · exact .after (.setContact s c _) (.contactReleased _ _)
  · exact .still (.setContact s c _)

theorem Prelude.rawLevel (c : ContactNo) (level : Level) (s : State) : Prelude s (Machine.rawLevel c level s) :=
  .ite (.refl s) (.setContact s c _)

theorem Deed.debounced (c : ContactNo) (s : State) : Deed returns s (Machine.debounced c s) := by
  unfold Machine.debounced
  dsimp only
  split
  · exact .after (.setContact s c _) (.judgeContact _ _)
  · exact .nothing s

theorem Prelude.setWatch (s : State) (x : Watch) : Prelude s { s with watch := x } where
  toAside := ⟨⟨rfl, rfl, rfl, rfl, rfl, rfl, rfl⟩, .of_same (fun _ => rfl) rfl rfl⟩
  lists := rfl
  logs := .of_agree ⟨rfl, rfl, fun _ => ⟨rfl, rfl⟩⟩

theorem Deed.watchExpired (s : State) : Deed returns s (Machine.watchExpired s) := by
  unfold Machine.watchExpired
  split
  · split
    · exact .nothing s
    · dsimp only
      split
      · exact .after (.setWatch s _) (.invokeFrom _ _ _)
      · exact .aside (Prelude.setWatch s _).toAside fun h hm => List.mem_singleton.1 hm ▸ posts_apart _
  · exact .nothing s

end

end Sys2Proof.Machine
end

section
/-! SUPPORT. The break-in queue: what acceptance, removal and settlement make of a queue of whatever requests (R130 to R135). -/

namespace Sys2Proof.Machine

open Sys2Proof

/-! ### Players -/

theorem players_nodup {q : List BreakIn} : (q.filterMap BreakIn.player).Nodup ↔
    q.Pairwise fun x y => x.player.isSome = true → x.player ≠ y.player := by
  rw [List.Nodup, List.pairwise_filterMap]
  refine List.Pairwise.iff fun x y => ⟨fun h hs he => ?_, fun h p hp p' hp' he => ?_⟩
  · obtain ⟨p, hp⟩ := Option.isSome_iff_exists.1 hs
    exact h p hp p (he ▸ hp) rfl
  · subst he
    exact h (by simp [hp]) (hp.trans hp'.symm)

/-- The requests that hold a player are as many as the players they hold. -/
theorem filterMap_player_length (q : List BreakIn) :
    (q.filterMap BreakIn.player).length = (q.filter (·.player.isSome)).length :=
  List.length_filterMap_eq_countP.trans List.countP_eq_length_filter

/-! ### Queues that a settlement may take (R130, R131) -/

theorem QueueSound.ready {s : State} (h : QueueSound s) : QueueReady s.breakin.accepted s.breakin.queue :=
  ⟨h.size, h.ids, h.range, h.order, h.acceptances, h.accepted, players_nodup.2 h.players⟩

section
variable {n : Nat} {q q' : List BreakIn}

/-- A queue from which requests are removed. -/
theorem QueueReady.sublist (h : QueueReady n q) (sub : q'.Sublist q) : QueueReady n q' where
  size := sub.length_le.trans h.size
  ids := h.ids.sublist (sub.map _)
  range r hr := h.range r (sub.subset hr)
  order := h.order.sublist sub
  acceptances := h.acceptances.sublist (sub.map _)
  accepted r hr := h.accepted r (sub.subset hr)
  players := h.players.sublist (sub.filterMap _)

theorem QueueReady.priorities (h : QueueReady n q) : q.Pairwise fun x y => y.priority ≤ x.priority :=
  h.order.imp fun hxy => hxy.elim le_of_lt fun he => he.1.le

theorem freshId_le (q : List BreakIn) : freshId q ≤ 255 := by
  unfold freshId
  cases found : (List.range 256).find? fun n => 1 ≤ n && !q.any (·.id = n) with
  | none => simp
  | some n => exact Nat.le_of_lt_succ (List.mem_range.1 (List.mem_of_find?_eq_some found))

/-- A request without a player, of a fresh id and the next acceptance number, put in its place in a queue with room. -/
theorem QueueReady.insert {r : BreakIn} (h : QueueReady n q) (room : q.length < 8) (id : r.id = freshId q)
    (acceptance : r.acceptance = n + 1) (player : r.player = none) : QueueReady (n + 1) (insertBreakIn r q) := by
  obtain ⟨before, after, rfl, placed, hb, ha⟩ := insertBreakIn_place r h.priorities
  obtain ⟨one, unused, -⟩ := freshId_spec (q := before ++ after) (by omega)
  rw [placed]
  have perm : (before ++ r :: after).Perm (r :: (before ++ after)) := List.perm_middle
  have new {x : BreakIn} (hx : x ∈ before ++ after) : x.acceptance < r.acceptance :=
    acceptance ▸ Nat.lt_succ_of_le (h.accepted x hx)
  have all {P : BreakIn → Prop} (hr : P r) (hq : ∀ x ∈ before ++ after, P x) : ∀ x ∈ before ++ r :: after, P x := fun x hx =>
    (List.mem_cons.1 (perm.mem_iff.1 hx)).elim (fun he => he ▸ hr) (hq x)
  obtain ⟨sb, sa, sba⟩ := List.pairwise_append.1 h.order
  refine ⟨perm.length_eq.trans_le room, ?_, all ?_ h.range, ?_, ?_,
    all acceptance.le fun x hx => (h.accepted x hx).trans (Nat.le_succ n), ?_⟩
  · refine (perm.map BreakIn.id).nodup_iff.2 (List.nodup_cons.2 ⟨fun hm => ?_, h.ids⟩)
    obtain ⟨x, hx, he⟩ := List.mem_map.1 hm
    exact unused x hx (he.trans id)
  · rw [id]
    exact ⟨one, freshId_le _⟩
  · refine List.pairwise_append.2 ⟨sb, List.pairwise_cons.2 ⟨fun x hx => .inl (ha x hx), sa⟩, fun x hx y hy => ?_⟩
    rcases List.mem_cons.1 hy with rfl | hy
    · exact (hb x hx).lt_or_eq.imp_right fun he => ⟨he, new (List.mem_append_left _ hx)⟩
    · exact sba x hx y hy
  · refine (perm.map BreakIn.acceptance).nodup_iff.2 (List.nodup_cons.2 ⟨fun hm => ?_, h.acceptances⟩)
    obtain ⟨x, hx, he⟩ := List.mem_map.1 hm
    exact (new hx).ne he
  · rw [(perm.filterMap BreakIn.player).nodup_iff, List.filterMap_cons_none player]
    exact h.players

/-- An acceptance where the queue has room, or evicts (R130, R131). -/
theorem QueueReady.accept {x : Accepting} (h : QueueReady x.accepted x.queue) (source : BreakInSource) (p : Option PlanNo)
    (t : Template) : QueueReady (acceptBreakIn source p t x).accepted (acceptBreakIn source p t x).queue := by
  have kept : QueueReady x.accepted (if (evictedBy x.queue).isSome then x.queue.dropLast else x.queue) := by
    split
    · exact h.sublist (List.dropLast_sublist _)
    · exact h
  refine kept.insert ?_ rfl rfl rfl
  have size := h.size
  by_cases room : x.queue.length < 8
  · rw [evictedBy, if_pos room]
    exact room
  · have some : (evictedBy x.queue).isSome = true := by
      rw [evictedBy, if_neg room, List.getLast?_isSome]
      rintro empty
      simp [empty] at room
    rw [if_pos some, List.length_dropLast]
    omega

theorem QueueReady.postTemplates (s : State) (p : PlanNo) (ts : List Template) (i : Nat) {x : Accepting}
    (h : QueueReady x.accepted x.queue) :
    QueueReady (postTemplates s p i ts x).accepted (postTemplates s p i ts x).queue := by
  induction ts generalizing i x with
  | nil => exact h
  | cons t ts ih =>
    unfold Machine.postTemplates
    split
    · exact ih (i + 1) h
    · split
      · exact ih (i + 1) h
      · exact ih (i + 1) (h.accept .plan (some p) t)

end

/-! ### Settlement (R134) -/

/-- What a request is in the queue, whatever a settlement gives it. -/
def BreakIn.key (r : BreakIn) : Nat × List ZoneNo × Nat × Nat := (r.id, r.zones, r.priority, r.acceptance)

/-- What a settlement leaves of a request, and the state it gives it by player and zones. -/
theorem settleState_parts (now : Nat) (r : BreakIn) : (settleState now r).key = r.key ∧
    (settleState now r).player = r.player ∧ (settleState now r).owned = r.owned ∧
    (settleState now r).state = if r.player.isSome then .onAir else if r.owned = [] then .waiting else .held := by
  have parts (x : BreakInState) (c d : Prop) [Decidable c] [Decidable d] :
      let y := if c then { r with state := x, clipIndex := 1, page := 0 }
        else if d then { r with state := x, pageSince := now } else { r with state := x }
      y.key = r.key ∧ y.player = r.player ∧ y.owned = r.owned ∧ y.state = x := by
    split
    · exact ⟨rfl, rfl, rfl, rfl⟩
    · split <;> exact ⟨rfl, rfl, rfl, rfl⟩
  have empty : r.owned.isEmpty = decide (r.owned = []) := by cases r.owned <;> rfl
  simp only [settleState, empty, decide_eq_true_eq]
  exact parts _ _ _

section
variable (eligible : List Nat) (q : List BreakIn) (free : List PlayerNo)

theorem grantPlayers_map {α : Type} (f : BreakIn → α) (hf : ∀ r p, f { r with player := p } = f r) :
    (grantPlayers eligible q free).map f = q.map f := by
  induction q generalizing free with
  | nil => rfl
  | cons r q ih =>
    unfold grantPlayers
    split
    · split <;> simp [ih, hf]
    · simp [ih, hf]

/-- The players after a grant are those that the eligible requests held, and free ones. -/
theorem grantPlayers_players : ((grantPlayers eligible q free).filterMap BreakIn.player).Subperm
    ((q.filter fun r => decide (r.id ∈ eligible)).filterMap BreakIn.player ++ free) := by
  induction q generalizing free with
  | nil => simp [grantPlayers, List.nil_subperm]
  | cons r q ih =>
    unfold grantPlayers
    split
    next he =>
      rw [List.filter_cons_of_pos (by simpa using he)]
      cases hp : r.player with
      | some p =>
        rw [List.filterMap_cons_some hp, List.filterMap_cons_some hp]
        exact (List.subperm_cons p).2 (ih free)
      | none =>
        rw [List.filterMap_cons_none hp]
        cases free with
        | nil =>
          simp only
          rw [List.filterMap_cons_none hp]
          exact ih []
        | cons p free =>
          simp only
          rw [List.filterMap_cons_some (f := BreakIn.player) (b := p) rfl]
          exact ((List.subperm_cons p).2 (ih free)).trans List.perm_middle.symm.subperm
    next he =>
      rw [List.filter_cons_of_neg (by simpa using he), List.filterMap_cons_none rfl]
      exact ih free

/-- Where the free players are enough, the eligible requests and no others hold one. -/
theorem grantPlayers_eligible (enough : (q.filter fun r => decide (r.id ∈ eligible) && r.player.isNone).length ≤ free.length) :
    ∀ r ∈ grantPlayers eligible q free, r.player.isSome = decide (r.id ∈ eligible) := by
  induction q generalizing free with
  | nil => simp [grantPlayers]
  | cons r q ih =>
    unfold grantPlayers
    split
    next he =>
      cases hp : r.player with
      | some p =>
        rw [List.filter_cons_of_neg (by simp [hp])] at enough
        refine List.forall_mem_cons.2 ⟨?_, ih free enough⟩
        simp [hp, he]
      | none =>
        rw [List.filter_cons_of_pos (by simp [hp, he]), List.length_cons] at enough
        cases free with
        | nil => simp at enough
        | cons p free =>
          refine List.forall_mem_cons.2 ⟨?_, ih free (Nat.le_of_succ_le_succ enough)⟩
          simp [he]
    next he =>
      rw [List.filter_cons_of_neg (by simp [he])] at enough
      refine List.forall_mem_cons.2 ⟨?_, ih free enough⟩
      simp [he]

end

/-- A queue settled: the requests are as before but for their settlement, each owns the zones it is the first to name, the
eligible ones and no others hold a player, each another, and their states follow (R134). -/
structure Settles (q q' : List BreakIn) : Prop where
  keys : q'.map BreakIn.key = q.map BreakIn.key
  owned : ∀ r ∈ q', r.owned = ownedZones q r
  eligible : ∀ r ∈ q', r.player.isSome = decide (r.id ∈ eligibleIds q)
  states : ∀ r ∈ q', r.state = if r.player.isSome then .onAir else if r.owned = [] then .waiting else .held
  players : (q'.filterMap BreakIn.player).Nodup

section
variable {n : Nat} {q q' : List BreakIn}

/-- The players that no eligible request holds are enough for the eligible ones that hold none: four players, and four
eligible requests at most. -/
theorem freePlayers_enough (ids : (q.map BreakIn.id).Nodup) :
    (q.filter fun r => decide (r.id ∈ eligibleIds q) && r.player.isNone).length ≤ (freePlayers q).length := by
  let few := q.filter fun r => decide (r.id ∈ eligibleIds q)
  have four : few.length ≤ 4 := by
    rw [show few = _ from eligible_take ids]
    exact List.length_take_le ..
  have split : few.length = (few.filter (·.player.isSome)).length + (few.filter (·.player.isNone)).length := by
    have := List.length_eq_length_filter_add (l := few) (·.player.isSome)
    simpa [Option.not_isSome] using this
  have needing : (q.filter fun r => decide (r.id ∈ eligibleIds q) && r.player.isNone) = few.filter (·.player.isNone) := by
    rw [List.filter_filter]
    exact List.filter_congr fun r _ => Bool.and_comm ..
  let holds (p : PlayerNo) : Bool := q.any fun r => r.player = some p && decide (r.id ∈ eligibleIds q)
  have held : ((List.finRange 4).filter holds).length ≤ (few.filter (·.player.isSome)).length := by
    rw [← filterMap_player_length]
    refine (List.Nodup.subperm ((List.nodup_finRange 4).filter _) fun p hp => ?_).length_le
    obtain ⟨r, hr, hp⟩ := List.any_eq_true.1 (List.mem_filter.1 hp).2
    simp only [Bool.and_eq_true, decide_eq_true_eq] at hp
    exact List.mem_filterMap.2 ⟨r, List.mem_filter.2 ⟨hr, by simpa using hp.2⟩, hp.1⟩
  have players : 4 = ((List.finRange 4).filter holds).length + (freePlayers q).length :=
    List.length_finRange.symm.trans (List.length_eq_length_filter_add holds)
  rw [needing]
  omega

theorem freePlayers_nodup (h : (q.filterMap BreakIn.player).Nodup) :
    ((q.filter fun r => decide (r.id ∈ eligibleIds q)).filterMap BreakIn.player ++ freePlayers q).Nodup := by
  refine List.nodup_append.2 ⟨h.sublist (List.filter_sublist.filterMap _), (List.nodup_finRange 4).filter _, ?_⟩
  rintro p hp p' hf rfl
  obtain ⟨r, hr, he⟩ := List.mem_filterMap.1 hp
  obtain ⟨hq, hi⟩ := List.mem_filter.1 hr
  have := (List.mem_filter.1 hf).2
  simp only [Bool.not_eq_true', List.any_eq_false, Bool.and_eq_true, decide_eq_true_eq, not_and] at this
  exact this r hq he (of_decide_eq_true hi)

theorem settleQueue_settles (now : Nat) (h : QueueReady n q) : Settles q (settleQueue now q) := by
  let owned := q.map fun r => { r with owned := ownedZones q r }
  let granted := grantPlayers (eligibleIds q) owned (freePlayers q)
  have settled : settleQueue now q = granted.map (settleState now) := rfl
  have filtered (c : Nat → Option PlayerNo → Bool) : (owned.filter fun r => c r.id r.player).map (fun r => (r.id, r.player)) =
      (q.filter fun r => c r.id r.player).map fun r => (r.id, r.player) := by
    rw [List.filter_map, List.map_map]
    rfl
  have keys : granted.map BreakIn.key = q.map BreakIn.key := by
    rw [grantPlayers_map _ _ _ _ fun _ _ => rfl, List.map_map]
    rfl
  have ownedOf : ∀ r ∈ granted, r.owned = ownedZones q r := by
    have pairs : granted.map (fun r => (r.owned, ownedZones q r)) = owned.map fun r => (r.owned, ownedZones q r) :=
      grantPlayers_map _ _ _ _ fun _ _ => rfl
    intro r hr
    have := List.mem_map_of_mem (f := fun r => (r.owned, ownedZones q r)) hr
    rw [pairs] at this
    obtain ⟨o, ho, he⟩ := List.mem_map.1 this
    obtain ⟨x, hx, rfl⟩ := List.mem_map.1 ho
    obtain ⟨own, zones⟩ := Prod.mk.inj he
    exact own.symm.trans zones
  have eligible := grantPlayers_eligible (eligibleIds q) owned (freePlayers q) <| by
    refine le_trans (le_of_eq ?_) (freePlayers_enough h.ids)
    have := congrArg List.length (filtered fun i p => decide (i ∈ eligibleIds q) && p.isNone)
    rwa [List.length_map, List.length_map] at this
  have players : (granted.filterMap BreakIn.player).Nodup := by
    obtain ⟨l, hl, sub⟩ := grantPlayers_players (eligibleIds q) owned (freePlayers q)
    have same : (owned.filter fun r => decide (r.id ∈ eligibleIds q)).filterMap BreakIn.player =
        (q.filter fun r => decide (r.id ∈ eligibleIds q)).filterMap BreakIn.player := by
      have := congrArg (List.filterMap Prod.snd) (filtered fun i _ => decide (i ∈ eligibleIds q))
      rwa [List.filterMap_map, List.filterMap_map] at this
    rw [same] at sub
    exact hl.nodup_iff.1 ((freePlayers_nodup h.players).sublist sub)
  rw [settled]
  refine ⟨?_, fun r hr => ?_, fun r hr => ?_, fun r hr => ?_, ?_⟩
  · rw [List.map_map, ← keys]
    exact List.map_congr_left fun r _ => (settleState_parts now r).1
  · obtain ⟨o, ho, rfl⟩ := List.mem_map.1 hr
    obtain ⟨key, -, owned, -⟩ := settleState_parts now o
    have id : (settleState now o).id = o.id := (congrArg Prod.fst key :)
    have zones : (settleState now o).zones = o.zones := (congrArg (·.2.1) key :)
    rw [owned, ownedOf o ho, ownedZones, ownedZones, id, zones]
  · obtain ⟨o, ho, rfl⟩ := List.mem_map.1 hr
    obtain ⟨key, player, -, -⟩ := settleState_parts now o
    have id : (settleState now o).id = o.id := (congrArg Prod.fst key :)
    rw [player, id]
    exact eligible o ho
  · obtain ⟨o, ho, rfl⟩ := List.mem_map.1 hr
    obtain ⟨-, player, owned, state⟩ := settleState_parts now o
    rw [state, player, owned]
  · rw [List.filterMap_map]
    exact (List.filterMap_congr (g := BreakIn.player) fun r _ => (settleState_parts now r).2.1) ▸ players

/-- A map of the keys of a settled queue is that of the queue before. -/
theorem Settles.map {α : Type} (h : Settles q q') (f : BreakIn → α) (g : Nat × List ZoneNo × Nat × Nat → α)
    (hf : ∀ r, f r = g r.key) : q'.map f = q.map f := by
  have := congrArg (List.map g) h.keys
  rw [List.map_map, List.map_map] at this
  rwa [show f = g ∘ BreakIn.key from funext hf]

theorem Settles.ready (h : Settles q q') (k : QueueReady n q) : QueueReady n q' := by
  have all {P : Nat × List ZoneNo × Nat × Nat → Prop} (hq : ∀ r ∈ q, P r.key) : ∀ r ∈ q', P r.key := by
    have := List.forall_mem_map.2 hq
    rw [← h.keys] at this
    exact List.forall_mem_map.1 this
  refine ⟨?_, ?_, all k.range (P := fun x => 1 ≤ x.1 ∧ x.1 ≤ 255), ?_, ?_, all k.accepted (P := fun x => x.2.2.2 ≤ n), h.players⟩
  · have := congrArg List.length h.keys
    rw [List.length_map, List.length_map] at this
    exact this.trans_le k.size
  · rw [h.map BreakIn.id Prod.fst fun _ => rfl]
    exact k.ids
  · let lower (x y : Nat × List ZoneNo × Nat × Nat) : Prop := y.2.2.1 < x.2.2.1 ∨ (y.2.2.1 = x.2.2.1 ∧ x.2.2.2 < y.2.2.2)
    have := (List.pairwise_map (f := BreakIn.key) (R := lower)).2 k.order
    rw [← h.keys] at this
    exact List.pairwise_map.1 this
  · rw [h.map BreakIn.acceptance (·.2.2.2) fun _ => rfl]
    exact k.acceptances

theorem Settles.owner (h : Settles q q') (z : ZoneNo) :
    (q'.find? fun r => decide (z ∈ r.zones)).map BreakIn.id = (q.find? fun r => decide (z ∈ r.zones)).map BreakIn.id := by
  have found (l : List BreakIn) : (l.find? fun r => decide (z ∈ r.zones)).map BreakIn.id =
      ((l.map BreakIn.key).find? fun x => decide (z ∈ x.2.1)).map Prod.fst := by
    rw [List.find?_map, Option.map_map]
    rfl
  rw [found q', found q, h.keys]

theorem Settles.settled (h : Settles q q') (ids : (q.map BreakIn.id).Nodup) : QueueSettled q' := by
  refine ⟨fun r hr => ?_, ?_, h.states⟩
  · rw [h.owned r hr, ownedZones]
    refine List.filter_congr fun z _ => ?_
    rw [h.owner, zoneOwner]
    cases q.find? fun r => decide (z ∈ r.zones) <;> simp
  · have same : (q'.map BreakIn.id).Nodup := by rwa [h.map BreakIn.id Prod.fst fun _ => rfl]
    have owns (l : List BreakIn) : (l.filter fun r => !(ownedZones q r).isEmpty).map BreakIn.id =
        ((l.map BreakIn.key).filter fun x =>
          !(x.2.1.filter fun z => (zoneOwner q z).any (·.id = x.1)).isEmpty).map Prod.fst := by
      rw [List.filter_map, List.map_map]
      rfl
    have eligible : eligibleIds q = ((q'.filter fun r => !(ownedZones q r).isEmpty).take 4).map BreakIn.id := by
      rw [eligibleIds, List.map_take, List.map_take, owns, owns q', h.keys]
    calc q'.filter (·.player.isSome)
        = q'.filter fun r => decide (r.id ∈ eligibleIds q) := List.filter_congr h.eligible
      _ = (q'.filter fun r => !(ownedZones q r).isEmpty).take 4 := by
          rw [eligible]
          exact filter_mem_map_of_sublist ((List.take_sublist ..).trans List.filter_sublist) same
      _ = (q'.filter (·.owned ≠ [])).take 4 := by
          refine congrArg (List.take 4) (List.filter_congr fun r hr => ?_)
          rw [h.owned r hr]
          cases ownedZones q r <;> rfl

end

end Sys2Proof.Machine
end

section
/-! SUPPORT. The break-in unit stays sound: through settlements, changed zones, page ends and all that is handed on (R130, R134 to
R139). -/

namespace Sys2Proof.Machine

open Sys2Proof

/-- The zone that holds a position is the lowest that has it as a member. -/
theorem zoneOfPosition_eq_some {s : State} {p : Position} {z : ZoneNo} : s.zoneOfPosition p = some z ↔
    p ∈ s.work.zones[z] ∧ ∀ y < z, p ∉ s.work.zones[y] := by
  simp only [State.zoneOfPosition, List.find?_eq_some_iff_getElem, decide_eq_true_eq, List.length_finRange,
    List.getElem_finRange, Bool.not_eq_true', decide_eq_false_iff_not]
  refine and_congr_right fun _ => ⟨?_, fun h => ⟨z.val, z.isLt, rfl, fun y hy => h ⟨y, _⟩ hy⟩⟩
  rintro ⟨i, hi, rfl, lower⟩ y hy
  exact lower y.val hy

theorem zoneOfPosition_congr {s t : State} (h : t.work.zones = s.work.zones) : t.zoneOfPosition = s.zoneOfPosition :=
  funext fun p => by rw [State.zoneOfPosition, State.zoneOfPosition, h]

theorem QueueSound.congr {s t : State} (hb : t.breakin = s.breakin) (hz : t.work.zones = s.work.zones) (h : QueueSound s) :
    QueueSound t := by
  obtain ⟨size, ids, range, order, acceptances, accepted, settled, players, carrying, heard⟩ := h
  rw [← hb] at *
  exact ⟨size, ids, range, order, acceptances, accepted, settled, players, carrying, by
    rw [zoneOfPosition_congr hz]
    exact heard⟩

theorem carriedBy_eq_some {q : List BreakIn} {z : ZoneNo} {r : BreakIn} : carriedBy q z = some r ↔
    q.find? (z ∈ ·.zones) = some r ∧ r.state = .onAir := by
  simp [carriedBy, zoneOwner, Option.filter_eq_some_iff]

theorem zonesCarrying_get (q : List BreakIn) (z : ZoneNo) : (zonesCarrying q)[z] = (carriedBy q z).isSome :=
  tabulate_getElem _ z

/-! ### Settlements (R134, R135) -/

theorem settlement_queueSound {s : State} {removals : List Note} {q : List BreakIn} {n : Nat} (old : QueueSound s)
    (ready : QueueReady n q) : QueueSound
      (settlement removals q { s with breakin := { s.breakin with accepted := n } }).1 := by
  have settles := settleQueue_settles s.now ready
  obtain ⟨size, ids, range, order, acceptances, accepted, players⟩ := settles.ready ready
  refine ⟨size, ids, range, order, acceptances, accepted, settles.settled ready.ids, players_nodup.1 players,
    rfl, fun p m hm => ?_⟩
  have heard := posGet_forPositions (fun p => (s.zoneOfPosition p).bind fun z =>
    (carriedBy (settleQueue s.now q) z).bind fun r =>
      if (carriedBy s.breakin.queue z).any (·.acceptance = r.acceptance) then posGet s.breakin.heard p
      else some r.acceptance) p
  replace hm := heard.symm.trans hm
  obtain ⟨z, hz, hm⟩ := Option.bind_eq_some_iff.1 hm
  obtain ⟨r, hr, hm⟩ := Option.bind_eq_some_iff.1 hm
  obtain ⟨found, -⟩ := carriedBy_eq_some.1 hr
  have same : r.acceptance = m := by
    split at hm
    next kept =>
      obtain ⟨o, ho, he⟩ := (Option.any_eq_true _ _).1 kept
      obtain ⟨-, z', r', hz', -, found', rfl⟩ := old.heard p m hm
      obtain rfl := Option.some.inj (hz.symm.trans hz')
      obtain rfl := Option.some.inj ((carriedBy_eq_some.1 ho).1.symm.trans found')
      exact (of_decide_eq_true he).symm
    next => exact Option.some.inj hm
  refine ⟨same ▸ accepted r (List.mem_of_find?_eq_some found), z, r, hz, ?_, found, same⟩
  exact (zonesCarrying_get _ z).trans (by rw [hr]; rfl)

theorem activationEvent_queueSound {s : State} (h : QueueSound s) : QueueSound (activationEvent s).1 := by
  have ready := QueueReady.postTemplates s s.plans.active s.activePlan.templates 0
    (x := ⟨s.breakin.queue.filter (·.source ≠ .plan), s.breakin.accepted,
      (s.breakin.queue.filter (·.source = .plan)).map (doneNote · (some .plan))⟩) (h.ready.sublist List.filter_sublist)
  exact settlement_queueSound h ready

theorem handle_queueSound (h : HandOver) {s : State} (k : QueueSound s) : QueueSound (handle h s).1 := by
  by_cases active : h = .activation
  · subst active
    exact activationEvent_queueSound k
  · have same := handle_sameBut h s
    refine k.congr (same .breakin ?_) (congrArg Store.zones (same .work ?_)) <;> cases h <;> simp_all [HandOver.parts]

theorem settled_queueSound {x : Handed} (h : QueueSound x.1) : QueueSound (settled x) := by
  obtain ⟨-, sound⟩ := settle_keeps (I := fun s _ => QueueSound s) (fun _ _ _ _ h => h)
    (fun s cs _ k => k.congr (s := s) rfl rfl) (fun s h _ k => handle_queueSound h k) settleFuel x.2 x.1 h
  exact sound

/-! ### Zones and page ends (R14, R136, R137) -/

/-- A zone given members of no other zone: who still hears something hears it in the zone it was in (R14). -/
theorem changeZone_queueSound {s : State} {z : ZoneNo} {members : List Position} (free : zoneConflict s z members = none)
    (h : QueueSound s) : QueueSound (changeZone z members s).1 := by
  rw [zoneConflict_eq_none_iff] at free
  obtain ⟨size, ids, range, order, acceptances, accepted, settled, players, carrying, heard⟩ := h
  have zones (y : ZoneNo) : (s.work.zones.set z members)[y] = if y = z then members else s.work.zones[y] :=
    vector_get_set _ _ _ _
  have stays {t : State} (hz : t.work.zones = s.work.zones.set z members) {p : Position} {y : ZoneNo}
      (hy : s.zoneOfPosition p = some y) (kept : y = z → p ∈ members) : t.zoneOfPosition p = some y := by
    rw [zoneOfPosition_eq_some] at hy ⊢
    simp only [hz, zones]
    refine ⟨?_, fun x hx => ?_⟩
    · split
      next he => exact kept he
      next => exact hy.1
    · split
      next he => exact fun hm => free y (fun hne => hx.ne (he.trans hne.symm)) p hm hy.1
      next => exact hy.2 x hx
  unfold changeZone
  dsimp only
  split
  next air =>
    refine ⟨size, ids, range, order, acceptances, accepted, settled, players, carrying, fun p n hn => ?_⟩
    replace hn := (posGet_forPositions (fun p => if p ∈ s.work.zones[z] ∧ p ∉ members then none
      else posGet s.breakin.heard p) p).symm.trans hn
    split at hn
    next => cases hn
    next stayed =>
      obtain ⟨hle, y, r, hy, carried, found, same⟩ := heard p n hn
      refine ⟨hle, y, r, stays rfl hy (fun he => ?_), carried, found, same⟩
      by_contra gone
      exact stayed ⟨he ▸ (zoneOfPosition_eq_some.1 hy).1, gone⟩
  next silent =>
    refine ⟨size, ids, range, order, acceptances, accepted, settled, players, carrying, fun p n hn => ?_⟩
    obtain ⟨hle, y, r, hy, carried, found, same⟩ := heard p n hn
    refine ⟨hle, y, r, stays rfl hy (fun he => ?_), carried, found, same⟩
    subst he
    exact absurd carried silent

/-- What a page end leaves of a request that goes on (R136). -/
theorem advance_keeps (s : State) (r : BreakIn) : (advance s r).1.key = r.key ∧ (advance s r).1.player = r.player ∧
    (advance s r).1.owned = r.owned ∧ (advance s r).1.state = r.state := by
  unfold advance
  dsimp only
  split
  · exact ⟨rfl, rfl, rfl, rfl⟩
  · split
    · exact ⟨rfl, rfl, rfl, rfl⟩
    · split <;> exact ⟨rfl, rfl, rfl, rfl⟩

/-- A queue in which each request is replaced by one that is the same but for position and playback. -/
structure Replayed (f : BreakIn → BreakIn) : Prop where
  key : ∀ r, (f r).key = r.key
  player : ∀ r, (f r).player = r.player
  owned : ∀ r, (f r).owned = r.owned
  state : ∀ r, (f r).state = r.state

section
variable {f : BreakIn → BreakIn} (h : Replayed f)
include h

theorem Replayed.id (r : BreakIn) : (f r).id = r.id := (congrArg Prod.fst (h.key r) :)
theorem Replayed.zones (r : BreakIn) : (f r).zones = r.zones := (congrArg (·.2.1) (h.key r) :)
theorem Replayed.priority (r : BreakIn) : (f r).priority = r.priority := (congrArg (·.2.2.1) (h.key r) :)
theorem Replayed.acceptance (r : BreakIn) : (f r).acceptance = r.acceptance := (congrArg (·.2.2.2) (h.key r) :)

theorem Replayed.find (q : List BreakIn) (z : ZoneNo) :
    (q.map f).find? (z ∈ ·.zones) = (q.find? (z ∈ ·.zones)).map f := by
  rw [List.find?_map]
  refine congrArg (Option.map f) (congrArg (fun p => q.find? p) (funext fun r => ?_))
  rw [Function.comp_apply, h.zones]

theorem Replayed.settled {q : List BreakIn} (k : QueueSettled q) : QueueSettled (q.map f) := by
  obtain ⟨owned, players, states⟩ := k
  refine ⟨List.forall_mem_map.2 fun r hr => ?_, ?_, List.forall_mem_map.2 fun r hr => ?_⟩
  · rw [h.owned, owned r hr, h.zones, h.id]
    refine List.filter_congr fun z _ => ?_
    rw [h.find, Option.map_map, show BreakIn.id ∘ f = BreakIn.id from funext h.id]
  · rw [List.filter_map, List.filter_map, ← List.map_take]
    simp only [Function.comp_def, h.player, h.owned]
    rw [players]
  · rw [h.state, h.player, h.owned]
    exact states r hr

theorem Replayed.carriedBy (q : List BreakIn) (z : ZoneNo) : carriedBy (q.map f) z = (carriedBy q z).map f := by
  have found := h.find q z
  simp only [Machine.carriedBy, zoneOwner]
  rw [found]
  cases q.find? (z ∈ ·.zones) with
  | none => rfl
  | some r => simp [Option.filter_some, h.state, apply_ite (Option.map f)]

theorem Replayed.zonesCarrying (q : List BreakIn) : zonesCarrying (q.map f) = zonesCarrying q := by
  refine congrArg tabulate (funext fun z => ?_)
  rw [h.carriedBy, Option.isSome_map]

end

/-- What a page end makes of the requests: `r` goes on, the others stay (R136). -/
def pagedOn (s : State) (r x : BreakIn) : BreakIn := if x = r then (advance s r).1 else x

theorem pagedOn_replayed (s : State) (r : BreakIn) : Replayed (pagedOn s r) := by
  obtain ⟨key, player, owned, state⟩ := advance_keeps s r
  refine ⟨fun x => ?_, fun x => ?_, fun x => ?_, fun x => ?_⟩ <;>
  · simp only [pagedOn]
    split
    next he => simp only [he, key, player, owned, state]
    next => rfl

/-- The request of a player goes on to its next page (R136, R137). -/
theorem paged_queueSound {s : State} {p : PlayerNo} {r : BreakIn} (hr : s.breakin.queue.find? (·.player = some p) = some r)
    (h : QueueSound s) : QueueSound { s with breakin := { s.breakin with
      queue := s.breakin.queue.map fun x => if x.id = r.id then (advance s r).1 else x
      heard := heardFrom s r } } := by
  have mem : r ∈ s.breakin.queue := List.mem_of_find?_eq_some hr
  obtain ⟨size, ids, range, order, acceptances, accepted, settled, players, carrying, heard⟩ := h
  have same : (s.breakin.queue.map fun x => if x.id = r.id then (advance s r).1 else x) = s.breakin.queue.map (pagedOn s r) := by
    refine List.map_congr_left fun x hx => if_congr ⟨fun he => ?_, fun he => he ▸ rfl⟩ rfl rfl
    exact List.inj_on_of_nodup_map ids hx mem he
  have replayed := pagedOn_replayed s r
  rw [same]
  have ids_eq : (s.breakin.queue.map (pagedOn s r)).map BreakIn.id = s.breakin.queue.map BreakIn.id := by
    rw [List.map_map]
    exact List.map_congr_left fun x _ => replayed.id x
  have acceptances_eq : (s.breakin.queue.map (pagedOn s r)).map BreakIn.acceptance = s.breakin.queue.map BreakIn.acceptance := by
    rw [List.map_map]
    exact List.map_congr_left fun x _ => replayed.acceptance x
  refine ⟨by simpa using size, ids_eq ▸ ids, List.forall_mem_map.2 fun x hx => ?_, List.pairwise_map.2 (order.imp fun h => ?_),
    acceptances_eq ▸ acceptances, List.forall_mem_map.2 fun x hx => ?_, replayed.settled settled,
    List.pairwise_map.2 (players.imp fun h => ?_), ?_, fun q n hn => ?_⟩
  · rw [replayed.id]
    exact range x hx
  · simpa only [replayed.priority, replayed.acceptance] using h
  · rw [replayed.acceptance]
    exact accepted x hx
  · simpa only [replayed.player] using h
  · exact carrying.trans (replayed.zonesCarrying _).symm
  · replace hn := (posGet_forPositions (fun q => if (s.zoneOfPosition q).any (· ∈ r.owned) then some r.acceptance
      else posGet s.breakin.heard q) q).symm.trans hn
    have found (z : ZoneNo) : (s.breakin.queue.map (pagedOn s r)).find? (z ∈ ·.zones) = _ := replayed.find s.breakin.queue z
    split at hn
    next member =>
      obtain rfl := Option.some.inj hn
      obtain ⟨z, hz, owns⟩ := (Option.any_eq_true _ _).1 member
      have owns : z ∈ r.owned := of_decide_eq_true owns
      have onAir : r.state = .onAir := by
        have held : r.player = some p := by simpa using List.find?_some hr
        rw [settled.states r mem, held]
        rfl
      have owner : s.breakin.queue.find? (z ∈ ·.zones) = some r := by
        rw [settled.owned r mem] at owns
        obtain ⟨o, ho, he⟩ := Option.map_eq_some_iff.1 (of_decide_eq_true (List.mem_filter.1 owns).2)
        rw [ho, List.inj_on_of_nodup_map ids (List.mem_of_find?_eq_some ho) mem he]
      refine ⟨accepted r mem, z, pagedOn s r r, hz, ?_, (found z).trans (by rw [owner]; rfl), replayed.acceptance r⟩
      show s.breakin.carrying[z] = true
      rw [carrying, zonesCarrying_get, carriedBy_eq_some.2 ⟨owner, onAir⟩]
      rfl
    next =>
      obtain ⟨hle, z, x, hz, carried, owner, rfl⟩ := heard q n hn
      exact ⟨hle, z, pagedOn s r x, hz, carried, (found z).trans (by rw [owner]; rfl), replayed.acceptance x⟩

end Sys2Proof.Machine
end

section
/-! SUPPORT. The deeds of the requests (R168 to R178). -/

namespace Sys2Proof.Machine

open Sys2Proof

/-- A command may return a ring's waiting units: as the expiry of its timer, as a RING REVERT of it, or as a PORT CONFIG of one
of its ports with a time that the timer has reached in `v` (R57 to R59). -/
def Returning (c : Instr) (r : Ring) (v : State) : Prop :=
  c = .waitToRestoreExpiry r ∨ Asks c (.ringRevert (ringNumber r)) ∨
    ∃ since, (v.rings.get r).timer = some since ∧ (v.work.rings.get r).restore * 1000 ≤ v.now - since ∧
      ∃ (a : PortConfigArgs) (side : Side), a.port = spanNumber ⟨r, side⟩ ∧ a.restore ≠ none ∧ Asks c (.portConfig a)

section
variable {returns : Ring → State → Prop}

/-! ### The break-in unit (R131, R133, R136) -/

theorem Deed.pageEnded (p : PlayerNo) (s : State) : Deed returns s (Machine.pageEnded p s) := by
  unfold Machine.pageEnded
  split
  next => exact .nothing s
  next r hr =>
    split
    · exact .nothing s
    · dsimp only
      split
      · exact .settled _ _ s.breakin.accepted (by simp) fun h => h.ready.sublist List.filter_sublist
      · exact .paged _ rfl (paged_queueSound hr)

theorem acceptBreakIn_few (source : BreakInSource) (t : Template) (q : List BreakIn) (n : Nat) :
    (acceptBreakIn source none t ⟨q, n, []⟩).notes.length ≤ 12 := by
  simp only [acceptBreakIn, List.nil_append, Option.length_toList]
  split <;> split <;> omega

theorem Deed.breakinPost (port : MgmtPort) (a : BreakInArgs) (s : State) :
    Deed returns s (Machine.breakinPost port a s).handed := by
  unfold Machine.breakinPost
  split
  · exact .nothing s
  · split
    · exact .nothing s
    · split
      · exact .nothing s
      · exact .settled _ _ _ (acceptBreakIn_few _ _ _ _) fun h =>
          QueueReady.accept (x := ⟨s.breakin.queue, s.breakin.accepted, []⟩) h.ready _ none _

theorem Deed.breakinWithdraw (authority : Authority) (id : Nat) (s : State) :
    Deed returns s (Machine.breakinWithdraw authority id s).handed := by
  unfold Machine.breakinWithdraw
  split
  · exact .nothing s
  · split
    · exact .nothing s
    · split
      · exact .nothing s
      · exact .settled _ _ s.breakin.accepted (by simp) fun h => h.ready.sublist List.filter_sublist

/-! ### Catalogue, Remote Unit Table and zones (R4, R5, R10, R13) -/

theorem Deed.carrierSet (a : CarrierSetArgs) (s : State) : Deed returns s (Machine.carrierSet a s).handed := by
  unfold Machine.carrierSet
  split
  · split
    · exact .nothing s
    · split
      · exact .nothing s
      · split
        · exact .nothing s
        · split
          · exact .nothing s
          · dsimp only
            split
            · exact .nothing s
            · split
              · exact .nothing s
              · exact .catalogued _ _
  · exact .nothing s

theorem Deed.carrierClear (carrier : Nat) (s : State) : Deed returns s (Machine.carrierClear carrier s).handed := by
  unfold Machine.carrierClear
  split
  · exact .nothing s
  · split
    · exact .nothing s
    · split
      · exact .nothing s
      · split
        · exact .nothing s
        · exact .catalogued _ none

section
variable {p : Position} {new : RuRecord} {s : State}

theorem unitModel_apart (old : RuRecord) : ∀ h ∈ unitModel p old new, h.apart := by
  unfold unitModel
  split
  · exact fun h hm => List.mem_singleton.1 hm ▸ alloc_apart _ _
  · exact apart_nil

theorem unitModel_few (old : RuRecord) : ((unitModel p old new).map HandOver.weight).sum ≤ 1 := by
  unfold unitModel
  split <;> simp [HandOver.weight]

/-- A record of the Remote Unit Table replaced where the ring is not concerned. -/
theorem setUnit_aside (h : ¬RingConcerned p new s) : Aside s (s.setUnit p new) := by
  obtain ⟨commissioned, identity⟩ := not_or.1 h
  replace commissioned := not_not.1 commissioned
  have unit (q : Position) : (s.setUnit p new).unit q = if q = p then new else s.unit q := posGet_posSet _ _ _ _
  refine ⟨⟨rfl, rfl, rfl, rfl, rfl, rfl, rfl⟩, fun r => ⟨fun _ => rfl, fun u => ?_, fun _ => rfl, fun u hu => ?_,
    fun _ _ => rfl, fun _ => .rfl⟩⟩
  · rw [unit]
    split
    next he => rw [he, commissioned]
    next => rfl
  · rw [State.mismatched, State.mismatched, unit]
    by_cases he : ⟨r, u⟩ = p
    · rw [he] at hu ⊢
      have : (s.unit p).identity = new.identity := by_contra fun hne => identity ⟨commissioned.symm.trans hu, hne⟩
      rw [if_pos rfl, this]
      rfl
    · rw [if_neg he]
      rfl

theorem unitRecorded_apart : Apart s (unitRecorded p new s) := by
  have same := unitRecorded_sameBut p new s
  have work : (unitRecorded p new s).work = (s.setUnit p new).work := same .work (by simp)
  have plans : (unitRecorded p new s).plans = s.plans := same .plans (by simp)
  refine ⟨same .clock (by simp), same .rings (by simp), same .carriage (by simp), same .breakin (by simp), by rw [work]; rfl,
    by rw [work]; rfl, ?_⟩
  simp only [State.activePlan, work, plans]
  rfl

/-- A record of the Remote Unit Table replaced changes the inputs of its own ring alone. -/
theorem unitRecorded_others {r : Ring} (h : r ≠ p.ring) : RingInputs r s (unitRecorded p new s) := by
  have other (u : UnitNo) : (⟨r, u⟩ : Position) ≠ p := fun he => h (congrArg Position.ring he)
  have unit (u : UnitNo) : (unitRecorded p new s).unit ⟨r, u⟩ = s.unit ⟨r, u⟩ :=
    (unitRecorded_unit p new s _).trans (if_neg (other u))
  have beacon (u : UnitNo) : posGet (unitRecorded p new s).beacons ⟨r, u⟩ = posGet s.beacons ⟨r, u⟩ :=
    (unitRecorded_beacons p new s _).trans (if_neg fun h => other u h.1)
  have spans : (unitRecorded p new s).spans = s.spans := unitRecorded_sameBut p new s .spans (by simp)
  exact ⟨fun _ => by rw [spans], fun u => by rw [unit], fun u => by rw [State.present, State.present, beacon],
    fun u _ => by rw [State.mismatched, State.mismatched, beacon, unit],
    fun u up => by rw [State.report, State.report, beacon], fun u => by rw [beacon]⟩

/-- The verdict is judged afresh where it changes at a position that stays commissioned, and a position has a beacon record as
it comes to be commissioned (R31, R32). -/
theorem unitRecorded_reforms :
    Reforms p.ring (if judgedAfresh p new s then [p.unit] else []) s (unitRecorded p new s) := by
  refine ⟨fun u hu hs hv => ?_, fun h u => ?_⟩
  · by_cases he : ⟨p.ring, u⟩ = p
    · rw [he] at hs hv ⊢
      have commissioned : new.commissioned = true := by rwa [unitRecorded_unit, if_pos rfl] at hv
      have unjudged : judgedAfresh p new s = false := Bool.eq_false_iff.2 fun judged => by
        rw [if_pos judged] at hu
        exact hu (List.mem_singleton.2 (congrArg Position.unit he))
      rw [judgedAfresh, commissioned, hs] at unjudged
      exact (bne_eq_false_iff_eq.1 unjudged).symm
    · rw [State.mismatched, State.mismatched, unitRecorded_unit, if_neg he, unitRecorded_beacons, if_neg fun h => he h.1]
  · rw [unitRecorded_beacons, unitRecorded_unit]
    by_cases he : ⟨p.ring, u⟩ = p
    · have vacant := h u
      rw [he] at vacant ⊢
      rw [if_pos rfl]
      by_cases changed : (s.unit p).commissioned = new.commissioned
      · rw [if_neg fun h => h.2 changed, vacant, changed]
      · rw [if_pos ⟨rfl, changed⟩]
        cases new.commissioned <;> simp
    · rw [if_neg he, if_neg fun h => he h.1]
      exact h u

end

theorem Deed.changeUnit (p : Position) (new : RuRecord) (s : State) : Deed returns s (Machine.changeUnit p new s) := by
  by_cases concerned : RingConcerned p new s
  · have posted := Prelude.postAll (unitRecorded p new s) (mismatchNotes p new s)
    have set := unitRecorded_sameBut p new s
    have written : SameBut [.work] s (s.setUnit p new) := fun x hx => by
      cases x <;> simp [Part.same, State.setUnit] at hx ⊢
    have fed : Machine.changeUnit p new s = ((feedEvent p.ring .model (if judgedAfresh p new s then [p.unit] else [])
        ((unitRecorded p new s).postAll (mismatchNotes p new s))).1, (feedEvent p.ring .model
          (if judgedAfresh p new s then [p.unit] else []) ((unitRecorded p new s).postAll (mismatchNotes p new s))).2 ++
        unitModel p (s.unit p) new) := by
      have judged : (new.commissioned && (s.unit p).commissioned && s.mismatched p != (unitRecorded p new s).mismatched p) =
          judgedAfresh p new s := rfl
      unfold RingConcerned at concerned
      have := show unitFed p (s.unit p) new (s.mismatched p) (unitRecorded p new s) = feedEvent p.ring .model
          (if judgedAfresh p new s then [p.unit] else []) ((unitRecorded p new s).postAll (mismatchNotes p new s)) by
        simp only [unitFed, mismatchNotes, judged, concerned, if_true]
        cases judgedAfresh p new s <;> rfl
      exact congrArg (fun x : Handed => (x.1, x.2 ++ unitModel p (s.unit p) new)) this
    rw [fed]
    have work : (unitRecorded p new s).work = (s.setUnit p new).work := set .work (by simp)
    have lists : (unitRecorded p new s).work.plans = s.work.plans := by rw [work]; rfl
    refine .formed _ _ _ (unitRecorded_apart.trans posted.toApart) (posted.lists.trans lists)
      (((Logs.of_sameBut written (by simp) (by simp) (by simp)).trans
        (Logs.of_sameBut set (by simp) (by simp) (by simp))).trans posted.logs)
      (fun r hr => (unitRecorded_others hr).trans (posted.inputs r)) ?_ (unitModel_apart _) (unitModel_few _)
    obtain ⟨verdict, vacant⟩ := unitRecorded_reforms (p := p) (new := new) (s := s)
    have inputs := posted.inputs p.ring
    refine ⟨fun u hu hs hv => ?_, fun h u => ?_⟩
    · rw [inputs.commissioned] at hv
      rw [inputs.mismatched u hv]
      exact verdict u hu hs hv
    · rw [inputs.commissioned, inputs.vacant]
      exact vacant h u
  · rw [changeUnit_idle p new s concerned]
    exact .aside (setUnit_aside concerned) (unitModel_apart _)

theorem Deed.ruSet (a : RuSetArgs) (s : State) : Deed returns s (Machine.ruSet a s).handed := by
  unfold Machine.ruSet
  split
  · exact .nothing s
  · split
    · exact .nothing s
    · dsimp only
      split
      · exact .nothing s
      · exact .changeUnit _ _ s

theorem Deed.zoneSet (a : ZoneSetArgs) (s : State) : Deed returns s (Machine.zoneSet a s).handed := by
  unfold Machine.zoneSet
  split
  · dsimp only
    split
    · exact .nothing s
    · split
      · exact .nothing s
      next free => exact .rezoned _ _ free
  · exact .nothing s

/-! ### Span ports and rings (chapters 2 and 3) -/

section
variable {c : Instr} {s : State}

theorem Deed.ringRevert {ring : Nat} (asks : Asks c (.ringRevert ring)) (s : State) :
    Deed (Returning c) s (Machine.ringRevert ring s).handed := by
  unfold Machine.ringRevert
  split
  next => exact .nothing s
  next r hr =>
    split
    · exact .nothing s
    · exact .restoreEvent r _ fun _ => .inr (.inl (by rwa [ringOf_eq_some.1 hr]))

theorem Deed.portRenegotiate (port : Nat) (s : State) : Deed returns s (Machine.portRenegotiate port s).handed := by
  unfold Machine.portRenegotiate
  split
  next => exact .nothing s
  next p _ =>
    dsimp only
    split
    next => exact .nothing s
    next => exact .nothing s
    next hs => exact .still (.setSpan (by rw [hs]; rfl))
    next hs => exact .still (.setSpan (by rw [hs]; rfl))
    next =>
      rw [done_handed]
      exact .leaveUp p _ _

theorem Deed.portDisable (port : Nat) (s : State) : Deed returns s (Machine.portDisable port s).handed := by
  unfold Machine.portDisable
  split
  next => exact .nothing s
  next p _ =>
    dsimp only
    split
    next => exact .nothing s
    next hs => exact .still (.setSpan (by rw [hs]; rfl))
    next hs => exact .still (.setSpan (by rw [hs]; rfl))
    next =>
      rw [done_handed]
      exact .leaveUp p _ _
    next hs =>
      split
      · exact .still (.endTest (by rw [hs]; rfl) _ _ (by rfl))
      · exact .still (.setSpan (by rw [hs]; rfl))

theorem Prelude.portEnable (port : Nat) (s : State) : Prelude s (Machine.portEnable port s).state := by
  unfold Machine.portEnable
  split
  · exact .refl s
  · dsimp only
    split
    next hs => exact .setSpan (by rw [hs]; rfl)
    next => exact .refl s

theorem Prelude.setSettings (s : State) (r : Ring) (x : RingSettings) : Prelude s (s.setSettings r x) where
  toAside := ⟨⟨rfl, rfl, rfl, rfl, rfl, rfl, rfl⟩, .of_same (fun _ => rfl) rfl rfl⟩
  lists := rfl
  logs := .of_agree ⟨rfl, rfl, fun _ => ⟨rfl, rfl⟩⟩

/-- A time that a running timer has reached returns the units (R58). -/
theorem Deed.restoreTimeChanged (r : Ring) (why : ∀ since, (s.rings.get r).timer = some since →
    (s.work.rings.get r).restore * 1000 ≤ s.now - since → returns r s) : Deed returns s (Machine.restoreTimeChanged r s) := by
  unfold Machine.restoreTimeChanged
  split
  next since ht =>
    split
    next reached => exact .restoreEvent r _ fun _ => why since ht reached
    next => exact .nothing s
  next => exact .nothing s

theorem Deed.portConfig {a : PortConfigArgs} (asks : Asks c (.portConfig a)) (s : State) :
    Deed (Returning c) s (Machine.portConfig a s).handed := by
  unfold Machine.portConfig
  split
  next => exact .nothing s
  next p hp =>
    split
    · exact .nothing s
    · split
      · exact .nothing s
      · split
        · exact .nothing s
        · dsimp only [written_handed]
          split
          · exact .still ((Prelude.setSettings s _ _).trans (.ite (.refl _) (.thresholdChanged p _)))
          next changed =>
            refine .after ((Prelude.setSettings s _ _).trans (.ite (.refl _) (.thresholdChanged p _)))
              (.restoreTimeChanged _ fun since ht reached => .inr (.inr ⟨since, ht, reached, a, p.side, ?_, ?_, asks⟩))
            · exact (spanOf_eq_some.1 hp).symm
            · intro none
              exact changed (by rw [none]; rfl)

theorem Deed.spanTestStart (a : SpanTestArgs) (s : State) : Deed returns s (Machine.spanTestStart a s).handed := by
  unfold Machine.spanTestStart
  split
  next => exact .nothing s
  next p _ =>
    split
    · dsimp only
      split
      · exact .nothing s
      · split
        · exact .nothing s
        · rw [done_handed]
          split
          · exact .leaveUp p _ _
          next down => exact .still (.setSpan (by
            cases hs : (s.spans.get p).state <;> simp_all [Span.isUp, PortState.hop]))
    · exact .nothing s

theorem Prelude.spanTestStop (port : Nat) (s : State) : Prelude s (Machine.spanTestStop port s).state := by
  unfold Machine.spanTestStop
  split
  next => exact .refl s
  next p _ =>
    split
    next => exact .refl s
    next t ht =>
      simp only [done_state]
      exact .endTest (by rw [(running_eq_some ht).1]; rfl) t _ (by rfl)

end

end

end Sys2Proof.Machine
end

section
/-! SUPPORT. The deed of every command but a reset: the other requests, the events, and how a request's reply stands beside its
deed (R165 to R178). -/

namespace Sys2Proof.Machine

open Sys2Proof

section
variable {returns : Ring → State → Prop} (s : State)

/-! ### The reference unit and the voters (R64, R72, R116, R121) -/

theorem Quiet.refConfig (a : RefConfigArgs) : Quiet s (Machine.refConfig a s).handed := by
  have settings (x : RefSettings) : Aside s { s with work := { s.work with reference := x } } :=
    ⟨⟨rfl, rfl, rfl, rfl, rfl, rfl, rfl⟩, .of_same (fun _ => rfl) rfl rfl⟩
  unfold Machine.refConfig
  split
  · exact .refl s
  · split
    · exact .refl s
    · exact .after (settings _) (.settingsEvent _ _ _)

theorem Quiet.refForceHoldover : Quiet s (Machine.refForceHoldover s).handed := by
  unfold Machine.refForceHoldover
  split
  · exact .enterHoldover s _ _
  · exact .refl s

theorem Quiet.refResume : Quiet s (Machine.refResume s).handed := by
  unfold Machine.refResume
  split
  · exact .after (.setReference s _) (.passOnHoldover _ _)
  · exact .refl s

theorem Quiet.portalTalk (port : MgmtPort) (channel : Nat) {act : ChannelNo → State → Answer × Handed}
    (h : ∀ ch, Quiet s (act ch s).2) : Quiet s (Machine.portalTalk port channel s act).handed := by
  unfold Machine.portalTalk
  split
  · exact .refl s
  · exact .refl s
  · exact h _

theorem Quiet.voterConfig (a : VoterConfigArgs) : Quiet s (Machine.voterConfig a s).handed := by
  have settings (ch : ChannelNo) (x : VoterSettings) : Aside s (s.setVoterSettings ch x) :=
    ⟨⟨rfl, rfl, rfl, rfl, rfl, rfl, rfl⟩, .of_same (fun _ => rfl) rfl rfl⟩
  unfold Machine.voterConfig
  split
  · exact .refl s
  · split
    · exact .refl s
    · exact .still (settings _ _)

/-! ### Clips (R125 to R128) -/

theorem Aside.setClip (c : ClipNo) (x : Clip) : Aside s (s.setClip c x) :=
  ⟨⟨rfl, rfl, rfl, rfl, rfl, rfl, rfl⟩, .of_same (fun _ => rfl) rfl rfl⟩

theorem Quiet.clipOpen (clip pages : Nat) : Quiet s (Machine.clipOpen clip pages s).handed := by
  unfold Machine.clipOpen
  split
  · exact .refl s
  · split
    · exact .refl s
    · split
      · exact .refl s
      · split
        · exact .refl s
        · dsimp only
          split
          · exact .refl s
          · exact .still (.setClip s _ _)

theorem Quiet.clipPage (clip index : Nat) (payload : List Byte) : Quiet s (Machine.clipPage clip index payload s).handed := by
  unfold Machine.clipPage
  split
  · exact .refl s
  · split
    · exact .refl s
    · dsimp only
      split
      · exact .refl s
      · split <;> exact .refl s
      · split
        · exact .still ⟨⟨rfl, rfl, rfl, rfl, rfl, rfl, rfl⟩, .of_same (fun _ => rfl) rfl rfl⟩
        · split <;> exact .refl s

theorem Quiet.clipDelete (clip : Nat) : Quiet s (Machine.clipDelete clip s).handed := by
  unfold Machine.clipDelete
  split
  · exact .refl s
  · split
    · exact .refl s
    · split
      · exact .refl s
      · split
        · exact .refl s
        · exact .still (.setClip s _ _)

/-! ### Plans, triggers and contacts (R145 to R153, R156) -/

/-- A plan that is not active is no carriage list's (R145). -/
theorem Aside.setPlan {s : State} {p : PlanNo} (x : Option PlanRecord) (h : s.plans.active ≠ p) : Aside s (s.setPlan p x) where
  toApart := ⟨rfl, rfl, rfl, rfl, rfl, rfl, by
    rw [State.activePlan, State.activePlan, State.setPlan, vector_get_set, if_neg h]⟩
  inputs := .of_same (fun _ => rfl) rfl rfl

theorem Quiet.planLoad (plan : Nat) (record : Option PlanArgs) : Quiet s (Machine.planLoad plan record s).handed := by
  unfold Machine.planLoad
  split
  · exact .refl s
  · split
    · exact .refl s
    · split
      next => exact .refl s
      next stands =>
        obtain ⟨inactive, -⟩ := not_or.1 stands
        split
        · split
          · exact .refl s
          · exact .still (.setPlan _ inactive)
        · split
          · exact .refl s
          · exact .refl s
          · exact .refl s
          · exact .still (.setPlan _ inactive)

theorem Quiet.triggerSet (a : TriggerSetArgs) : Quiet s (Machine.triggerSet a s).handed := by
  unfold Machine.triggerSet
  split
  · split
    · exact .refl s
    · split
      · split
        · exact .refl s
        · exact .still ⟨⟨rfl, rfl, rfl, rfl, rfl, rfl, rfl⟩, .of_same (fun _ => rfl) rfl rfl⟩
      · exact .refl s
  · exact .refl s

theorem Deed.invoke (port : MgmtPort) (authority : Authority) (trigger : Nat) :
    Deed returns s (Machine.invoke port authority trigger s).handed := by
  unfold Machine.invoke
  split
  · exact .nothing s
  · split
    · exact .carryOut _ _
    · exact .nothing s
    · exact .nothing s

theorem Deed.standDown (port : MgmtPort) (authority : Authority) : Deed returns s (Machine.standDown port authority s).handed := by
  unfold Machine.standDown
  split
  · exact .nothing s
  · split
    · exact .nothing s
    · exact .activate _ _ _ _ _

theorem Deed.standDownAll (port : MgmtPort) : Deed returns s (Machine.standDownAll port s).handed := by
  unfold Machine.standDownAll
  split
  · exact .nothing s
  · exact .activate _ _ _ _ _

theorem Deed.contactSet (a : ContactSetArgs) : Deed returns s (Machine.contactSet a s).handed := by
  unfold Machine.contactSet
  split
  · split
    · exact .nothing s
    · split
      · dsimp only [written_handed]
        split
        · exact .still (.setContactEntry s _ _)
        · exact .after (.setContactEntry s _ _) (.judgeContact _ _)
      · exact .nothing s
  · exact .nothing s

/-! ### Ports (R170, R174, R176) -/

theorem Aside.setMgmt (p : MgmtPort) (x : MgmtRec) : Aside s (s.setMgmt p x) :=
  ⟨⟨rfl, rfl, rfl, rfl, rfl, rfl, rfl⟩, .of_same (fun _ => rfl) rfl rfl⟩

theorem Quiet.permitSet (port : MgmtPort) (target : Nat) (groups : List Nat) :
    Quiet s (Machine.permitSet port target groups s).handed := by
  unfold Machine.permitSet
  split
  · split
    · exact .refl s
    · split
      · exact .refl s
      · exact .still ⟨⟨rfl, rfl, rfl, rfl, rfl, rfl, rfl⟩, .of_same (fun _ => rfl) rfl rfl⟩
  · exact .refl s

theorem Quiet.watchSet (window : Int) : Quiet s (Machine.watchSet window s).handed := by
  unfold Machine.watchSet
  split
  · exact .refl s
  · exact .still ⟨⟨rfl, rfl, rfl, rfl, rfl, rfl, rfl⟩, .of_same (fun _ => rfl) rfl rfl⟩

theorem Quiet.readEvents (port : MgmtPort) : Quiet s (Machine.readEvents port s).handed := .still (.setMgmt s port _)

/-! ### Requests that only read (R6, R12, R14, R41, R61, R105, R122, R129, R161) -/

theorem Quiet.carrierGet (c : Nat) : Quiet s (Machine.carrierGet c s).handed := by
  unfold Machine.carrierGet
  split
  · exact .refl s
  · split
    · exact .refl s
    · split <;> exact .refl s

theorem Quiet.ruGet (p : Nat) : Quiet s (Machine.ruGet p s).handed := by
  unfold Machine.ruGet
  split
  · exact .refl s
  · split
    · split <;> exact .refl s
    · exact .refl s

theorem Quiet.zoneGet (z : Nat) : Quiet s (Machine.zoneGet z s).handed := by
  unfold Machine.zoneGet
  split
  · exact .refl s
  · split <;> exact .refl s

theorem Quiet.ruAllocation (p : Nat) : Quiet s (Machine.ruAllocation p s).handed := by
  unfold Machine.ruAllocation
  split <;> exact .refl s

theorem Quiet.portStatus (p : Nat) : Quiet s (Machine.portStatus p s).handed := by
  unfold Machine.portStatus
  split
  · exact .refl s
  · split <;> exact .refl s

theorem Quiet.ringStatus (r : Nat) : Quiet s (Machine.ringStatus r s).handed := by
  unfold Machine.ringStatus
  split
  · exact .refl s
  · split <;> exact .refl s

theorem Quiet.rescueStatus (c : Nat) : Quiet s (Machine.rescueStatus c s).handed := by
  unfold Machine.rescueStatus
  split
  · exact .refl s
  · split <;> exact .refl s

theorem Quiet.clipList (c : Nat) : Quiet s (Machine.clipList c s).handed := by
  unfold Machine.clipList
  split
  · exact .refl s
  · split <;> exact .refl s

theorem Quiet.planRead (x : Nat) : Quiet s (Machine.planRead x s).handed := by
  unfold Machine.planRead
  split
  · exact .refl s
  · split
    · exact .refl s
    · split <;> exact .refl s

end

/-! ### Requests -/

section
variable {c : Instr}

/-- What a request's kind-specific part does is a deed (check 5 of R169). -/
theorem Deed.carry {r : Request} (asks : Asks c r) (port : MgmtPort) (authority : Authority) (s : State) :
    Deed (Returning c) s (Machine.carry port authority r s).handed := by
  cases r with
  | hello | status | keepalive | restart | refStatus | breakinList | stackRead => exact .nothing s
  | readEvents => exact (Quiet.readEvents s port).deed
  | permitSet target groups => exact (Quiet.permitSet s port target groups).deed
  | watchSet w => exact (Quiet.watchSet s w).deed
  | carrierGet x => exact (Quiet.carrierGet s x).deed
  | ruGet x => exact (Quiet.ruGet s x).deed
  | zoneGet x => exact (Quiet.zoneGet s x).deed
  | ruAllocation x => exact (Quiet.ruAllocation s x).deed
  | carrierSet a => exact .carrierSet a s
  | carrierClear x => exact .carrierClear x s
  | ruSet a => exact .ruSet a s
  | zoneSet a => exact .zoneSet a s
  | portStatus x => exact (Quiet.portStatus s x).deed
  | ringStatus x => exact (Quiet.ringStatus s x).deed
  | portRenegotiate x => exact .portRenegotiate x s
  | portConfig a => exact .portConfig asks s
  | portEnable x =>
    have hands : (Machine.portEnable x s).hands = [] := by
      unfold Machine.portEnable
      split
      · rfl
      · dsimp only
        split <;> rfl
    rw [Machine.carry, Result.handed, hands]
    exact .still (.portEnable x s)
  | portDisable x => exact .portDisable x s
  | spanTestStart a => exact .spanTestStart a s
  | spanTestStop x =>
    have hands : (Machine.spanTestStop x s).hands = [] := by
      unfold Machine.spanTestStop
      split
      · rfl
      · split <;> rfl
    rw [Machine.carry, Result.handed, hands]
    exact .still (.spanTestStop x s)
  | ringRevert x => exact .ringRevert asks s
  | refConfig a => exact (Quiet.refConfig s a).deed
  | refForceHoldover => exact (Quiet.refForceHoldover s).deed
  | refResume => exact (Quiet.refResume s).deed
  | rescueStatus x => exact (Quiet.rescueStatus s x).deed
  | consoleKey x => exact (Quiet.portalTalk s port x fun ch => .consoleKeyed s ch).deed
  | consoleUnkey x => exact (Quiet.portalTalk s port x fun ch => .consoleUnkeyed s ch).deed
  | voterConfig a => exact (Quiet.voterConfig s a).deed
  | breakinPost a => exact .breakinPost port a s
  | breakinWithdraw n => exact .breakinWithdraw authority n s
  | clipList x => exact (Quiet.clipList s x).deed
  | clipOpen x n => exact (Quiet.clipOpen s x n).deed
  | clipPage x i payload => exact (Quiet.clipPage s x i payload).deed
  | clipDelete x => exact (Quiet.clipDelete s x).deed
  | planRead x => exact (Quiet.planRead s x).deed
  | invoke t => exact .invoke s port authority t
  | standDown => exact .standDown s port authority
  | standDownAll => exact .standDownAll s port
  | planLoad p x => exact (Quiet.planLoad s p x).deed
  | triggerSet a => exact (Quiet.triggerSet s a).deed
  | contactSet a => exact .contactSet s a

end

/-! ### Commands -/

/-- What a command has done once what its deed hands on is carried out, with the reply of a request beside it. -/
def Taken (returns : Ring → State → Prop) (s t : State) : Prop :=
  ∃ y u, Deed returns s y ∧ SameBut [.ports, .inFlight] y.1 u ∧ t = settled (u, y.2)

section
variable {returns : Ring → State → Prop} {s t : State}

theorem Deed.taken {y : Handed} (h : Deed returns s y) : Taken returns s (Machine.settled y) := ⟨y, y.1, h, .refl _ _, rfl⟩

theorem Aside.taken (h : Aside s t) : Taken returns s t := ⟨(t, []), t, .aside h apart_nil, .refl _ _, (settled_nil t).symm⟩

theorem Prelude.taken (h : Prelude s t) : Taken returns s t := h.toAside.taken

theorem Taken.refl (s : State) : Taken returns s s := (Aside.refl s).taken

theorem Taken.after {u : State} (h : Prelude s u) (k : Taken returns u t) : Taken returns s t := by
  obtain ⟨y, v, deed, same, rfl⟩ := k
  exact ⟨y, v, .after h deed, same, rfl⟩

theorem Taken.inService {f : State → State} (h : Taken returns s (f s)) : Taken returns s (Machine.inService f s) := by
  unfold Machine.inService
  split
  · exact .refl s
  · exact h

theorem Taken.conclude (port : MgmtPort) (tag kind : Byte) {x : Result} (h : Deed returns s x.handed) :
    Taken returns s (settled (Machine.conclude port tag kind x)) := by
  cases hw : x.writes with
  | none =>
    rw [conclude_ready port tag kind x hw]
    exact ⟨x.handed, _, h, (withReply_sameBut _ _ _).mono (by simp), rfl⟩
  | some key =>
    rw [conclude_held port tag kind x key hw]
    exact ⟨x.handed, _, h, withHeld_sameBut _ _ _ _, rfl⟩

/-- A request but RESTART is taken by its deed, or refused (R169). -/
theorem takeRequestOn_taken {c : Instr} (port : MgmtPort) (tag kind : Byte) {d : Decoded} (s : State)
    (asks : ∀ r, d = .request r → Asks c r) (h : d ≠ .request .restart) :
    Taken (Returning c) s (settled (takeRequestOn port tag kind d s)) := by
  unfold takeRequestOn
  split
  · exact .conclude port tag kind (.nothing s)
  · exact .conclude port tag kind (.nothing s)
  next r =>
    split
    · exact .conclude port tag kind (.nothing s)
    · split
      next hr => exact absurd (congrArg Decoded.request hr.1) h
      next => exact .conclude port tag kind (.carry (asks r rfl) port _ s)

theorem Prelude.watchFrame (port : MgmtPort) (s : State) : Prelude s (Machine.watchFrame port s) := by
  unfold Machine.watchFrame
  split
  · exact .setWatch s _
  · exact (Prelude.setWatch s _).trans (.post _ _)
  · exact .refl s

theorem receiveFrame_taken {c : Instr} (port : MgmtPort) (tag kind : Byte) {d : Decoded} (s : State)
    (asks : ∀ r, d = .request r → Asks c r) (h : d ≠ .request .restart) :
    Taken (Returning c) s (receiveFrame port tag kind d s) := by
  unfold receiveFrame
  split
  · unfold frameTaken
    dsimp only
    split
    · exact .after (.watchFrame port s) (takeRequestOn_taken port tag kind _ asks h)
    · rw [settled_nil]
      exact .after (.watchFrame port s) (Aside.setMgmt _ _ _).taken
  · exact .refl s

theorem Aside.writeCompleted (key : StoreKey) (s : State) : Aside s (Machine.writeCompleted key s) := by
  have completed : Aside s (completeWrite key s) := by
    cases key <;> exact ⟨⟨rfl, rfl, rfl, rfl, rfl, rfl, rfl⟩, .of_same (fun _ => rfl) rfl rfl⟩
  unfold Machine.writeCompleted
  split
  · exact completed.trans ⟨⟨rfl, rfl, rfl, rfl, rfl, rfl, rfl⟩, .of_same (fun _ => rfl) rfl rfl⟩
  · exact .refl s

theorem Aside.replySent (port : MgmtPort) (s : State) : Aside s (Machine.replySent port s) := by
  unfold Machine.replySent
  dsimp only
  split
  · exact .setMgmt s port _
  · exact .refl s

/-- Every command that is no request and ends no reset is taken by its deed. -/
theorem event_taken {c : Instr} (h : c.request? = none) (hc : ¬Resets c) (ht : exec c s = .next t) :
    Taken (Returning c) s t := by
  have caused (kind : ResetKind) : Taken (Returning c) s (beginReset kind s) :=
    (⟨⟨rfl, rfl, rfl, rfl, rfl, rfl, rfl⟩, .of_same (fun _ => rfl) rfl rfl⟩ : Aside s (beginReset kind s)).taken
  have beside {f : State → State} (h : Aside s (f s)) : Taken (Returning c) s (Machine.inService f s) := .inService h.taken
  have handed {f : State → Handed} (h : Deed (Returning c) s (f s)) :
      Taken (Returning c) s (Machine.inService (fun u => settled (f u)) s) := .inService h.taken
  have quiet {f : State → Handed} (h : Quiet s (f s)) :
      Taken (Returning c) s (Machine.inService (fun u => settled (f u)) s) := handed h.deed
  cases c with
  | powerOn => cases ht; exact caused _
  | resetLine => cases ht; exact caused _
  | supplyDip => cases ht; exact caused _
  | resetEnd straps written => exact absurd trivial hc
  | exchangeOpen q => cases ht; exact (Aside.setMgmt s q _).taken
  | portSync q => cases ht; exact beside (.setMgmt s q _)
  | exchangeEnd q midFrame => cases ht; exact (Aside.setMgmt s q _).taken
  | framingFault q cause => cases ht; exact beside (.setMgmt s q _)
  | requestFrameReceived q kind tag payload =>
    cases ht
    refine receiveFrame_taken q tag kind s (fun r hr => .inr ⟨q, kind, tag, payload, rfl, hr⟩) fun hd => hc ?_
    exact BitVec.eq_of_toNat_eq (kind_of_restart hd)
  | replyClockedOut q => cases ht; exact beside (.replySent q s)
  | storeWriteComplete key => cases ht; exact beside (.writeCompleted key s)
  | pageEnd player => cases ht; exact handed (.pageEnded player s)
  | breakTimerExpiry p => cases ht; exact beside (Prelude.breakEnded p s).toAside
  | advertisementReceived p grades ack identity => cases ht; exact handed (.advertised p grades ack identity s)
  | idlePatternReceived p pattern => cases ht; exact handed (.patternSeen p pattern s)
  | advertiseTimerExpiry p => cases ht; exact handed (.advertiseEnded p s)
  | lossOfSignal p => cases ht; exact handed (.signalLost p s)
  | signalRestored p => cases ht; exact beside (Prelude.setSpan (by rfl)).toAside
  | beaconReceived p b => cases ht; exact handed (.beaconArrived p b s)
  | silenceTimerExpiry q => cases ht; exact handed (.silenceEnded q s)
  | waitToRestoreExpiry r => cases ht; exact handed (.restoreEvent r _ fun _ => .inl rfl)
  | uplinkBlockArrival p block => cases ht; exact beside (Prelude.blockArrived p block s).toAside
  | blockTick => cases ht; exact handed (.blockTicked s)
  | slipBurstClear p => cases ht; exact beside (Prelude.setSpan (by rfl)).toAside
  | hangExpiry ch => cases ht; exact quiet (.hangEnd s ch)
  | keyLimitExpiry ch => cases ht; exact quiet (.keyLimit s ch)
  | baseKeyChange ch asserted =>
    cases ht
    have lane : Prelude s { s with baseLane := s.baseLane.set ch asserted } :=
      ⟨⟨⟨rfl, rfl, rfl, rfl, rfl, rfl, rfl⟩, .of_same (fun _ => rfl) rfl rfl⟩, rfl, .of_agree ⟨rfl, rfl, fun _ => ⟨rfl, rfl⟩⟩⟩
    exact .after lane (.inService (Quiet.baseKeyed _ ch asserted).deed.taken)
  | testLock p => cases ht; exact beside (Prelude.testLocked p s).toAside
  | testLockTimeout p => cases ht; exact beside (Prelude.stopTest p _ _ s).toAside
  | spanTestTimerExpiry p => cases ht; exact beside (Prelude.stopTest p _ _ s).toAside
  | testBitError p => cases ht; exact beside (Prelude.testError p s).toAside
  | sourceSignalChange src valid => cases ht; exact (Aside.sourceSignal s src valid).taken
  | sourcePresent src => cases ht; exact (Quiet.sourceAppears s src).deed.taken
  | sourceAbsent src => cases ht; exact (Quiet.sourceVanishes s src).deed.taken
  | warmupEnd => cases ht; exact (Quiet.warmupEnded s).deed.taken
  | measurement offset => cases ht; exact (Quiet.measured s offset).deed.taken
  | switchTimerExpiry => cases ht; exact (Quiet.switchEnded s).deed.taken
  | holdoverExpiry => cases ht; exact (Quiet.holdoverEnded s).deed.taken
  | contactLevelChange x level =>
    cases ht
    split
    · exact (Prelude.setContact s x _).taken
    · exact (Prelude.rawLevel x level s).taken
  | debounceTimerExpiry x => cases ht; exact handed (.debounced x s)
  | watchExpiry => cases ht; exact handed (.watchExpired s)
  | _ => cases h

/-- Every command but a reset is taken by its deed. -/
theorem exec_taken {c : Instr} (ht : exec c s = .next t) (hc : ¬Resets c) : Taken (Returning c) s t := by
  cases hr : c.request? with
  | none => exact event_taken hr hc ht
  | some x =>
    obtain ⟨port, tag, r⟩ := x
    rw [exec_request hr] at ht
    cases ht
    refine receiveFrame_taken port tag _ s (fun q hq => ?_) fun hd => hc ?_
    · rw [decoded_of_request hq]
      exact .inl ⟨port, tag, hr⟩
    · obtain rfl := decoded_of_request hd
      cases c with
      | restart => trivial
      | _ => cases hr

/-! ### Resets (R177, R178) -/

/-- A RESTART that resets nothing is refused or not taken. -/
theorem restart_taken {port : MgmtPort} {tag kind : Byte} :
    receiveFrame port tag kind (.request .restart) s = settled (restartReset (Machine.watchFrame port s)) ∨
      Taken returns s (receiveFrame port tag kind (.request .restart) s) := by
  unfold receiveFrame frameTaken takeRequestOn
  dsimp only
  split
  · split
    · split
      · exact .inr (.after (.watchFrame port s) (.conclude port tag kind (.nothing _)))
      · split
        · exact .inl rfl
        · exact .inr (.after (.watchFrame port s) (.conclude port tag kind (.nothing _)))
    · rw [settled_nil]
      exact .inr (.after (.watchFrame port s) (Aside.setMgmt _ _ _).taken)
  · exact .inr (.refl s)

end

end Sys2Proof.Machine
end

section
/-! SUPPORT. What every step makes of the rings and of the break-in unit (R44 to R51, R54, R56, R130, R134, R137, R139). -/

namespace Sys2Proof.Machine

open Sys2Proof

/-! ### Commands, and the ends of resets -/

/-- A command is taken by its deed, or ends a reset (R177, R178). -/
theorem exec_taken_or_reset {c : Instr} {s t : State} (ht : exec c s = .next t) : Taken (Returning c) s t ∨
    (Resets c ∧ ∃ kind straps u x, t = settled (resetHanded kind straps u x)) := by
  by_cases hc : Resets c
  · have restarted {port : MgmtPort} {tag kind : Byte} : Taken (Returning c) s (receiveFrame port tag kind (.request .restart) s) ∨
        (Resets c ∧ ∃ k straps u x, receiveFrame port tag kind (.request .restart) s = settled (resetHanded k straps u x)) :=
      restart_taken.symm.imp_right fun h => ⟨hc, _, _, _, _, by rw [h, restartReset, endReset_eq]⟩
    cases c with
    | resetEnd straps written =>
      by_cases idle : s.causes = []
      · have : exec (.resetEnd straps written) s = .next s :=
          congrArg Host.Outcome.next (if_neg (by simp [State.inReset, idle]))
        cases ht.symm.trans this
        exact .inl (.refl s)
      · cases ht.symm.trans (exec_resetEnd idle straps written)
        exact .inr ⟨hc, _, _, _, _, by rw [endReset_eq]⟩
    | restart port tag =>
      rw [exec_request rfl] at ht
      obtain rfl := Host.Outcome.next.inj ht
      exact restarted
    | requestFrameReceived port kind tag payload =>
      obtain rfl : receiveFrame port tag kind (decodeRequest kind.toNat payload) s = t := Host.Outcome.next.inj ht
      by_cases hd : decodeRequest kind.toNat payload = .request .restart
      · rw [hd]
        exact restarted
      · exact .inl (receiveFrame_taken port tag kind s (fun r hr => .inr ⟨port, kind, tag, payload, rfl, hr⟩) hd)
    | _ => exact hc.elim
  · exact .inl (exec_taken ht hc)

/-- What a deed's hand-overs, and a request's reply, leave as the deed has left it. -/
theorem Taken.cases {returns : Ring → State → Prop} {s t : State} (h : Taken returns s t) : ∃ y, Deed returns s y ∧
    SameBut (.ports :: .inFlight :: handedParts) y.1 t ∧ (QueueSound y.1 → QueueSound t) := by
  obtain ⟨y, u, deed, reply, rfl⟩ := h
  refine ⟨y, deed, (reply.mono (by simp)).trans ((settled_sameBut_handed (u, y.2)).mono fun x hx => ?_), fun sound => ?_⟩
  · exact List.mem_cons_of_mem _ (List.mem_cons_of_mem _ hx)
  · exact settled_queueSound (sound.congr (reply .breakin (by simp)) (by rw [reply .work (by simp)]))

/-! ### The rings -/

/-- A ring's record of `s` and that of `t`: its units decided by R51 and its timer by R56, or its waiting units returned. -/
def Turned (returns : Ring → State → Prop) (s t : State) (r : Ring) : Prop :=
  (Decided (s.rings.get r) (t.rings.get r) ∧ Timed s.now (s.rings.get r) (t.rings.get r)) ∨
    ((s.rings.get r).timer ≠ none ∧ t.rings.get r = restoredRing (s.rings.get r) ∧
      ∃ v, returns r v ∧ v.rings = s.rings ∧ v.now = s.now ∧ v.work.rings = t.work.rings)

/-- A ring's record that stands is as R51 and R56 leave it. -/
theorem RingStands.decided {s : State} {r : Ring} {x : RingRec} (h : RingStands s r x) (now : Nat) :
    Decided x x ∧ Timed now x x := by
  refine ⟨⟨fun u hu _ => hu, fun u hu _ => ?_, fun u ha hb hu => ?_⟩, fun y old new => ?_, fun y z old new => ?_⟩
  · rw [h.fedB u hu, if_pos rfl, hu]
  · cases hu.symm.trans (h.unfed ha hb).1
  · cases old.symm.trans new
  · exact (Option.some.inj (old.symm.trans new)).symm

section
variable {returns : Ring → State → Prop} {s t : State}

/-- A state in which ring r has the record and the inputs that it has in `s`. -/
theorem RingStands.unturned {r : Ring} (rings : t.rings.get r = s.rings.get r) (inputs : RingInputs r s t)
    (h : RingStands s r (s.rings.get r)) : RingStands t r (t.rings.get r) ∧ Turned returns s t r := by
  rw [Turned, rings]
  exact ⟨.congr inputs h, .inl (h.decided s.now)⟩

/-- The ports, the Remote Unit Table and the beacons are all that a ring's record stands for. -/
theorem RingStands.untouched {r : Ring} (h : RingStands s r (s.rings.get r)) (rings : t.rings = s.rings)
    (spans : t.spans = s.spans) (units : t.work.units = s.work.units) (beacons : t.beacons = s.beacons) :
    RingStands t r (t.rings.get r) ∧ Turned returns s t r :=
  h.unturned (by rw [rings]) (.of_same (fun p => by rw [spans]) units beacons r)

/-- A ring's record put in place changes no ring's inputs. -/
theorem applyRing_inputs (r : Ring) (cause : FeedCause) (new : RingRec) (v : State) (r' : Ring) :
    RingInputs r' v (applyRing r cause new v).1 := by
  have same := applyRing_sameBut r cause new v
  refine .of_same (fun q => ?_) (congrArg Store.units (same .work (by simp))) (same .beacons (by simp)) r'
  rw [applyRing_spans, pathMarked]
  split
  · rfl
  · unfold Span.marked
    split <;> rfl

theorem applyRing_ring (r : Ring) (cause : FeedCause) (new : RingRec) (v : State) (r' : Ring) :
    (applyRing r cause new v).1.rings.get r' = if r' = r then new else v.rings.get r' := by
  rw [applyRing_rings]
  cases r <;> cases r' <;> rfl

/-- A deed leaves each ring's record standing for the inputs it leaves, decided by R51 and R56. -/
theorem Deed.rings {y : Handed} (h : Deed returns s y) (stands : ∀ r, RingStands s r (s.rings.get r)) (r : Ring) :
    RingStands y.1 r (y.1.rings.get r) ∧ Turned returns s y.1 r := by
  induction h with
  | aside h _ => exact (stands r).unturned (by rw [h.rings]) (h.inputs r)
  | @formed s v tail r' cause judged h _ _ others reforms _ _ =>
    have place := applyRing_ring r' cause (recomputeRing v r' judged) v r
    have inputs := applyRing_inputs r' cause (recomputeRing v r' judged) v r
    dsimp only [feedEvent]
    by_cases hr : r = r'
    · subst hr
      rw [if_pos rfl] at place
      rw [Turned, place]
      exact ⟨(recomputeRing_stands h.rings (stands r) reforms).congr inputs,
        .inl ⟨recomputeRing_decided h.rings (stands r), recomputeRing_timed h.clock h.rings⟩⟩
    · rw [if_neg hr] at place
      exact (stands r).unturned (by rw [place, h.rings]) ((others r hr).trans inputs)
  | @returned s r' cause running why =>
    rw [restoreEvent_running cause running]
    have place := applyRing_ring r' cause (restoredRing (s.rings.get r')) s r
    have same := applyRing_sameBut r' cause (restoredRing (s.rings.get r')) s
    have inputs := applyRing_inputs r' cause (restoredRing (s.rings.get r')) s r
    by_cases hr : r = r'
    · subst hr
      rw [if_pos rfl] at place
      rw [Turned, place]
      exact ⟨(restoredRing_stands (stands r)).congr inputs,
        .inr ⟨running, rfl, s, why, rfl, rfl, congrArg Store.rings (same .work (by simp)).symm⟩⟩
    · rw [if_neg hr] at place
      exact (stands r).unturned place inputs
  | catalogued c new => exact (stands r).untouched rfl rfl rfl rfl
  | activated p stack cause source trigger _ _ => exact (stands r).untouched rfl rfl rfl rfl
  | settled removals q n _ _ => exact (stands r).untouched rfl rfl rfl rfl
  | @rezoned s z members _ =>
    have same := changeZone_sameBut z members s
    exact (stands r).untouched (same .rings (by simp)) (same .spans (by simp))
      (congrArg Store.units (same .work (by simp)) :) (same .beacons (by simp))
  | paged b _ _ => exact (stands r).untouched rfl rfl rfl rfl
  | @after s v y h _ ih =>
    have moved (r : Ring) : RingStands v r (v.rings.get r) := by
      rw [h.rings]
      exact (stands r).congr (h.inputs r)
    obtain ⟨stands, turned⟩ := ih moved
    refine ⟨stands, ?_⟩
    unfold Turned at turned ⊢
    rw [h.rings, h.clock] at turned
    exact turned

/-- A deed leaves the break-in unit sound. -/
theorem Deed.queueSound {y : Handed} (h : Deed returns s y) (sound : QueueSound s) : QueueSound y.1 := by
  induction h with
  | aside h _ => exact sound.congr h.breakin h.zones
  | @formed s v tail r cause judged h _ _ _ _ _ _ =>
    have same := applyRing_sameBut r cause (recomputeRing v r judged) v
    exact sound.congr ((same .breakin (by simp)).trans h.breakin)
      ((congrArg Store.zones (same .work (by simp))).trans h.zones)
  | @returned s r cause running _ =>
    rw [restoreEvent_running cause running]
    have same := applyRing_sameBut r cause (restoredRing (s.rings.get r)) s
    exact sound.congr (same .breakin (by simp)) (congrArg Store.zones (same .work (by simp)))
  | @catalogued s c new => exact sound.congr (s := s) rfl rfl
  | @activated s tail p stack cause source trigger _ _ => exact sound.congr (s := s) rfl rfl
  | settled removals q n _ ready => exact settlement_queueSound sound (ready sound)
  | rezoned z members free => exact changeZone_queueSound free sound
  | paged b _ keeps => exact keeps sound
  | after h _ ih => exact ih (sound.congr h.breakin h.zones)

/-! ### Commands and steps -/

/-- The rings read the ports, the Remote Unit Table, the beacons and their own records alone. -/
theorem RingsSound.congr (h : RingsSound s) (rings : t.rings = s.rings) (spans : t.spans = s.spans)
    (units : t.work.units = s.work.units) (beacons : t.beacons = s.beacons) : RingsSound t := by
  exact ringsSound_iff.2 fun r =>
    ((ringsSound_iff.1 h r).untouched (returns := fun _ _ => False) rings spans units beacons).1

/-- A command that is taken by its deed leaves each ring's record standing and decided. -/
theorem Taken.rings (h : Taken returns s t) (sound : RingsSound s) (r : Ring) :
    RingStands t r (t.rings.get r) ∧ Turned returns s t r := by
  obtain ⟨y, deed, same, -⟩ := h.cases
  obtain ⟨stands, turned⟩ := deed.rings (ringsSound_iff.1 sound) r
  have rings : t.rings = y.1.rings := same .rings (by simp [handedParts])
  have work : t.work = y.1.work := same .work (by simp [handedParts])
  have spans : t.spans = y.1.spans := same .spans (by simp [handedParts])
  rw [Turned, rings, work]
  exact ⟨stands.congr (.of_same (fun p => by rw [spans]) (by rw [work]) (same .beacons (by simp [handedParts])) r), turned⟩

theorem Taken.queueSound (h : Taken returns s t) (sound : QueueSound s) : QueueSound t := by
  obtain ⟨y, deed, -, keeps⟩ := h.cases
  exact keeps (deed.queueSound sound)

end

/-- Nothing is heard before anything is carried. -/
theorem heard_start : ∀ p, posGet BreakInUnit.start.heard p = none := forall_position (by decide)

section
variable (kind : ResetKind) (straps : Nat) (s : State) (x : Store)

theorem reset_ringsSound : RingsSound (settled (resetHanded kind straps s x)) := by
  have after := afterReset kind straps s x
  exact .of_unheard (fun p => by rw [after.beacons]; split <;> rfl) after.hops after.units

theorem reset_queueSound : QueueSound (settled (resetHanded kind straps s x)) :=
  settled_queueSound (.of_empty rfl rfl fun p => heard_start p)

end

theorem exec_ringsSound {c : Instr} {s t : State} (ht : exec c s = .next t) (h : RingsSound s) : RingsSound t := by
  rcases exec_taken_or_reset ht with taken | ⟨-, kind, straps, u, x, rfl⟩
  · exact ringsSound_iff.2 fun r => (taken.rings h r).1
  · exact reset_ringsSound kind straps u x

theorem exec_queueSound {c : Instr} {s t : State} (ht : exec c s = .next t) (h : QueueSound s) : QueueSound t := by
  rcases exec_taken_or_reset ht with taken | ⟨-, kind, straps, u, x, rfl⟩
  · exact taken.queueSound h
  · exact reset_queueSound kind straps u x

theorem step_keepsRingsAndQueue {s t : State} (h : step s = .next t) :
    (RingsSound s → RingsSound t) ∧ (QueueSound s → QueueSound t) := by
  unfold step at h
  split at h
  next =>
    cases h
    exact ⟨fun k => k.congr (s := s) rfl rfl rfl rfl, fun k => k.congr (s := s) rfl rfl⟩
  next c rest _ =>
    exact ⟨fun k => exec_ringsSound h (k.congr (s := s) rfl rfl rfl rfl),
      fun k => exec_queueSound h (k.congr (s := s) rfl rfl)⟩

/-! ### The rows of R51 -/

section
variable {c : Instr} {s t : State} {r : Ring}

/-- A return of a ring's waiting units is one that the command can make (R57 to R59). -/
theorem Returning.returns {v : State} (h : Returning c r v) (running : (s.rings.get r).timer ≠ none) (rings : v.rings = s.rings)
    (now : v.now = s.now) (work : v.work.rings = t.work.rings) : Returns c s t r := by
  obtain ⟨since, hs⟩ := Option.ne_none_iff_exists'.1 running
  rw [Returning, rings, now, work] at h
  refine ⟨since, hs, h.imp_right fun h => h.imp_right ?_⟩
  rintro ⟨since', hs', reached⟩
  obtain rfl := Option.some.inj (hs.symm.trans hs')
  exact reached

/-- Where the ring's record has turned, and stands, each unit has come to its state by its row of R51. -/
theorem Turned.redecided (turned : Turned (Returning c) s t r) (old : RingStands s r (s.rings.get r))
    (new : RingStands t r (t.rings.get r)) : Redecided c s t r := by
  have neither (u : UnitNo) (commissioned : (t.unit ⟨r, u⟩).commissioned = true) (accepted : t.mismatched ⟨r, u⟩ = false)
      (ha : (t.rings.get r).reachA[u] = false) (hb : (t.rings.get r).reachB[u] = false) : t.unitState ⟨r, u⟩ = .unreachable := by
    have unfed := (new.fed u).not.2 (by simp [ha, hb])
    have present := (new.absent u).not.2 (by simp [commissioned])
    have matching := (new.mismatch u).not.2 (by simp [accepted])
    show (t.rings.get r).units[u] = _
    cases hu : (t.rings.get r).units[u] <;> simp_all
  have onlyB (u : UnitNo) (ha : (t.rings.get r).reachA[u] = false) (hb : (t.rings.get r).reachB[u] = true) :
      t.unitState ⟨r, u⟩ = .fedB :=
    ((new.fed u).2 (.inr hb)).resolve_left fun h => by cases ha.symm.trans (new.fedA u h)
  rcases turned with ⟨decided, timed⟩ | ⟨running, restored, v, why, rings, now, work⟩
  · refine ⟨neither, onlyB, decided.wasFedA, fun u hu ha => ?_, decided.wasUnfed, timed.starts, timed.runs⟩
    have row := decided.wasFedB u hu ha
    exact ⟨fun hb => by rwa [hb, if_neg Bool.false_ne_true] at row, fun hb => .inl (by rwa [hb, if_pos rfl] at row)⟩
  · have returns := why.returns (s := s) (t := t) running rings now work
    have units (u : UnitNo) := restored ▸ restoredRing_units (s.rings.get r) u
    have reachA : (t.rings.get r).reachA = (s.rings.get r).reachA := by rw [restored]; rfl
    have stopped : (t.rings.get r).timer = none := by rw [restored]; rfl
    refine ⟨neither, onlyB, fun u hu _ => ?_, fun u hu ha => ?_, fun u hfa hfb ha => ?_, fun x _ hx => ?_, fun x y _ hy => ?_⟩
    · refine (units u).trans ?_
      split
      next => rfl
      next => exact hu
    · have row : t.unitState ⟨r, u⟩ = .fedA := (units u).trans (if_pos ⟨hu, reachA ▸ ha⟩)
      exact ⟨fun _ => row, fun _ => .inr ⟨row, returns⟩⟩
    · rw [reachA, (old.unfed hfa hfb).1] at ha
      cases ha
    · cases stopped.symm.trans hx
    · cases stopped.symm.trans hy

end

end Sys2Proof.Machine
end

section
open Sys2Proof Sys2Proof.Machine

/-- Settles O59: each command's way with rings and queue is one of a few deeds (`Deed`), each of which leaves the records
standing and decided (`Deed.rings`) and the queue sound (`Deed.queueSound`); what it hands on changes no ring and settles the
queue again. -/
theorem stepsKeepRingsAndQueue : Obligations.StepsKeepRingsAndQueue := by
  unfold Obligations.StepsKeepRingsAndQueue
  refine ⟨fun s t => step_keepsRingsAndQueue, fun c s t h hc sound r => ?_⟩
  obtain ⟨stands, turned⟩ := (exec_taken h hc).rings sound r
  exact turned.redecided (ringsSound_iff.1 sound r) stands

end

section
/-! SUPPORT. Slot assignment (R82): its three passes, and the slots they give. -/

namespace Sys2Proof.Machine

open Sys2Proof

/-! ### The third pass -/

section
variable {kept : Wanted → Option Nat} {ws : List Wanted} {free : List Nat}

theorem giveSlots_carriers (kept : Wanted → Option Nat) (ws : List Wanted) (free : List Nat) :
    (giveSlots kept ws free).map (·.1) = ws := by
  induction ws generalizing free with
  | nil => rfl
  | cons w ws ih =>
    unfold giveSlots
    split <;> simp [ih]

/-- A carrier that keeps a slot is given that one. -/
theorem giveSlots_kept {e : Wanted × Nat} {k : Nat} (he : e ∈ giveSlots kept ws free) (hk : kept e.1 = some k) : e.2 = k := by
  induction ws generalizing free with
  | nil => cases he
  | cons w ws ih =>
    unfold giveSlots at he
    split at he
    next keeps =>
      rcases List.mem_cons.1 he with rfl | he
      · exact Option.some.inj (keeps.symm.trans hk)
      · exact ih he
    next none =>
      rcases List.mem_cons.1 he with rfl | he
      · cases none.symm.trans hk
      · exact ih he
    next none =>
      rcases List.mem_cons.1 he with rfl | he
      · cases none.symm.trans hk
      · exact ih he

theorem unkept_cons_some {w : Wanted} {k : Nat} (h : kept w = some k) (ws : List Wanted) :
    (w :: ws).filter (kept · = none) = ws.filter (kept · = none) := List.filter_cons_of_neg (by simp [h])

theorem unkept_cons_none {w : Wanted} (h : kept w = none) (ws : List Wanted) :
    (w :: ws).filter (kept · = none) = w :: ws.filter (kept · = none) := List.filter_cons_of_pos (by simp [h])

variable (enough : (ws.filter (kept · = none)).length ≤ free.length)
include enough

/-- Where there are enough free slots, a carrier has the slot it keeps or a free one. -/
theorem giveSlots_cases {e : Wanted × Nat} (he : e ∈ giveSlots kept ws free) :
    kept e.1 = some e.2 ∨ (kept e.1 = none ∧ e.2 ∈ free) := by
  induction ws generalizing free with
  | nil => cases he
  | cons w ws ih =>
    unfold giveSlots at he
    split at he
    next keeps =>
      rw [unkept_cons_some keeps] at enough
      rcases List.mem_cons.1 he with rfl | he
      · exact .inl keeps
      · exact ih enough he
    next none =>
      rw [unkept_cons_none none] at enough
      rcases List.mem_cons.1 he with rfl | he
      · exact .inr ⟨none, List.mem_cons_self ..⟩
      · exact (ih (Nat.le_of_succ_le_succ enough) he).imp_right (.imp_right (List.mem_cons_of_mem _))
    next none =>
      rw [unkept_cons_none none] at enough
      cases enough

/-- A slot that no carrier is given by the third pass. -/
theorem giveSlots_lacks {k : Nat} (taken : k ∉ ws.filterMap kept) (given : k ∉ free) : k ∉ (giveSlots kept ws free).map (·.2) := by
  intro hk
  obtain ⟨e, he, rfl⟩ := List.mem_map.1 hk
  rcases giveSlots_cases enough he with keeps | ⟨-, free⟩
  · refine taken (List.mem_filterMap.2 ⟨e.1, ?_, keeps⟩)
    rw [← giveSlots_carriers kept ws free]
    exact List.mem_map_of_mem he
  · exact given free

/-- Slots that are kept by one carrier each, and free ones besides, are given to one carrier each. -/
theorem giveSlots_nodup (taken : (ws.filterMap kept).Nodup) (distinct : free.Nodup)
    (apart : ∀ k ∈ free, k ∉ ws.filterMap kept) : ((giveSlots kept ws free).map (·.2)).Nodup := by
  induction ws generalizing free with
  | nil => exact List.nodup_nil
  | cons w ws ih =>
    unfold giveSlots
    split
    next k keeps =>
      rw [unkept_cons_some keeps] at enough
      simp only [List.filterMap_cons_some keeps, List.mem_cons, not_or, List.nodup_cons] at taken apart
      rw [List.map_cons, List.nodup_cons]
      exact ⟨giveSlots_lacks enough taken.1 fun hk => (apart k hk).1 rfl, ih enough taken.2 distinct fun k hk => (apart k hk).2⟩
    next k free none =>
      rw [unkept_cons_none none] at enough
      simp only [List.filterMap_cons_none none, List.mem_cons, forall_eq_or_imp, List.nodup_cons] at taken apart distinct
      have enough := Nat.le_of_succ_le_succ enough
      rw [List.map_cons, List.nodup_cons]
      exact ⟨giveSlots_lacks enough apart.1 distinct.1, ih enough taken distinct.2 apart.2⟩
    next none =>
      rw [unkept_cons_none none] at enough
      cases enough

omit enough in
/-- A free slot below the one that a carrier is given has been given to an earlier one. -/
theorem giveSlots_least (ascending : free.Pairwise (· < ·)) {i : Nat} {e : Wanted × Nat} (he : (giveSlots kept ws free)[i]? = some e)
    (hn : kept e.1 = none) {k : Nat} (hk : k ∈ free) (lower : k < e.2) :
    ∃ (j : Nat) (f : Wanted × Nat), j < i ∧ (giveSlots kept ws free)[j]? = some f ∧ f.2 = k := by
  induction ws generalizing free i with
  | nil => cases he
  | cons w ws ih =>
    unfold giveSlots at he ⊢
    split at he
    next x _ keeps =>
      cases i with
      | zero =>
        obtain rfl := Option.some.inj he
        cases keeps.symm.trans hn
      | succ i =>
        obtain ⟨j, f, hj, hf, rfl⟩ := ih ascending he hk
        exact ⟨j + 1, f, Nat.succ_lt_succ hj, hf, rfl⟩
    next x free keeps =>
      obtain ⟨first, ascending⟩ := List.pairwise_cons.1 ascending
      cases i with
      | zero =>
        obtain rfl := Option.some.inj he
        rcases List.mem_cons.1 hk with rfl | hk
        · exact absurd lower (lt_irrefl _)
        · exact absurd lower (first k hk).asymm
      | succ i =>
        rcases List.mem_cons.1 hk with rfl | hk
        · exact ⟨0, _, Nat.succ_pos i, rfl, rfl⟩
        · obtain ⟨j, f, hj, hf, rfl⟩ := ih ascending he hk
          exact ⟨j + 1, f, Nat.succ_lt_succ hj, hf, rfl⟩
    next => cases hk

end

/-! ### The slots that are held and kept -/

theorem heldSlot_eq_some {w : Wanted} {k : Nat} :
    heldSlot w = some k ↔ w.kind = .rescue ∧ ∃ ch, w.channel = some ch ∧ k = ch.val + 1 := by
  unfold heldSlot
  split
  next rescue => simp [rescue, eq_comm]
  next other => simp [other]

theorem heldSlot_eq_none {w : Wanted} : heldSlot w = none ↔ ¬(w.kind = .rescue ∧ w.channel ≠ none) := by
  unfold heldSlot
  split
  next rescue => simp [rescue]
  next other => simp [other]

section
variable {old : List (Wanted × Nat)} {capacity k : Nat} {held : List Nat} {w : Wanted}

/-- The slot of a carrier's entry in the old map, if it may keep that one (pass 2 of R82). -/
theorem keptSlot_old (hw : heldSlot w = none) : keptSlot old capacity held w = some k ↔
    ∃ e, old.find? (·.1.carrier = w.carrier) = some e ∧ e.2 = k ∧ k ≤ capacity ∧ k ∉ held := by
  rw [keptSlot, hw]
  simp only [Option.bind_eq_some_iff]
  refine exists_congr fun e => and_congr_right fun _ => ?_
  split
  next fits => exact ⟨fun h => by obtain rfl := Option.some.inj h; exact ⟨rfl, fits⟩, fun h => congrArg some h.1⟩
  next wide => exact ⟨nofun, fun ⟨he, fits⟩ => absurd (he ▸ fits) wide⟩

theorem keptSlot_held (hw : heldSlot w = some k) : keptSlot old capacity held w = some k := by rw [keptSlot, hw]

theorem find_carrier (hf : old.find? (·.1.carrier = w.carrier) = some e) : e ∈ old ∧ e.1.carrier = w.carrier :=
  ⟨List.mem_of_find?_eq_some hf, by simpa using List.find?_some hf⟩

end

/-! ### The assignment -/

/-- The carried entries and the old map that R82 speaks of: at most the slots, of different carriers and rescue channels; the
old map gave different slots, counted from 1. -/
structure Assignable (old : List (Wanted × Nat)) (capacity : Nat) (carried : List Wanted) : Prop where
  channels : 4 ≤ capacity
  few : carried.length ≤ capacity
  carriers : (carried.map Wanted.carrier).Nodup
  rescues : ∀ x ∈ carried, ∀ y ∈ carried, x.kind = .rescue → y.kind = .rescue → x.channel = y.channel → x.channel ≠ none →
    x = y
  distinct : (old.map (·.2)).Nodup
  counted : ∀ e ∈ old, 1 ≤ e.2

/-- The slots that the rescue carriers hold (pass 1 of R82). -/
def heldSlots (carried : List Wanted) : List Nat := carried.filterMap heldSlot

theorem mem_heldSlots {carried : List Wanted} {k : Nat} : k ∈ heldSlots carried ↔
    ∃ w ∈ carried, w.kind = .rescue ∧ ∃ ch, w.channel = some ch ∧ k = ch.val + 1 := by
  simp only [heldSlots, List.mem_filterMap, heldSlot_eq_some]

/-- The free slots of pass 3, ascending (R82). -/
def freeSlots (capacity : Nat) (taken : List Nat) : List Nat :=
  (List.range (capacity + 1)).filter fun k => 1 ≤ k && decide (k ∉ taken)

theorem mem_freeSlots {capacity k : Nat} {taken : List Nat} :
    k ∈ freeSlots capacity taken ↔ (1 ≤ k ∧ k ≤ capacity) ∧ k ∉ taken := by
  simp only [freeSlots, List.mem_filter, List.mem_range, Nat.lt_succ_iff, Bool.and_eq_true, decide_eq_true_eq]
  tauto

theorem freeSlots_ascending (capacity : Nat) (taken : List Nat) : (freeSlots capacity taken).Pairwise (· < ·) :=
  List.pairwise_lt_range.filter _

section
variable {old : List (Wanted × Nat)} {capacity : Nat} {carried : List Wanted}

/-- The slot that a carrier has before pass 3. -/
abbrev keeps (old : List (Wanted × Nat)) (capacity : Nat) (carried : List Wanted) : Wanted → Option Nat :=
  keptSlot old capacity (heldSlots carried)

theorem assignSlots_eq (old : List (Wanted × Nat)) (capacity : Nat) (carried : List Wanted) :
    assignSlots old capacity carried = giveSlots (keeps old capacity carried) carried
      (freeSlots capacity (carried.filterMap (keeps old capacity carried))) := rfl

variable (h : Assignable old capacity carried)
include h

theorem Assignable.keeps_range {w : Wanted} {k : Nat} (hk : keeps old capacity carried w = some k) : 1 ≤ k ∧ k ≤ capacity := by
  cases hw : heldSlot w with
  | some x =>
    obtain rfl := Option.some.inj ((keptSlot_held hw).symm.trans hk)
    obtain ⟨-, ch, -, rfl⟩ := heldSlot_eq_some.1 hw
    have := h.channels
    omega
  | none =>
    obtain ⟨e, he, rfl, fits, -⟩ := (keptSlot_old hw).1 hk
    exact ⟨h.counted e (find_carrier he).1, fits⟩

/-- No two carriers keep one slot. -/
theorem Assignable.keeps_inj {x y : Wanted} (hx : x ∈ carried) (hy : y ∈ carried) {k : Nat}
    (kx : keeps old capacity carried x = some k) (ky : keeps old capacity carried y = some k) : x = y := by
  have apart {x y : Wanted} (hx : x ∈ carried) (hk : heldSlot x = some k) (hn : heldSlot y = none)
      (ky : keeps old capacity carried y = some k) : False := by
    obtain ⟨e, -, -, -, free⟩ := (keptSlot_old hn).1 ky
    exact free (List.mem_filterMap.2 ⟨x, hx, hk⟩)
  cases hsx : heldSlot x with
  | some a =>
    obtain rfl := Option.some.inj ((keptSlot_held hsx).symm.trans kx)
    cases hsy : heldSlot y with
    | some b =>
      obtain rfl := Option.some.inj ((keptSlot_held hsy).symm.trans ky)
      obtain ⟨rx, ch, cx, ex⟩ := heldSlot_eq_some.1 hsx
      obtain ⟨ry, ch', cy, ey⟩ := heldSlot_eq_some.1 hsy
      obtain rfl : ch = ch' := Fin.ext (by omega)
      exact h.rescues x hx y hy rx ry (cx.trans cy.symm) (by simp [cx])
    | none => exact (apart hx hsx hsy ky).elim
  | none =>
    cases hsy : heldSlot y with
    | some b =>
      obtain rfl := Option.some.inj ((keptSlot_held hsy).symm.trans ky)
      exact (apart hy hsy hsx kx).elim
    | none =>
      obtain ⟨e, he, ex, -⟩ := (keptSlot_old hsx).1 kx
      obtain ⟨f, hf, fy, -⟩ := (keptSlot_old hsy).1 ky
      obtain ⟨me, ce⟩ := find_carrier he
      obtain ⟨mf, cf⟩ := find_carrier hf
      obtain rfl := List.inj_on_of_nodup_map h.distinct me mf (ex.trans fy.symm)
      exact List.inj_on_of_nodup_map h.carriers hx hy (ce.symm.trans cf)

theorem Assignable.taken_nodup : (carried.filterMap (keeps old capacity carried)).Nodup := by
  refine List.pairwise_filterMap.2 ((List.pairwise_map.1 h.carriers).imp_of_mem fun hx hy differ k kx l ky same => ?_)
  subst same
  exact differ (congrArg _ (h.keeps_inj hx hy kx ky))

/-- There are at least as many free slots as carriers that keep none. -/
theorem Assignable.enough : (carried.filter (keeps old capacity carried · = none)).length ≤
    (freeSlots capacity (carried.filterMap (keeps old capacity carried))).length := by
  have all : (List.range' 1 capacity).length ≤ (freeSlots capacity (carried.filterMap (keeps old capacity carried)) ++
      carried.filterMap (keeps old capacity carried)).length := by
    refine (List.nodup_range' (step := 1)).length_le_of_subset fun k hk => List.mem_append.2 ?_
    rw [List.mem_range'_1] at hk
    by_cases taken : k ∈ carried.filterMap (keeps old capacity carried)
    · exact .inr taken
    · exact .inl (mem_freeSlots.2 ⟨by omega, taken⟩)
  have split : (carried.filter (keeps old capacity carried · = none)).length +
      (carried.filterMap (keeps old capacity carried)).length = carried.length := by
    rw [List.length_filterMap_eq_countP, ← List.countP_eq_length_filter]
    refine (Nat.add_comm _ _).trans ((List.length_eq_countP_add_countP
      (p := fun w => (keeps old capacity carried w).isSome)).trans ?_).symm
    refine congrArg _ (List.countP_congr fun w _ => ?_)
    cases keeps old capacity carried w <;> simp
  rw [List.length_range', List.length_append] at all
  have := h.few
  omega

theorem Assignable.slots_nodup : ((assignSlots old capacity carried).map (·.2)).Nodup :=
  giveSlots_nodup h.enough h.taken_nodup (freeSlots_ascending _ _).nodup fun _ hk => (mem_freeSlots.1 hk).2

theorem Assignable.slots_range {e : Wanted × Nat} (he : e ∈ assignSlots old capacity carried) : 1 ≤ e.2 ∧ e.2 ≤ capacity := by
  rcases giveSlots_cases h.enough he with keeps | ⟨-, free⟩
  · exact h.keeps_range keeps
  · exact (mem_freeSlots.1 free).1

/-- Every slot below one that pass 3 gives is kept by a carrier, or was given to an earlier one. -/
theorem Assignable.slots_least {i : Nat} {e : Wanted × Nat} (he : (assignSlots old capacity carried)[i]? = some e)
    (hn : keeps old capacity carried e.1 = none) {k : Nat} (counted : 1 ≤ k) (lower : k < e.2) :
    ∃ (j : Nat) (f : Wanted × Nat), (assignSlots old capacity carried)[j]? = some f ∧ f.2 = k ∧
      (j < i ∨ keeps old capacity carried f.1 = some k) := by
  have top := (h.slots_range (List.mem_of_getElem? he)).2
  by_cases taken : k ∈ carried.filterMap (keeps old capacity carried)
  · obtain ⟨w, hw, kept⟩ := List.mem_filterMap.1 taken
    rw [← giveSlots_carriers (keeps old capacity carried) carried, ← assignSlots_eq] at hw
    obtain ⟨f, hf, rfl⟩ := List.mem_map.1 hw
    obtain ⟨j, hj⟩ := List.mem_iff_getElem?.1 hf
    exact ⟨j, f, hj, giveSlots_kept hf kept, .inr kept⟩
  · obtain ⟨j, f, hj, hf, rfl⟩ := giveSlots_least (freeSlots_ascending _ _) he hn
      (mem_freeSlots.2 ⟨⟨counted, by omega⟩, taken⟩) lower
    exact ⟨j, f, hf, rfl, .inl hj⟩

end

/-! ### What a carrier owns, in the words of R82 -/

/-- A carrier has a slot before pass 3: a rescue carrier that of its channel; another the slot it had, if it is no higher than
the capacity and not held. -/
def Owns (old : List (Wanted × Nat)) (capacity : Nat) (carried : List Wanted) (w : Wanted) (k : Nat) : Prop :=
  (w.kind = .rescue ∧ ∃ ch, w.channel = some ch ∧ k = ch.val + 1) ∨
    (¬(w.kind = .rescue ∧ w.channel ≠ none) ∧
      ∃ e ∈ old, e.1.carrier = w.carrier ∧ e.2 = k ∧ k ≤ capacity ∧
        ¬∃ w ∈ carried, w.kind = .rescue ∧ ∃ ch, w.channel = some ch ∧ k = ch.val + 1)

/-- Where the old map had one entry for each carrier, a carrier keeps what it owns. -/
theorem keeps_iff_owns {old : List (Wanted × Nat)} {capacity : Nat} {carried : List Wanted}
    (single : (old.map (·.1.carrier)).Nodup) (w : Wanted) (k : Nat) :
    keeps old capacity carried w = some k ↔ Owns old capacity carried w k := by
  cases hw : heldSlot w with
  | some x =>
    have rescue : w.kind = .rescue ∧ w.channel ≠ none := not_not.1 fun h => by cases hw.symm.trans (heldSlot_eq_none.2 h)
    rw [keeps, keptSlot_held hw, Owns, or_iff_left fun h => h.1 rescue, ← heldSlot_eq_some, hw]
  | none =>
    have other : ¬(w.kind = .rescue ∧ ∃ ch, w.channel = some ch ∧ k = ch.val + 1) := fun h => by
      cases hw.symm.trans (heldSlot_eq_some.2 h)
    rw [keeps, keptSlot_old hw, mem_heldSlots, Owns, or_iff_right other, and_iff_right (heldSlot_eq_none.1 hw)]
    refine ⟨fun ⟨e, he, rest⟩ => ⟨e, (find_carrier he).1, (find_carrier he).2, rest⟩, fun ⟨e, he, hc, rest⟩ => ⟨e, ?_, rest⟩⟩
    cases hf : old.find? (·.1.carrier = w.carrier) with
    | none => exact absurd (by simpa using hc) (List.find?_eq_none.1 hf e he)
    | some f =>
      obtain ⟨mf, cf⟩ := find_carrier hf
      rw [List.inj_on_of_nodup_map single mf he (cf.trans hc.symm)]

/-- A carrier that had one slot alone keeps that one, if it may (R82). -/
theorem keeps_single {old : List (Wanted × Nat)} {capacity k : Nat} {carried : List Wanted} {v w : Wanted}
    (hv : heldSlot v = none) (hw : (w, k) ∈ old) (hc : w.carrier = v.carrier)
    (single : ∀ o ∈ old, o.1.carrier = w.carrier → o = (w, k)) (fits : k ≤ capacity) (free : k ∉ heldSlots carried) :
    keeps old capacity carried v = some k := by
  refine (keptSlot_old hv).2 ?_
  cases hf : old.find? (·.1.carrier = v.carrier) with
  | none => exact absurd (by simpa using hc) (List.find?_eq_none.1 hf _ hw)
  | some f =>
    obtain ⟨mf, cf⟩ := find_carrier hf
    obtain rfl := single f mf (cf.trans hc.symm)
    exact ⟨_, rfl, rfl, fits, free⟩

end Sys2Proof.Machine
end

section
/-! SUPPORT. The planner's record, field by field, carriage order, and what fills a slot (R78 to R81, R83 to R85). -/

namespace Sys2Proof.Machine

open Sys2Proof

/-! ### Carriage order (R80) -/

/-- The entries that have a key, in the order of their keys. -/
def keyed {n : Nat} (key : Wanted → Option (Fin n)) (ws : List Wanted) : List Wanted :=
  (List.finRange n).flatMap fun i => ws.filter fun w => key w = some i

section
variable {n : Nat} (key : Wanted → Option (Fin n)) (ws : List Wanted)

theorem mem_keyed {key : Wanted → Option (Fin n)} {ws : List Wanted} {w : Wanted} : w ∈ keyed key ws ↔
    w ∈ ws ∧ (key w).isSome := by
  simp [keyed, Option.isSome_iff_exists]

theorem count_keyed (w : Wanted) : (keyed key ws).count w = if (key w).isSome then ws.count w else 0 := by
  have each (i : Fin n) : (ws.filter fun w => key w = some i).count w = if key w = some i then ws.count w else 0 := by
    split
    next h => exact List.count_filter (by simpa using h)
    next h => exact List.count_eq_zero.2 fun hm => h (by simpa using (List.mem_filter.1 hm).2)
  rw [keyed, List.count_flatMap, show List.count w ∘ _ = fun i => if key w = some i then ws.count w else 0 from funext each,
    ← Fin.sum_univ_def]
  cases hk : key w with
  | none => simp
  | some i => simp

theorem keyed_ascending : (keyed key ws).Pairwise fun e f => ∃ i j, key e = some i ∧ key f = some j ∧ i ≤ j := by
  refine List.pairwise_flatMap.2 ⟨fun i _ => ?_, (List.pairwise_lt_finRange n).imp fun {i j} lt e he f hf => ?_⟩
  · refine List.pairwise_of_forall_mem_list fun e he f hf => ⟨i, i, ?_, ?_, le_rfl⟩
    · simpa using (List.mem_filter.1 he).2
    · simpa using (List.mem_filter.1 hf).2
  · exact ⟨i, j, by simpa using (List.mem_filter.1 he).2, by simpa using (List.mem_filter.1 hf).2, lt.le⟩

end

/-- The carrier id of an entry of a kind. -/
def carrierKey (kind : CarrierKind) (w : Wanted) : Option CarrierNo := if w.kind = kind then some w.carrier else none

/-- The channel of a rescue entry. -/
def channelKey (w : Wanted) : Option ChannelNo := if w.kind = .rescue then w.channel else none

theorem byCarrier_eq (kind : CarrierKind) (ws : List Wanted) : byCarrier kind ws = keyed (carrierKey kind) ws := by
  refine congrArg (fun f => List.flatMap f _) (funext fun c => List.filter_congr fun w _ => ?_)
  by_cases h : w.kind = kind <;> simp [carrierKey, h]

theorem byChannel_eq (ws : List Wanted) : byChannel ws = keyed channelKey ws := by
  refine congrArg (fun f => List.flatMap f _) (funext fun c => List.filter_congr fun w _ => ?_)
  by_cases h : w.kind = .rescue <;> simp [channelKey, h]

theorem carriageOrder_eq (ws : List Wanted) : carriageOrder ws =
    keyed channelKey ws ++ keyed (carrierKey .broadcast) ws ++ keyed (carrierKey .mobile) ws := by
  rw [carriageOrder, byChannel_eq, byCarrier_eq, byCarrier_eq]

theorem carriageOrder_perm {ws : List Wanted} (h : ∀ e ∈ ws, e.kind = .rescue → e.channel ≠ none) :
    (carriageOrder ws).Perm ws := by
  refine List.perm_iff_count.2 fun w => ?_
  rw [carriageOrder_eq, List.count_append, List.count_append, count_keyed, count_keyed, count_keyed]
  by_cases hw : w ∈ ws
  · cases hk : w.kind with
    | rescue => simp [channelKey, carrierKey, hk, Option.isSome_iff_ne_none, h w hw hk]
    | broadcast => simp [channelKey, carrierKey, hk]
    | mobile => simp [channelKey, carrierKey, hk]
  · simp [List.count_eq_zero.2 hw]

section
variable (flag : Bool)

/-- The tier of an entry, 1 to 4, under the announcement flag (R80). -/
def tierOf (e : Wanted) : Nat := match e.kind with
  | .rescue => 1
  | .broadcast => if flag then 2 else 3
  | .mobile => 4

/-- The place of an entry within its tier (R80). -/
def placeOf (e : Wanted) : Nat := if e.kind = .rescue then (e.channel.map Fin.val).getD 0 else e.carrier.val

theorem carrierKey_eq_some {kind : CarrierKind} {w : Wanted} {c : CarrierNo} :
    carrierKey kind w = some c ↔ w.kind = kind ∧ w.carrier = c := by
  unfold carrierKey
  split <;> simp_all

theorem channelKey_eq_some {w : Wanted} {ch : ChannelNo} : channelKey w = some ch ↔ w.kind = .rescue ∧ w.channel = some ch := by
  unfold channelKey
  split <;> simp_all

theorem byCarrier_ordered {kind : CarrierKind} (other : kind ≠ .rescue) (ws : List Wanted) :
    (keyed (carrierKey kind) ws).Pairwise fun e f => tierOf flag e < tierOf flag f ∨
      (tierOf flag e = tierOf flag f ∧ placeOf e ≤ placeOf f) := by
  refine (keyed_ascending (carrierKey kind) ws).imp fun {e f} ⟨i, j, hi, hj, le⟩ => .inr ?_
  obtain ⟨ke, rfl⟩ := carrierKey_eq_some.1 hi
  obtain ⟨kf, rfl⟩ := carrierKey_eq_some.1 hj
  exact ⟨by simp [tierOf, ke, kf], by simpa [placeOf, ke, kf, other] using le⟩

theorem byChannel_ordered (ws : List Wanted) :
    (keyed channelKey ws).Pairwise fun e f => tierOf flag e < tierOf flag f ∨
      (tierOf flag e = tierOf flag f ∧ placeOf e ≤ placeOf f) := by
  refine (keyed_ascending channelKey ws).imp fun {e f} ⟨i, j, hi, hj, le⟩ => .inr ?_
  obtain ⟨ke, ce⟩ := channelKey_eq_some.1 hi
  obtain ⟨kf, cf⟩ := channelKey_eq_some.1 hj
  exact ⟨by simp [tierOf, ke, kf], by simpa [placeOf, ke, kf, ce, cf] using le⟩

theorem mem_byCarrier_kind {kind : CarrierKind} {ws : List Wanted} {w : Wanted} (h : w ∈ keyed (carrierKey kind) ws) :
    w.kind = kind := by
  obtain ⟨c, hc⟩ := Option.isSome_iff_exists.1 (mem_keyed.1 h).2
  exact (carrierKey_eq_some.1 hc).1

theorem mem_byChannel_kind {ws : List Wanted} {w : Wanted} (h : w ∈ keyed channelKey ws) : w.kind = .rescue := by
  obtain ⟨c, hc⟩ := Option.isSome_iff_exists.1 (mem_keyed.1 h).2
  exact (channelKey_eq_some.1 hc).1

/-- Carriage order, whichever the flag: by tier, and within a tier by place (R80). -/
theorem carriageOrder_ordered (ws : List Wanted) : (carriageOrder ws).Pairwise fun e f =>
    tierOf flag e < tierOf flag f ∨ (tierOf flag e = tierOf flag f ∧ placeOf e ≤ placeOf f) := by
  rw [carriageOrder_eq]
  refine List.pairwise_append.2 ⟨List.pairwise_append.2 ⟨byChannel_ordered flag ws, byCarrier_ordered flag (by decide) ws, ?_⟩,
    byCarrier_ordered flag (by decide) ws, ?_⟩
  · intro e he f hf
    refine .inl ?_
    simp only [tierOf, mem_byChannel_kind he, mem_byCarrier_kind hf]
    split <;> decide
  · intro e he f hf
    refine .inl ?_
    rcases List.mem_append.1 he with he | he
    · simp only [tierOf, mem_byChannel_kind he, mem_byCarrier_kind hf]
      decide
    · simp only [tierOf, mem_byCarrier_kind he, mem_byCarrier_kind hf]
      split <;> decide

end

/-! ### The record after an event (R77 to R79, R81, R83, R84) -/

theorem assignSlots_carriers (old : List (Wanted × Nat)) (capacity : Nat) (carried : List Wanted) :
    (assignSlots old capacity carried).map (·.1) = carried := giveSlots_carriers _ _ _

section
variable (s : State) (path : SpanPort) (cause : CarriageCause) (old : CarriageRec)

theorem taking_list : (old.taking s path cause).list = if cause = .plan then s.carriageList path.ring else old.list := by
  cases cause <;> rfl

theorem taking_capacity : (old.taking s path cause).capacity =
    if cause = .feed ∨ cause = .capacity then ((s.rings.get path.ring).pathCapacity path.side).map (·.1) else old.capacity := by
  cases cause <;> rfl

theorem taking_units : (old.taking s path cause).units =
    if cause = .feed then (s.rings.get path.ring).members path.side else old.units := by
  cases cause <;> rfl

theorem taking_announcing : (old.taking s path cause).announcing = if cause = .feed ∨ cause = .cls then
    decide (∃ u ∈ (old.taking s path cause).units, s.announced ⟨path.ring, u⟩ = true) else old.announcing := by
  have announced (units : List UnitNo) : pathAnnounced s path.ring units =
      decide (∃ u ∈ units, s.announced ⟨path.ring, u⟩ = true) := by
    rw [Bool.eq_iff_iff, pathAnnounced, List.any_eq_true, decide_eq_true_eq]
  cases cause <;> simp [CarriageRec.taking, announced]

variable {old}

theorem formed_list : (old.formed s).list = old.list := by
  unfold CarriageRec.formed
  split <;> rfl

theorem formed_capacity : (old.formed s).capacity = old.capacity := by
  unfold CarriageRec.formed
  split
  next h => exact h.symm
  next => rfl

theorem formed_none (h : old.capacity = none) : old.formed s = .start old.list := by
  rw [CarriageRec.formed, h]

theorem formed_some {capacity : Nat} (h : old.capacity = some capacity) : old.formed s = { old with
    wanted := carriageOrder (s.catalogued old.list)
    carried := assignSlots old.carried capacity ((carriageOrder (s.catalogued old.list)).take capacity)
    shed := (carriageOrder (s.catalogued old.list)).drop capacity } := by
  rw [CarriageRec.formed, h]

end

/-! ### What fills a slot (R2, R85) -/

section
variable {s : State} {path : SpanPort} {k : Nat}

theorem slotStream_none (h : (s.spans.get path).isUp = false ∨ ∀ e ∈ (s.carriage.get path).carried, e.2 ≠ k) :
    slotStream s path k = none := by
  unfold slotStream
  split
  next up =>
    have empty : ∀ e ∈ (s.carriage.get path).carried, e.2 ≠ k := h.resolve_left (by simp [up])
    rw [List.find?_eq_none.2 (by simpa using empty), Option.bind_none]
  next => rfl

/-- A slot that one carrier has draws on that carrier's stream. -/
theorem slotStream_carrier {e : Wanted × Nat} (he : e ∈ (s.carriage.get path).carried) (hk : e.2 = k)
    (distinct : ((s.carriage.get path).carried.map (·.2)).Nodup) (up : (s.spans.get path).isUp = true) {x : Carrier}
    (hx : s.work.catalogue[e.1.carrier] = some x) : slotStream s path k = streamOf x := by
  have found : (s.carriage.get path).carried.find? (·.2 = k) = some e := by
    cases hf : (s.carriage.get path).carried.find? (·.2 = k) with
    | none => exact absurd (by simpa using hk) (List.find?_eq_none.1 hf e he)
    | some f =>
      have slot : f.2 = k := by simpa using List.find?_some hf
      rw [List.inj_on_of_nodup_map distinct (List.mem_of_find?_eq_some hf) he (slot.trans hk.symm)]
  rw [slotStream, if_pos up, found, Option.bind_some, hx, Option.bind_some]

variable {p : Position}

theorem slotFill_unfed (ha : s.unitState p ≠ .fedA) (hb : s.unitState p ≠ .fedB) : slotFill s p k = none := by
  have side : (s.unitState p).side = none := by cases h : s.unitState p <;> simp_all [UnitState.side]
  rw [slotFill, side, Option.bind_none]

section
variable {side : Side} (fed : (s.unitState p).side = some side)
include fed

theorem slotFill_empty (h : slotStream s ⟨p.ring, side⟩ k = none) : slotFill s p k = none := by
  rw [slotFill, fed, Option.bind_some, h, Option.map_none]

/-- At a unit that hears a player's page, the page takes a programme's place (R137). -/
theorem slotFill_page {n : Fin 4} {player : PlayerNo} (h : slotStream s ⟨p.ring, side⟩ k = some (.programme n))
    (hears : inserted s p = .page player) : slotFill s p k = some (.page player) := by
  rw [slotFill, fed, Option.bind_some, h, hears, Option.map_some]

theorem slotFill_stream {x : SlotStream} (h : slotStream s ⟨p.ring, side⟩ k = some x)
    (own : inserted s p = .programme ∨ ∀ n, x ≠ .programme n) : slotFill s p k = some (.stream x) := by
  rw [slotFill, fed, Option.bind_some, h, Option.map_some]
  rcases own with hears | other
  · rw [hears]
    cases x <;> rfl
  · cases x with
    | programme n => exact absurd rfl (other n)
    | voter | donor => rfl

end

end

end Sys2Proof.Machine
end

section
/-! SUPPORT. Carriage records that stand for their inputs, and what an event at the planner makes of one (R77 to R84, R87). -/

namespace Sys2Proof.Machine

open Sys2Proof

/-! ### Records that are formed, and that stand -/

/-- A record is what its own list, capacity and units and the Catalogue make of it (R78, R81). -/
structure Formed (s : State) (r : CarriageRec) : Prop where
  path : ∀ capacity, r.capacity = some capacity → r.wanted = carriageOrder (s.catalogued r.list) ∧
    r.carried.map (·.1) = r.wanted.take capacity ∧ r.shed = r.wanted.drop capacity
  empty : r.capacity = none → r.units = [] ∧ r.wanted = [] ∧ r.carried = [] ∧ r.shed = []

/-- A path's record stands for the list, the ring and the Catalogue, all but its announcement flag. -/
structure PathStands (s : State) (path : SpanPort) (r : CarriageRec) : Prop where
  list : r.list = s.carriageList path.ring
  capacity : r.capacity = ((s.rings.get path.ring).pathCapacity path.side).map (·.1)
  units : r.units = (s.rings.get path.ring).members path.side
  formed : Formed s r

/-- A path without a capacity has no units. -/
def Hollow (s : State) : Prop := ∀ path : SpanPort, (s.rings.get path.ring).pathCapacity path.side = none →
  (s.rings.get path.ring).members path.side = []

/-- Two records agree on all but the flag and the slots. -/
structure Alike (r r' : CarriageRec) : Prop where
  list : r'.list = r.list
  units : r'.units = r.units
  capacity : r'.capacity = r.capacity
  wanted : r'.wanted = r.wanted
  carried : r'.carried.map (·.1) = r.carried.map (·.1)
  shed : r'.shed = r.shed

/-- Two states agree on all that a planner reads but the announcements. -/
structure PlannerInputs (s t : State) : Prop where
  list : t.carriageList = s.carriageList
  rings : t.rings = s.rings
  catalogue : t.work.catalogue = s.work.catalogue

section
variable {s t : State} {path : SpanPort} {r r' r'' : CarriageRec}

theorem Alike.refl (r : CarriageRec) : Alike r r := ⟨rfl, rfl, rfl, rfl, rfl, rfl⟩

theorem Alike.trans (h : Alike r r') (k : Alike r' r'') : Alike r r'' :=
  ⟨k.list.trans h.list, k.units.trans h.units, k.capacity.trans h.capacity, k.wanted.trans h.wanted,
    k.carried.trans h.carried, k.shed.trans h.shed⟩

theorem carriageList_congr (h : t.activePlan = s.activePlan) : t.carriageList = s.carriageList :=
  funext fun r => by cases r <;> simp only [State.carriageList, h]

theorem catalogued_congr (h : t.work.catalogue = s.work.catalogue) : t.catalogued = s.catalogued :=
  funext fun list => by simp only [State.catalogued, h]

theorem Formed.congr (h : Formed s r) (alike : Alike r r') (catalogue : t.work.catalogue = s.work.catalogue) : Formed t r' := by
  obtain ⟨list, units, capacity, wanted, carried, shed⟩ := alike
  refine ⟨fun n hn => ?_, fun hn => ?_⟩
  · rw [wanted, list, carried, shed, catalogued_congr catalogue]
    exact h.path n (capacity ▸ hn)
  · obtain ⟨hu, hw, hc, hs⟩ := h.empty (capacity ▸ hn)
    refine ⟨units.trans hu, wanted.trans hw, ?_, shed.trans hs⟩
    rwa [hc, List.map_nil, List.map_eq_nil_iff] at carried

theorem PathStands.congr (h : PathStands s path r) (alike : Alike r r') (inputs : PlannerInputs s t) : PathStands t path r' where
  list := by rw [inputs.list]; exact alike.list.trans h.list
  capacity := by rw [inputs.rings]; exact alike.capacity.trans h.capacity
  units := by rw [inputs.rings]; exact alike.units.trans h.units
  formed := h.formed.congr alike inputs.catalogue

/-- The carriage records are sound when each stands and has its flag. -/
theorem carriageSound_iff (hollow : Hollow s) : CarriageSound s ↔ ∀ path, PathStands s path (s.carriage.get path) ∧
    ((s.carriage.get path).announcing = pathAnnounced s path.ring (s.carriage.get path).units) := by
  have announced (path : SpanPort) : ((s.carriage.get path).announcing = true ↔ ∃ u ∈ (s.carriage.get path).units,
      s.announced ⟨path.ring, u⟩ = true) ↔
        (s.carriage.get path).announcing = pathAnnounced s path.ring (s.carriage.get path).units := by
    rw [pathAnnounced, ← List.any_eq_true, ← Bool.eq_iff_iff]
  refine ⟨fun h path => ⟨⟨h.list path, h.capacity path, h.units path, h.wanted path, fun none => ?_⟩,
    (announced path).1 (h.announcing path)⟩, fun h => ?_⟩
  · refine ⟨(h.units path).trans (hollow path ?_), h.empty path none⟩
    rwa [h.capacity path, Option.map_eq_none_iff] at none
  · exact ⟨fun path => (h path).1.list, fun path => (h path).1.capacity, fun path => (h path).1.units,
      fun path => (announced path).2 (h path).2, fun path => (h path).1.formed.path,
      fun path none => ((h path).1.formed.empty none).2⟩

/-! ### An event at a record (R83, R84) -/

section
variable {cause : CarriageCause}

/-- A record is formed by forming it; where it has no capacity, its units go too. -/
theorem formed_formed : Formed s (r.formed s) := by
  cases hc : r.capacity with
  | none =>
    rw [formed_none s hc]
    exact ⟨nofun, fun _ => ⟨rfl, rfl, rfl, rfl⟩⟩
  | some capacity =>
    rw [formed_some s hc]
    refine ⟨fun n hn => ?_, fun hn => ?_⟩
    · obtain rfl := Option.some.inj (hc.symm.trans hn)
      exact ⟨rfl, assignSlots_carriers _ _ _, rfl⟩
    · cases hc.symm.trans hn

/-- A formed record, formed again with another flag, is the same but for its flag and slots. -/
theorem Formed.again (h : Formed s r) (list : r'.list = r.list) (units : r'.units = r.units)
    (capacity : r'.capacity = r.capacity) (inputs : t.work.catalogue = s.work.catalogue) : Alike r (r'.formed t) := by
  cases hc : r.capacity with
  | none =>
    obtain ⟨hu, hw, hca, hs⟩ := h.empty hc
    rw [formed_none t (capacity.trans hc)]
    exact ⟨list, hu.symm, hc.symm, hw.symm, by rw [hca]; rfl, hs.symm⟩
  | some n =>
    obtain ⟨hw, hca, hs⟩ := h.path n hc
    rw [formed_some t (capacity.trans hc), list, catalogued_congr inputs, ← hw]
    exact ⟨rfl, units, capacity, rfl, (assignSlots_carriers _ _ _).trans hca.symm, hs.symm⟩

/-- A class event changes nothing of a formed record but its flag and slots. -/
theorem Formed.cls (h : Formed s r) (catalogue : t.work.catalogue = s.work.catalogue) : Alike r (plan t path .cls r) :=
  h.again rfl rfl rfl catalogue

/-- No event changes anything of a record that stands but its flag and slots. -/
theorem PathStands.again (h : PathStands s path r) (inputs : PlannerInputs s t) (cause : CarriageCause) :
    Alike r (plan t path cause r) := by
  refine h.formed.again ?_ ?_ ?_ inputs.catalogue
  · rw [taking_list, inputs.list, h.list, ite_self]
  · rw [taking_units, inputs.rings, h.units, ite_self]
  · rw [taking_capacity, inputs.rings, h.capacity, ite_self]

/-- An event makes like records of like ones. -/
theorem Alike.plan (h : Alike r r') (inputs : PlannerInputs s t) (cause : CarriageCause) :
    Alike (plan s path cause r) (plan t path cause r') := by
  have list : (r'.taking t path cause).list = (r.taking s path cause).list := by
    rw [taking_list, taking_list, inputs.list, h.list]
  have units : (r'.taking t path cause).units = (r.taking s path cause).units := by
    rw [taking_units, taking_units, inputs.rings, h.units]
  have capacity : (r'.taking t path cause).capacity = (r.taking s path cause).capacity := by
    rw [taking_capacity, taking_capacity, inputs.rings, h.capacity]
  have first := formed_formed (s := s) (r := r.taking s path cause)
  unfold Machine.plan
  cases hc : (r.taking s path cause).capacity with
  | none =>
    rw [formed_none s hc, formed_none t (capacity.trans hc), list]
    exact .refl _
  | some n =>
    rw [formed_some s hc, formed_some t (capacity.trans hc), list, catalogued_congr inputs.catalogue]
    exact ⟨rfl, units, capacity, rfl, (assignSlots_carriers _ _ _).trans (assignSlots_carriers _ _ _).symm, rfl⟩

/-- A record stands after an event, when the event brings what it lacked. -/
theorem plan_stands (hollow : Hollow s) (list : cause = .plan ∨ r.list = s.carriageList path.ring)
    (capacity : (cause = .feed ∨ cause = .capacity) ∨ r.capacity = ((s.rings.get path.ring).pathCapacity path.side).map (·.1))
    (units : cause = .feed ∨ r.units = (s.rings.get path.ring).members path.side) :
    PathStands s path (plan s path cause r) := by
  have list : (r.taking s path cause).list = s.carriageList path.ring := by
    rw [taking_list]
    split
    next => rfl
    next other => exact list.resolve_left other
  have capacity : (r.taking s path cause).capacity = ((s.rings.get path.ring).pathCapacity path.side).map (·.1) := by
    rw [taking_capacity]
    split
    next => rfl
    next other => exact capacity.resolve_left other
  have units : (r.taking s path cause).units = (s.rings.get path.ring).members path.side := by
    rw [taking_units]
    split
    next => rfl
    next other => exact units.resolve_left other
  refine ⟨(formed_list s).trans list, (formed_capacity s).trans capacity, ?_, formed_formed⟩
  unfold plan
  cases hc : (r.taking s path cause).capacity with
  | none =>
    rw [formed_none s hc]
    exact (hollow path (by rwa [capacity, Option.map_eq_none_iff] at hc)).symm
  | some n => rw [formed_some s hc]; exact units

/-- An event leaves a flag right that was right, and sets it where it brings the units or their class. -/
theorem plan_announcing (h : r.announcing = pathAnnounced s path.ring r.units ∨ cause = .cls) :
    (plan s path cause r).announcing = pathAnnounced s path.ring (plan s path cause r).units := by
  have taken : (r.taking s path cause).announcing = pathAnnounced s path.ring (r.taking s path cause).units := by
    cases cause with
    | feed | cls => rfl
    | plan | capacity | catalogue => exact h.resolve_right nofun
  unfold plan
  cases hc : (r.taking s path cause).capacity with
  | none => rw [formed_none s hc]; rfl
  | some n => rw [formed_some s hc]; exact taken

/-- The units of a record after an event are those it had, or those of the path. -/
theorem mem_plan_units {u : UnitNo} (h : u ∈ (plan s path cause r).units) :
    u ∈ r.units ∨ u ∈ (s.rings.get path.ring).members path.side := by
  have := plan_units h
  split at this
  · exact .inr this
  · exact .inl this

end

end

/-! ### Slots that stay (R82) -/

/-- The slot of an entry is one that an assignment keeps. -/
def Lasting (capacity : Nat) (carried : List Wanted) (e : Wanted × Nat) : Prop :=
  heldSlot e.1 = some e.2 ∨ (heldSlot e.1 = none ∧ e.2 ≤ capacity ∧ e.2 ∉ heldSlots carried)

section
variable {capacity : Nat} {carried : List Wanted}

theorem giveSlots_given {kept : Wanted → Option Nat} {ws : List Wanted} {free : List Nat} {e : Wanted × Nat}
    (he : e ∈ giveSlots kept ws free) : kept e.1 = some e.2 ∨ (kept e.1 = none ∧ (e.2 ∈ free ∨ e.2 = 0)) := by
  induction ws generalizing free with
  | nil => cases he
  | cons w ws ih =>
    unfold giveSlots at he
    split at he
    next keeps =>
      rcases List.mem_cons.1 he with rfl | he
      · exact .inl keeps
      · exact ih he
    next none =>
      rcases List.mem_cons.1 he with rfl | he
      · exact .inr ⟨none, .inl (List.mem_cons_self ..)⟩
      · exact (ih he).imp_right (.imp_right (.imp_left (List.mem_cons_of_mem _)))
    next none =>
      rcases List.mem_cons.1 he with rfl | he
      · exact .inr ⟨none, .inr rfl⟩
      · exact ih he

theorem assignSlots_lasting {old : List (Wanted × Nat)} {e : Wanted × Nat} (he : e ∈ assignSlots old capacity carried) :
    Lasting capacity carried e := by
  cases hw : heldSlot e.1 with
  | some k => exact .inl (hw.trans (congrArg some (giveSlots_kept he (keptSlot_held hw)).symm))
  | none =>
    refine .inr ⟨hw, ?_⟩
    rcases giveSlots_given he with kept | ⟨-, free | zero⟩
    · obtain ⟨_, -, -, fits, free⟩ := (keptSlot_old hw).1 kept
      exact ⟨fits, free⟩
    · obtain ⟨⟨-, fits⟩, untaken⟩ := mem_freeSlots.1 free
      refine ⟨fits, fun held => untaken ?_⟩
      obtain ⟨w, hm, hk⟩ := List.mem_filterMap.1 held
      exact List.mem_filterMap.2 ⟨w, hm, keptSlot_held hk⟩
    · rw [zero]
      refine ⟨Nat.zero_le _, fun held => ?_⟩
      obtain ⟨_, -, -, _, -, absurd⟩ := mem_heldSlots.1 held
      cases absurd

/-- The entry found for a carrier in two maps of the same carriers is of the same one. -/
theorem find_of_carriers {x y : List (Wanted × Nat)} (h : x.map (·.1) = y.map (·.1)) (c : CarrierNo) :
    (x.find? (·.1.carrier = c)).map (·.1) = (y.find? (·.1.carrier = c)).map (·.1) := by
  have found (z : List (Wanted × Nat)) : (z.find? (·.1.carrier = c)).map (·.1) = (z.map (·.1)).find? (·.carrier = c) := by
    rw [List.find?_map]
    rfl
  rw [found, found, h]

/-- Slots that last are found again when they are assigned anew. -/
theorem assignSlots_again {old : List (Wanted × Nat)} (same : old.map (·.1) = carried)
    (lasting : ∀ e ∈ old, Lasting capacity carried e) (c : CarrierNo) :
    (assignSlots old capacity carried).find? (·.1.carrier = c) = old.find? (·.1.carrier = c) := by
  have carriers := find_of_carriers ((assignSlots_carriers old capacity carried).trans same.symm) c
  cases hf : old.find? (·.1.carrier = c) with
  | none =>
    rw [hf] at carriers
    exact Option.map_eq_none_iff.1 carriers
  | some e =>
    rw [hf] at carriers
    obtain ⟨f, hg, hfe : f.1 = e.1⟩ := Option.map_eq_some_iff.1 carriers
    have carrier : e.1.carrier = c := by simpa using List.find?_some hf
    have kept : keeps old capacity carried e.1 = some e.2 := by
      rcases lasting e (List.mem_of_find?_eq_some hf) with held | ⟨unheld, fits, free⟩
      · exact keptSlot_held held
      · exact (keptSlot_old unheld).2 ⟨e, by rw [carrier]; exact hf, rfl, fits, free⟩
    have slot : f.2 = e.2 := giveSlots_kept (List.mem_of_find?_eq_some hg) (by rw [hfe]; exact kept)
    rw [hg, Prod.ext hfe slot]

end

/-- The slots of a record last. -/
def SlotsLast (r : CarriageRec) : Prop := ∀ capacity, r.capacity = some capacity →
  ∀ e ∈ r.carried, Lasting capacity (r.carried.map (·.1)) e

section
variable {s t : State} {path : SpanPort} {r r' : CarriageRec}

theorem plan_slotsLast (s : State) (path : SpanPort) (cause : CarriageCause) (r : CarriageRec) :
    SlotsLast (plan s path cause r) := by
  intro capacity hc e he
  unfold plan at hc he ⊢
  rw [formed_capacity] at hc
  rw [formed_some s hc] at he ⊢
  rw [assignSlots_carriers]
  exact assignSlots_lasting he

/-- Records agree on all that a report names. -/
structure Found (r r' : CarriageRec) : Prop extends Alike r r' where
  slots : ∀ c : CarrierNo, r'.carried.find? (·.1.carrier = c) = r.carried.find? (·.1.carrier = c)

/-- Like records by an event from one whose slots last have each carrier at its slot. -/
theorem Formed.found {cause : CarriageCause} (h : Formed s r) (last : SlotsLast r) (alike : Alike r (plan t path cause r)) :
    Found r (plan t path cause r) := by
  refine ⟨alike, fun c => ?_⟩
  have capacity := (formed_capacity t).symm.trans alike.capacity
  have kept : (r.taking t path cause).carried = r.carried := by cases cause <;> rfl
  have carried := alike.carried
  unfold plan at carried ⊢
  cases hc : r.capacity with
  | none =>
    obtain ⟨-, -, empty, -⟩ := h.empty hc
    rw [formed_none t (capacity.trans hc), empty]
    rfl
  | some n =>
    rw [formed_some t (capacity.trans hc), assignSlots_carriers] at carried
    rw [formed_some t (capacity.trans hc), carried, kept]
    exact assignSlots_again rfl (last n hc) c

/-- The reports of a record are those of one that agrees with it. -/
theorem shedReports_congr (code : Nat) {old old' : CarriageRec} (shed : old'.shed = old.shed) (found : Found r r') :
    shedReports path code old' r' = shedReports path code old r := by
  simp only [shedReports, shed, found.shed, found.wanted, found.capacity, found.slots]

end

end Sys2Proof.Machine
end

section
/-! SUPPORT. The hand-overs of a command at the planners, taken in whatever order: each path's record comes to stand, with its
flag, and what it sheds is told (R79, R83, R87, R138). -/

namespace Sys2Proof.Machine

open Sys2Proof

/-! ### Announcements that change (R138) -/

section
variable {s t : State} {path : SpanPort} {units : List UnitNo}

theorem pathAnnounced_congr (h : ∀ u ∈ units, t.announced ⟨path.ring, u⟩ = s.announced ⟨path.ring, u⟩) :
    pathAnnounced t path.ring units = pathAnnounced s path.ring units := by
  rw [pathAnnounced, pathAnnounced, Bool.eq_iff_iff, List.any_eq_true, List.any_eq_true]
  exact exists_congr fun u => and_congr_right fun hu => by rw [h u hu]

/-- The announcements are those of the carrying zones and their members. -/
theorem announced_of_zones (carrying : t.breakin.carrying = s.breakin.carrying) (zones : t.work.zones = s.work.zones)
    (p : Position) : t.announced p = s.announced p := by
  simp only [State.announced, carrying, zones]

/-- A path whose units' announcements change has its flag judged afresh. -/
theorem flag_of_change {ps : List Position} (fed : ∀ u ∈ units, u ∈ (t.rings.get path.ring).members path.side)
    (changed : ∀ p, t.announced p ≠ s.announced p → p ∈ ps) :
    pathAnnounced t path.ring units = pathAnnounced s path.ring units ∨ .flag path ∈ classHands t ps := by
  by_cases same : ∀ u ∈ units, t.announced ⟨path.ring, u⟩ = s.announced ⟨path.ring, u⟩
  · exact .inl (pathAnnounced_congr same)
  · simp only [not_forall] at same
    obtain ⟨u, hu, differ⟩ := same
    refine .inr (List.mem_append_right _ (List.mem_map_of_mem (List.mem_filter.2 ⟨mem_allSpans path, ?_⟩)))
    refine List.any_eq_true.2 ⟨⟨path.ring, u⟩, changed _ differ, ?_⟩
    have side : (t.unitState ⟨path.ring, u⟩).side = some path.side := mem_members.1 (fed u hu)
    simp [side]

theorem settlement_flags (removals : List Note) (q : List BreakIn) (n : Nat)
    (fed : ∀ u ∈ units, u ∈ (s.rings.get path.ring).members path.side) :
    let y := settlement removals q { s with breakin := { s.breakin with accepted := n } }
    pathAnnounced y.1 path.ring units = pathAnnounced s path.ring units ∨ .flag path ∈ y.2 := by
  intro y
  exact (flag_of_change (s := s) (t := y.1) fed fun p differ => mem_carryingChanged (s := s) (b := y.1.breakin) differ).imp_right
    (List.mem_cons_of_mem _)

end

/-! ### What hand-overs hand on -/

/-- A planner's event hands on allocator events alone. -/
theorem plannerEvent_apart (path : SpanPort) (cause : CarriageCause) (joined : List UnitNo) (s : State) :
    ∀ h ∈ (plannerEvent path cause joined s).2, h.apart := by
  intro h hm
  rcases List.mem_append.1 hm with hm | hm
  · obtain ⟨u, -, rfl⟩ := List.mem_map.1 hm
    exact alloc_apart _ _
  · split at hm
    · cases hm
    · obtain ⟨u, -, rfl⟩ := List.mem_map.1 hm
      exact alloc_apart _ _

section
variable {h : HandOver} (k : h.apart)
include k

theorem HandOver.apart.ne_planner (path : SpanPort) (cause : CarriageCause) (joined : List UnitNo) :
    h ≠ .planner path cause joined := by
  rintro rfl
  exact k.1 (by simp [HandOver.reach])

theorem HandOver.apart.ne_flag (path : SpanPort) : h ≠ .flag path := by
  rintro rfl
  exact k.1 (by simp [HandOver.reach])

theorem HandOver.apart.ne_activation : h ≠ .activation := by
  rintro rfl
  exact k.2 (by simp [HandOver.reach])

/-- What follows from a hand-over apart is apart. -/
theorem HandOver.apart.follows (s : State) : ∀ h' ∈ (handle h s).2, h'.apart := fun h' hm =>
  ⟨fun hp => k.1 (handle_reach h s h' hm _ hp), fun hp => k.2 (handle_reach h s h' hm _ hp)⟩

theorem HandOver.apart.same (s : State) : (handle h s).1.carriage = s.carriage ∧ (handle h s).1.breakin = s.breakin :=
  ⟨handle_sameBut h s .carriage fun hp => k.1 (h.parts_sub_reach _ hp),
    handle_sameBut h s .breakin fun hp => k.2 (h.parts_sub_reach _ hp)⟩

end

/-! ### The hand-overs on the way -/

/-- A path's record stands, and what it has shed or taken back since `b` is told, with the slots it has. -/
structure Accounted (s b : State) (path : SpanPort) (σ : State) : Prop where
  stands : PathStands b path (σ.carriage.get path)
  told : (σ.carriage.get path).shed = (b.carriage.get path).shed ∨ (SlotsLast (σ.carriage.get path) ∧
    ∃ code, Told (shedReports path code (b.carriage.get path) (σ.carriage.get path)) s σ)

/-- While the hand-overs of a command with result `b` are taken: each path's record stands, or is as it was and its planner is
still to be told; and its flag is right, or is still to be judged. -/
structure Running (s b σ : State) (hs : List HandOver) : Prop where
  same : SameBut (.ports :: .inFlight :: handedParts) b σ
  ready : Ready σ
  logs : Logs s σ
  makes : ∀ p c j, .planner p c j ∈ hs → PathStands b p (plan b p c (b.carriage.get p))
  calm : (∀ h ∈ hs, h ≠ .activation ∧ ∀ q, h ≠ .flag q) ∨ ∀ p, Formed b (b.carriage.get p)
  fed : .activation ∈ hs → ∀ p, ∀ u ∈ (σ.carriage.get p).units, u ∈ (b.rings.get p.ring).members p.side
  paths : ∀ p, (Alike (b.carriage.get p) (σ.carriage.get p) ∧ ∃ c j, .planner p c j ∈ hs) ∨ Accounted s b p σ
  flags : ∀ p, (σ.carriage.get p).announcing = pathAnnounced σ p.ring (σ.carriage.get p).units ∨ .flag p ∈ hs

section
variable {s b σ τ : State} {h : HandOver} {hs ks : List HandOver}

/-- A later state with the same record of a path. -/
theorem Accounted.later {p : SpanPort} (k : Accounted s b p σ) (carriage : τ.carriage.get p = σ.carriage.get p)
    (logs : Logs σ τ) : Accounted s b p τ := by
  obtain ⟨stands, told⟩ := k
  rw [← carriage] at stands told
  exact ⟨stands, told.imp_right fun ⟨last, code, told⟩ => ⟨last, code, told.logs logs⟩⟩

theorem Running.perm (hp : hs.Perm ks) (run : Running s b σ hs) : Running s b σ ks where
  same := run.same
  ready := run.ready
  logs := run.logs
  makes p c j hm := run.makes p c j (hp.mem_iff.2 hm)
  calm := run.calm.imp_left fun calm h hm => calm h (hp.mem_iff.2 hm)
  fed hm := run.fed (hp.mem_iff.2 hm)
  paths p := (run.paths p).imp_left fun ⟨alike, c, j, hm⟩ => ⟨alike, c, j, hp.mem_iff.1 hm⟩
  flags p := (run.flags p).imp_right hp.mem_iff.1

theorem Running.choices (cs : List Nat) (run : Running s b σ hs) : Running s b { σ with choices := cs } hs where
  same := run.same.trans ((setChoices_sameBut σ cs).mono (by simp [handedParts]))
  ready := ⟨run.ready.queue, run.ready.templates⟩
  logs := run.logs
  makes := run.makes
  calm := run.calm
  fed := run.fed
  paths p := (run.paths p).imp_right fun k => k.later rfl (.of_agree ⟨rfl, rfl, fun _ => ⟨rfl, rfl⟩⟩)
  flags := run.flags

theorem Running.inputs (run : Running s b σ hs) : PlannerInputs b σ := by
  have work : σ.work = b.work := run.same .work (by simp [handedParts])
  exact ⟨carriageList_congr (activePlan_congr work (run.same .plans (by simp [handedParts]))),
    run.same .rings (by simp [handedParts]), by rw [work]⟩

/-! ### An event at a planner -/

/-- The first event that brings a path what it lacks forms its record, and reports it (R83, R87). -/
theorem Running.formed (run : Running s b σ hs) {p : SpanPort} (alike : Alike (b.carriage.get p) (σ.carriage.get p))
    {cause : CarriageCause} (makes : PathStands b p (plan b p cause (b.carriage.get p))) (joined : List UnitNo) :
    Accounted s b p (plannerEvent p cause joined σ).1 := by
  have set : (plannerEvent p cause joined σ).1.carriage.get p = plan σ p cause (σ.carriage.get p) := by
    rw [plannerEvent_carriage, if_pos rfl]
  have told := plannerEvent_told (.nil run.logs) p cause joined
  refine ⟨?_, .inr ⟨set ▸ plan_slotsLast σ p cause _, carriageCause cause, ?_⟩⟩
  · rw [set]
    exact makes.congr (alike.plan run.inputs cause) ⟨rfl, rfl, rfl⟩
  · rw [set, ← shedReports_congr (carriageCause cause) alike.shed ⟨.refl _, fun _ => rfl⟩]
    exact told

/-- Any event leaves a record that stands, and its slots (R82, R83). -/
theorem Running.again (run : Running s b σ hs) {p : SpanPort} (k : Accounted s b p σ) (cause : CarriageCause)
    (joined : List UnitNo) : Accounted s b p (plannerEvent p cause joined σ).1 := by
  have set : (plannerEvent p cause joined σ).1.carriage.get p = plan σ p cause (σ.carriage.get p) := by
    rw [plannerEvent_carriage, if_pos rfl]
  have alike := k.stands.again run.inputs cause
  refine ⟨?_, ?_⟩ <;> rw [set]
  · exact k.stands.congr alike ⟨rfl, rfl, rfl⟩
  · refine k.told.imp (alike.shed.trans ·) fun ⟨last, code, told⟩ => ⟨plan_slotsLast σ p cause _, code, ?_⟩
    rw [shedReports_congr code rfl (k.stands.formed.found last alike)]
    exact told.logs (plannerEvent_logs p cause joined σ)

/-- An event at a planner, as its own or as its flag's, is taken. -/
theorem Running.planned (run : Running s b σ (h :: hs)) {p : SpanPort} {cause : CarriageCause} {joined : List UnitNo}
    (taken : h = .planner p cause joined ∨ (h = .flag p ∧ cause = .cls)) :
    Running s b (plannerEvent p cause joined σ).1 ((plannerEvent p cause joined σ).2 ++ hs) := by
  have same := plannerEvent_sameBut p cause joined σ
  have logs := plannerEvent_logs p cause joined σ
  have apart := plannerEvent_apart p cause joined σ
  have set (q : SpanPort) : (plannerEvent p cause joined σ).1.carriage.get q =
      if q = p then plan σ p cause (σ.carriage.get p) else σ.carriage.get q := plannerEvent_carriage p cause joined σ q
  have work : (plannerEvent p cause joined σ).1.work = σ.work := same .work (by simp)
  have breakin : (plannerEvent p cause joined σ).1.breakin = σ.breakin := same .breakin (by simp)
  have announced (q : SpanPort) (units : List UnitNo) : pathAnnounced (plannerEvent p cause joined σ).1 q.ring units =
      pathAnnounced σ q.ring units := pathAnnounced_congr fun _ _ => announced_congr breakin work _
  have rest {k : HandOver} (hk : ¬k.apart) (hm : k ∈ (plannerEvent p cause joined σ).2 ++ hs) : k ∈ hs :=
    (List.mem_append.1 hm).resolve_left fun hm => hk (apart k hm)
  have other {q : SpanPort} (hq : q ≠ p) {k : HandOver} (hk : (∃ c j, k = .planner q c j) ∨ k = .flag q) (hm : k ∈ h :: hs) :
      k ∈ hs := by
    refine (List.mem_cons.1 hm).resolve_left fun he => ?_
    subst he
    rcases taken with rfl | ⟨rfl, -⟩ <;> simp at hk <;> exact hq hk.symm
  refine ⟨run.same.trans (same.mono (by simp [handedParts])), run.ready.congr breakin (by rw [work]), run.logs.trans logs,
    fun q c j hm => ?_, run.calm.imp_left fun calm k hm => ?_, fun hm q u hu => ?_, fun q => ?_, fun q => ?_⟩
  · exact run.makes q c j (List.mem_cons_of_mem _ (rest (fun k => k.ne_planner _ _ _ rfl) hm))
  · rcases List.mem_append.1 hm with hm | hm
    · exact ⟨(apart k hm).ne_activation, (apart k hm).ne_flag⟩
    · exact calm k (List.mem_cons_of_mem _ hm)
  · have fed := run.fed (List.mem_cons_of_mem _ (rest (fun k => k.ne_activation rfl) hm)) q
    rw [set] at hu
    split at hu
    next hq =>
      subst hq
      rw [← run.inputs.rings] at fed ⊢
      exact (mem_plan_units hu).elim (fed u) id
    next => exact fed u hu
  · by_cases hq : q = p
    · subst hq
      rcases run.paths q with ⟨alike, c, j, hm⟩ | standing
      · rcases taken with rfl | ⟨rfl, rfl⟩
        · exact .inr (run.formed alike (run.makes q cause joined (List.mem_cons_self ..)) joined)
        · have formed := run.calm.resolve_left (fun calm => (calm _ (List.mem_cons_self ..)).2 q rfl) q
          refine .inl ⟨?_, c, j, List.mem_append_right _ ((List.mem_cons.1 hm).resolve_left nofun)⟩
          rw [set, if_pos rfl]
          exact alike.trans ((formed.congr alike rfl).cls run.inputs.catalogue)
      · exact .inr (run.again standing cause joined)
    · have kept := (set q).trans (if_neg hq)
      refine (run.paths q).imp (fun ⟨alike, c, j, hm⟩ => ⟨by rw [kept]; exact alike, c, j, ?_⟩) (·.later kept logs)
      exact List.mem_append_right _ (other hq (.inl ⟨c, j, rfl⟩) hm)
  · rw [announced, set]
    by_cases hq : q = p
    · subst hq
      rw [if_pos rfl]
      rcases run.flags q with right | hm
      · exact .inl (plan_announcing (.inl right))
      · rcases List.mem_cons.1 hm with rfl | hm
        · obtain rfl : cause = .cls := taken.elim nofun And.right
          exact .inl (plan_announcing (.inr rfl))
        · exact .inr (List.mem_append_right _ hm)
    · rw [if_neg hq]
      exact (run.flags q).imp_right fun hm => List.mem_append_right _ (other hq (.inr rfl) hm)

/-! ### The other events -/

/-- A flag that is right is left (R79). -/
theorem Running.unflagged {p : SpanPort} (run : Running s b σ (.flag p :: hs))
    (right : (σ.carriage.get p).announcing = pathAnnounced σ p.ring (σ.carriage.get p).units) : Running s b σ hs where
  same := run.same
  ready := run.ready
  logs := run.logs
  makes q c j hm := run.makes q c j (List.mem_cons_of_mem _ hm)
  calm := run.calm.imp_left fun calm k hm => calm k (List.mem_cons_of_mem _ hm)
  fed hm := run.fed (List.mem_cons_of_mem _ hm)
  paths q := (run.paths q).imp_left fun ⟨alike, c, j, hm⟩ => ⟨alike, c, j, (List.mem_cons.1 hm).resolve_left nofun⟩
  flags q := by
    by_cases hq : q = p
    · exact .inl (hq ▸ right)
    · exact (run.flags q).imp_right fun hm => (List.mem_cons.1 hm).resolve_left fun he => hq (HandOver.flag.inj he)

/-- An activation at the break-in unit has each path's flag judged whose units' announcements it changes (R138). -/
theorem Running.activated (run : Running s b σ (.activation :: hs)) :
    Running s b (activationEvent σ).1 ((activationEvent σ).2 ++ hs) := by
  obtain ⟨removals, q, n, event⟩ : ∃ removals q n, activationEvent σ =
      settlement removals q { σ with breakin := { σ.breakin with accepted := n } } := ⟨_, _, _, rfl⟩
  have same := activationEvent_sameBut σ
  have follows := handle_follows .activation σ
  have carriage : (activationEvent σ).1.carriage = σ.carriage := same .carriage (by simp)
  have work : (activationEvent σ).1.work = σ.work := same .work (by simp)
  have fed := run.fed (List.mem_cons_self ..)
  have logs : Logs σ (activationEvent σ).1 := .of_sameBut same (by simp) (by simp) (by simp)
  refine ⟨run.same.trans (same.mono (by simp [handedParts])),
    ⟨(activationEvent_length run.ready).1, fun p x hx => run.ready.templates p x (by rwa [work] at hx)⟩, run.logs.trans logs,
    fun p c j hm => ?_, .inr (run.calm.resolve_left fun calm => (calm _ (List.mem_cons_self ..)).1 rfl), fun _ => ?_,
    fun p => ?_, fun p => ?_⟩
  · rcases List.mem_append.1 hm with hm | hm
    · exact (follows _ hm).elim
    · exact run.makes p c j (List.mem_cons_of_mem _ hm)
  · rw [carriage]
    exact fed
  · refine (run.paths p).imp (fun ⟨alike, c, j, hm⟩ => ⟨by rw [carriage]; exact alike, c, j, ?_⟩)
      (·.later (by rw [carriage]) logs)
    exact List.mem_append_right _ ((List.mem_cons.1 hm).resolve_left nofun)
  · rw [carriage]
    rcases run.flags p with right | hm
    · rw [right, event]
      refine (settlement_flags removals q n fun u hu => ?_).imp Eq.symm (List.mem_append_left _)
      rw [run.inputs.rings]
      exact fed p u hu
    · exact .inr (List.mem_append_right _ ((List.mem_cons.1 hm).resolve_left nofun))

/-- An event that concerns no planner. -/
theorem Running.passed (k : h.apart) (run : Running s b σ (h :: hs)) :
    Running s b (handle h σ).1 ((handle h σ).2 ++ hs) := by
  obtain ⟨carriage, breakin⟩ := k.same σ
  have follows := k.follows σ
  have parts : ∀ x ∈ h.parts, x ∈ handedParts := by cases h <;> simp [HandOver.parts, handedParts]
  have same := (handle_sameBut h σ).mono parts
  have work : (handle h σ).1.work = σ.work := same .work (by simp [handedParts])
  have rest {g : HandOver} (hg : ¬g.apart) (hm : g ∈ (handle h σ).2 ++ hs) : g ∈ h :: hs :=
    List.mem_cons_of_mem _ ((List.mem_append.1 hm).resolve_left fun hm => hg (follows g hm))
  have kept {g : HandOver} (hg : ¬g.apart) (hm : g ∈ h :: hs) : g ∈ (handle h σ).2 ++ hs :=
    List.mem_append_right _ ((List.mem_cons.1 hm).resolve_left fun he => hg (he ▸ k))
  refine ⟨run.same.trans (same.mono fun x hx => List.mem_cons_of_mem _ (List.mem_cons_of_mem _ hx)),
    run.ready.congr breakin (by rw [work]), run.logs.trans (handle_logs h σ),
    fun p c j hm => run.makes p c j (rest (fun k => k.ne_planner _ _ _ rfl) hm), run.calm.imp_left fun calm g hm => ?_,
    fun hm => ?_, fun p => ?_, fun p => ?_⟩
  · rcases List.mem_append.1 hm with hm | hm
    · exact ⟨(follows g hm).ne_activation, (follows g hm).ne_flag⟩
    · exact calm g (List.mem_cons_of_mem _ hm)
  · rw [carriage]
    exact run.fed (rest (fun k => k.ne_activation rfl) hm)
  · refine (run.paths p).imp (fun ⟨alike, c, j, hm⟩ => ⟨by rw [carriage]; exact alike, c, j, ?_⟩)
      (·.later (by rw [carriage]) (handle_logs h σ))
    exact kept (fun k => k.ne_planner _ _ _ rfl) hm
  · rw [carriage]
    refine (run.flags p).imp (fun right => right.trans ?_) (kept fun k => k.ne_flag _ rfl)
    exact (pathAnnounced_congr fun _ _ => announced_congr breakin work _).symm

theorem Running.step (run : Running s b σ (h :: hs)) : Running s b (handle h σ).1 ((handle h σ).2 ++ hs) := by
  cases h with
  | planner p cause joined => exact run.planned (.inl rfl)
  | flag p =>
    simp only [handle, flagEvent]
    split
    next right => exact run.unflagged right
    next => exact run.planned (.inr ⟨rfl, rfl⟩)
  | activation => exact run.activated
  | alloc | coverage | candidates | block | baseKey | settings | posts =>
    exact run.passed (by simp [HandOver.apart, HandOver.reach])

/-- Once all is taken, each path's record stands, with its flag, and its reports are told. -/
theorem Running.settled {u : State} (run : Running s b u hs) (weight : (hs.map HandOver.fullWeight).sum ≤ settleFuel) :
    Running s b (Machine.settled (u, hs)) [] :=
  settle_invariant (I := Running s b) HandOver.fullWeight (fun _ _ _ hp run => run.perm hp) (fun _ cs _ run => run.choices cs)
    (fun _ _ _ run => run.step) (fun _ k _ run => handle_fullWeight k run.ready) settleFuel hs u run weight

end

end Sys2Proof.Machine
end

section
/-! SUPPORT. What each deed hands on to the planners: whatever brings a path other units, another capacity, list or Catalogue, or
its units another class, brings its planner the event (R53, R79, R83, R138, R154). -/

namespace Sys2Proof.Machine

open Sys2Proof

/-- A command's result leaves the carriage records as they were, and hands on that each path whose record no longer stands, and
each whose flag is no longer right, is judged afresh, among few events. -/
structure Launched (s b : State) (hs : List HandOver) : Prop where
  carriage : b.carriage = s.carriage
  lists : b.work.plans = s.work.plans
  logs : Logs s b
  makes : ∀ p c j, .planner p c j ∈ hs → PathStands b p (plan b p c (b.carriage.get p))
  calm : (∀ h ∈ hs, h ≠ .activation ∧ ∀ q, h ≠ .flag q) ∨ ∀ p, Formed b (b.carriage.get p)
  fed : .activation ∈ hs → ∀ p, ∀ u ∈ (b.carriage.get p).units, u ∈ (b.rings.get p.ring).members p.side
  paths : ∀ p, (∃ c j, .planner p c j ∈ hs) ∨ PathStands b p (b.carriage.get p)
  flags : ∀ p, (b.carriage.get p).announcing = pathAnnounced b p.ring (b.carriage.get p).units ∨ .flag p ∈ hs
  weight : (hs.map HandOver.fullWeight).sum ≤ settleFuel

section
variable {s b u v : State} {hs : List HandOver}

theorem Launched.after (h : Prelude s v) (k : Launched v b hs) : Launched s b hs :=
  { k with carriage := k.carriage.trans h.carriage, lists := k.lists.trans h.lists, logs := h.logs.trans k.logs }

/-- The hand-overs of a result are taken with the reply of a request beside it. -/
theorem Launched.running (k : Launched s b hs) (ready : Ready b) (reply : SameBut [.ports, .inFlight] b u) :
    Running s b u hs := by
  have carriage : u.carriage = b.carriage := reply .carriage (by simp)
  have breakin : u.breakin = b.breakin := reply .breakin (by simp)
  have work : u.work = b.work := reply .work (by simp)
  refine ⟨reply.mono (by simp), ready.congr breakin (by rw [work]),
    k.logs.trans (.of_sameBut reply (by simp) (by simp) (by simp)), k.makes, k.calm, by rw [carriage]; exact k.fed,
    fun p => ?_, fun p => ?_⟩
  · refine (k.paths p).imp (fun planned => ⟨by rw [carriage]; exact .refl _, planned⟩) fun stands => ⟨?_, ?_⟩ <;>
    rw [carriage]
    · exact stands
    · exact .inl rfl
  · rw [carriage, pathAnnounced_congr fun _ _ => announced_congr breakin work _]
    exact k.flags p

end

/-! ### Paths that are not concerned -/

section
variable {s t : State} {path : SpanPort} {r : CarriageRec}

/-- A record stands where the list, the Catalogue and its own path are the same. -/
theorem PathStands.of_path (h : PathStands s path r) (list : t.carriageList = s.carriageList)
    (catalogue : t.work.catalogue = s.work.catalogue)
    (members : (t.rings.get path.ring).members path.side = (s.rings.get path.ring).members path.side)
    (capacity : ((t.rings.get path.ring).pathCapacity path.side).map (·.1) =
      ((s.rings.get path.ring).pathCapacity path.side).map (·.1)) : PathStands t path r :=
  ⟨by rw [list]; exact h.list, h.capacity.trans capacity.symm, h.units.trans members.symm, h.formed.congr (.refl r) catalogue⟩

theorem CarriageSound.stands (sound : CarriageSound s) (hollow : Hollow s) (path : SpanPort) :
    PathStands s path (s.carriage.get path) := ((carriageSound_iff hollow).1 sound path).1

theorem CarriageSound.flag (sound : CarriageSound s) (hollow : Hollow s) (path : SpanPort) :
    (s.carriage.get path).announcing = pathAnnounced s path.ring (s.carriage.get path).units :=
  ((carriageSound_iff hollow).1 sound path).2

/-- Sound carriage records are, wherever a planner reads the same. -/
theorem CarriageSound.congr (sound : CarriageSound s) (hollow : Hollow s) (inputs : PlannerInputs s t)
    (carriage : t.carriage = s.carriage) (carrying : t.breakin.carrying = s.breakin.carrying)
    (zones : t.work.zones = s.work.zones) : CarriageSound t := by
  have hollow' : Hollow t := by
    unfold Hollow
    rw [inputs.rings]
    exact hollow
  refine (carriageSound_iff hollow').2 fun path => ?_
  rw [carriage, pathAnnounced_congr fun _ _ => announced_of_zones carrying zones _]
  exact ⟨(sound.stands hollow path).congr (.refl _) inputs, sound.flag hollow path⟩

end

/-! ### Rings (R53, R83) -/

section
variable {s v : State} {r : Ring} {old new : RingRec} {side : Side}

/-- The planner of a path is told FEED where its members change, and CAPACITY where its capacity alone does. -/
theorem mem_pathHands {p : SpanPort} {c : CarriageCause} {j : List UnitNo} (h : .planner p c j ∈ pathHands r old new side) :
    p = ⟨r, side⟩ ∧ (c = .feed ∨ (c = .capacity ∧ old.members side = new.members side)) := by
  unfold pathHands at h
  split at h
  next =>
    obtain ⟨rfl, rfl, -⟩ := HandOver.planner.inj (List.mem_singleton.1 h)
    exact ⟨rfl, .inl rfl⟩
  next same =>
    split at h
    next =>
      obtain ⟨rfl, rfl, -⟩ := HandOver.planner.inj (List.mem_singleton.1 h)
      exact ⟨rfl, .inr ⟨rfl, not_not.1 same⟩⟩
    next => cases h

theorem pathHands_told : (∃ c j, .planner ⟨r, side⟩ c j ∈ pathHands r old new side) ∨ (old.members side = new.members side ∧
    (old.pathCapacity side).map (·.1) = (new.pathCapacity side).map (·.1)) := by
  unfold pathHands
  split
  next => exact .inl ⟨_, _, List.mem_singleton_self _⟩
  next members =>
    split
    next => exact .inl ⟨_, _, List.mem_singleton_self _⟩
    next capacity => exact .inr ⟨not_not.1 members, not_not.1 capacity⟩

theorem mem_ringHands_planner {p : SpanPort} {c : CarriageCause} {j : List UnitNo} :
    .planner p c j ∈ ringHands s r old new ↔ .planner p c j ∈ pathHands r old new .a ∨ .planner p c j ∈ pathHands r old new .b := by
  have units : .planner p c j ∉ unitHands r old new := fun h => by
    obtain ⟨_, -, h⟩ := List.mem_map.1 h
    cases h
  have voters : .planner p c j ∉ (if fedChanged old new then votersOfRing s r else []) := fun h => by
    split at h
    · obtain ⟨_, -, h⟩ := List.mem_map.1 h
      cases h
    · cases h
  simp only [ringHands, List.mem_append, units, voters, or_false]

theorem pathHands_sub {h : HandOver} (hm : h ∈ pathHands r old new side) : h ∈ ringHands s r old new := by
  cases side <;> simp [ringHands, hm]

/-- A ring's record put in place has each planner of the ring told that is concerned. -/
theorem applyRing_launched {cause : FeedCause} {tail : List HandOver} (h : Apart s v) (lists : v.work.plans = s.work.plans)
    (logs : Logs s v) (apart : ∀ h ∈ tail, h.apart) (few : (tail.map HandOver.weight).sum ≤ 1) (sound : CarriageSound s)
    (hollow : Hollow s) (hollow' : Hollow (applyRing r cause new v).1) :
    Launched s (applyRing r cause new v).1 ((applyRing r cause new v).2 ++ tail) := by
  have same := applyRing_sameBut r cause new v
  have work : (applyRing r cause new v).1.work = v.work := same .work (by simp)
  have plans : (applyRing r cause new v).1.plans = v.plans := same .plans (by simp)
  have breakin : (applyRing r cause new v).1.breakin = s.breakin := (same .breakin (by simp)).trans h.breakin
  have zones : (applyRing r cause new v).1.work.zones = s.work.zones := by rw [work, h.zones]
  have catalogue : (applyRing r cause new v).1.work.catalogue = s.work.catalogue := by rw [work, h.catalogue]
  have carriage : (applyRing r cause new v).1.carriage = s.carriage := (same .carriage (by simp)).trans h.carriage
  have list := carriageList_congr ((activePlan_congr work plans).trans h.active)
  have ring (r' : Ring) := applyRing_ring r cause new v r'
  have posts : Logs v (applyRing r cause new v).1 := ⟨_, applyRing_queues r cause new v⟩
  have hands := applyRing_hands r cause new v
  rw [h.rings] at hands
  have planner {p : SpanPort} {c : CarriageCause} {j : List UnitNo}
      (hm : .planner p c j ∈ (applyRing r cause new v).2 ++ tail) : p.ring = r ∧
        (c = .feed ∨ (c = .capacity ∧ (s.rings.get r).members p.side = new.members p.side)) := by
    rw [hands] at hm
    have hm := (List.mem_append.1 hm).resolve_right fun hm => (apart _ hm).ne_planner _ _ _ rfl
    rcases mem_ringHands_planner.1 hm with hm | hm <;>
    · obtain ⟨rfl, concerned⟩ := mem_pathHands hm
      exact ⟨rfl, concerned⟩
  refine ⟨carriage, by rw [work, lists], logs.trans posts, fun p c j hm => ?_, .inl fun k hm => ?_, fun hm => ?_, fun p => ?_,
    fun p => .inl ?_, ?_⟩
  · obtain ⟨rfl, concerned⟩ := planner hm
    have stands := sound.stands hollow p
    rw [carriage]
    refine plan_stands hollow' (.inr ?_) (.inl (concerned.imp_right And.left)) (concerned.imp_right fun ⟨_, members⟩ => ?_)
    · rw [list]
      exact stands.list
    · rw [ring, if_pos rfl, ← members]
      exact stands.units
  · rcases List.mem_append.1 hm with hm | hm
    · have of_ring := ringHands_ofRing _ _ _ _ _ (hands ▸ hm)
      exact ⟨by rintro rfl; exact of_ring, by rintro q rfl; exact of_ring⟩
    · exact ⟨(apart k hm).ne_activation, (apart k hm).ne_flag⟩
  · refine absurd hm fun hm => ?_
    rcases List.mem_append.1 hm with hm | hm
    · exact ringHands_ofRing _ _ _ _ _ (hands ▸ hm)
    · exact (apart _ hm).ne_activation rfl
  · rw [carriage]
    have stands := sound.stands hollow p
    by_cases hr : p.ring = r
    · subst hr
      refine (pathHands_told (r := p.ring) (old := s.rings.get p.ring) (new := new) (side := p.side)).imp ?_ ?_
      · rintro ⟨c, j, hm⟩
        exact ⟨c, j, List.mem_append_left _ (hands ▸ pathHands_sub hm)⟩
      · rintro ⟨members, capacity⟩
        refine stands.of_path list catalogue ?_ ?_ <;> rw [ring, if_pos rfl]
        · exact members.symm
        · exact capacity.symm
    · refine .inr (stands.of_path list catalogue ?_ ?_) <;> rw [ring, if_neg hr, h.rings]
  · rw [carriage, pathAnnounced_congr fun _ _ => announced_of_zones (by rw [breakin]) zones _]
    exact sound.flag hollow p
  · have tame : ∀ k ∈ (applyRing r cause new v).2 ++ tail, k ≠ .activation := by
      rintro k hm rfl
      rcases List.mem_append.1 hm with hm | hm
      · exact ringHands_ofRing _ _ _ _ _ (hands ▸ hm)
      · exact (apart _ hm).ne_activation rfl
    rw [fullWeight_sum tame, hands, List.map_append, List.sum_append]
    have := ringHands_weight v r (s.rings.get r) new
    have : 67 ≤ settleFuel := by decide
    omega

end

/-! ### The Catalogue, plans and classes (R7, R14, R134, R138, R154) -/

section
variable {s : State}

theorem catalogued_launched (c : CarrierNo) (new : Option Carrier) (sound : CarriageSound s) (hollow : Hollow s) :
    Launched s (changeCarrier c new s).1 (changeCarrier c new s).2 := by
  have of_catalogue : ∀ h ∈ (changeCarrier c new s).2, h.ofCatalogue := catalogueHands_ofCatalogue s.work.catalogue[c] new
  have tame : ∀ h ∈ (changeCarrier c new s).2, h ≠ .activation ∧ ∀ q, h ≠ .flag q := fun h hm =>
    ⟨by rintro rfl; exact of_catalogue _ hm, by rintro q rfl; exact of_catalogue _ hm⟩
  refine ⟨rfl, rfl, .of_agree ⟨rfl, rfl, fun _ => ⟨rfl, rfl⟩⟩, fun p c' j hm => ?_, .inl tame,
    fun hm => absurd rfl (tame _ hm).1, fun p => .inl ⟨.catalogue, [], ?_⟩, fun p => .inl (sound.flag hollow p), ?_⟩
  · obtain ⟨rfl, -⟩ := of_catalogue _ hm
    have stands := sound.stands hollow p
    exact plan_stands hollow (.inr stands.list) (.inr stands.capacity) (.inr stands.units)
  · exact List.mem_append_left _ (List.mem_append_left _ (List.mem_map_of_mem (mem_allSpans p)))
  · rw [fullWeight_sum fun h hm => (tame h hm).1]
    exact catalogueHands_weight ..

theorem mem_activationHands_planner {p : SpanPort} {c : CarriageCause} {j : List UnitNo} (h : .planner p c j ∈ activationHands) :
    c = .plan := by
  simp only [activationHands, allocEverywhere, List.mem_append, List.mem_map, List.mem_singleton, reduceCtorEq, and_false,
    exists_false, or_false, HandOver.planner.injEq] at h
  obtain ⟨_, -, -, rfl, -⟩ := h
  rfl

theorem activated_launched {tail : List HandOver} (p : PlanNo) (stack : List PlanNo) (cause : ActivationCause)
    (source : ActivationSource) (trigger : Option TriggerNo) (apart : ∀ h ∈ tail, h.apart)
    (few : (tail.map HandOver.weight).sum ≤ 1) (sound : CarriageSound s) (hollow : Hollow s) :
    Launched s (activate p stack cause source trigger s).1 ((activate p stack cause source trigger s).2 ++ tail) := by
  refine ⟨rfl, rfl, ?_, fun q c j hm => ?_, .inr fun q => ?_, fun _ q u hu => ?_, fun q => .inl ⟨.plan, [], ?_⟩,
    fun q => .inl (sound.flag hollow q), ?_⟩
  · exact (Logs.of_agree (s := s) (t := { s with plans := ⟨p, ⟨cause, some source, trigger, sinceReset s⟩, stack⟩ })
      ⟨rfl, rfl, fun _ => ⟨rfl, rfl⟩⟩).trans (Logs.post _ _)
  · have hm := (List.mem_append.1 hm).resolve_right fun hm => (apart _ hm).ne_planner _ _ _ rfl
    obtain rfl := mem_activationHands_planner hm
    have stands := sound.stands hollow q
    exact plan_stands hollow (.inl rfl) (.inr stands.capacity) (.inr stands.units)
  · exact (sound.stands hollow q).formed.congr (.refl _) rfl
  · exact (sound.stands hollow q).units ▸ hu
  · refine List.mem_append_left _ ?_
    simp only [activate, activationHands, List.mem_append]
    exact .inl (.inl (.inl (List.mem_map_of_mem (mem_allSpans q))))
  · have tame : ∀ h ∈ tail, h ≠ .activation := fun h hm => (apart h hm).ne_activation
    have weight := activationHands_fullWeight
    rw [List.map_append, List.sum_append, fullWeight_sum tame]
    have : 178 ≤ settleFuel := by decide
    simp only [activate]
    omega

/-- A change at the break-in unit alone, or at the zones, has each flag judged that it can change (R138). -/
theorem classed_launched {b : State} {hs : List HandOver} (carriage : b.carriage = s.carriage)
    (lists : b.work.plans = s.work.plans) (logs : Logs s b) (inputs : PlannerInputs s b) (follows : ∀ h ∈ hs, h.follows)
    (weight : (hs.map HandOver.weight).sum ≤ settleFuel) (sound : CarriageSound s) (hollow : Hollow s)
    (flags : ∀ (path : SpanPort) (units : List UnitNo), (∀ u ∈ units, u ∈ (s.rings.get path.ring).members path.side) →
      pathAnnounced b path.ring units = pathAnnounced s path.ring units ∨ .flag path ∈ hs) : Launched s b hs := by
  have stands (p : SpanPort) : PathStands b p (b.carriage.get p) := by
    rw [carriage]
    exact (sound.stands hollow p).congr (.refl _) inputs
  refine ⟨carriage, lists, logs, fun _ _ _ hm => (follows _ hm).elim, .inr fun p => (stands p).formed,
    fun hm => (follows _ hm).elim, fun p => .inr (stands p), fun p => ?_, ?_⟩
  · rw [carriage, sound.flag hollow p]
    exact (flags p _ fun u hu => (sound.stands hollow p).units ▸ hu).imp_left Eq.symm
  · rwa [fullWeight_sum fun h hm => by rintro rfl; exact follows _ hm]

theorem settled_launched (removals : List Note) (q : List BreakIn) (n : Nat) (few : removals.length ≤ 12) (short : q.length ≤ 8)
    (sound : CarriageSound s) (hollow : Hollow s) :
    let y := settlement removals q { s with breakin := { s.breakin with accepted := n } }
    Launched s y.1 y.2 := by
  intro y
  refine classed_launched rfl rfl (.of_agree ⟨rfl, rfl, fun _ => ⟨rfl, rfl⟩⟩) ⟨rfl, rfl, rfl⟩ (fun h hm => ?_)
    ((settlement_weight few short).trans (by decide)) sound hollow fun path units fed => settlement_flags removals q n fed
  rcases List.mem_cons.1 hm with rfl | hm
  · trivial
  · exact classHands_follows _ _ h hm

theorem rezoned_launched (z : ZoneNo) (members : List Position) (sound : CarriageSound s) (hollow : Hollow s) :
    Launched s (changeZone z members s).1 (changeZone z members s).2 := by
  have same := changeZone_sameBut z members s
  have work : (changeZone z members s).1.work = (withZone s z members).work := same .work (by simp)
  have plans : (changeZone z members s).1.plans = s.plans := same .plans (by simp)
  have rings : (changeZone z members s).1.rings = s.rings := same .rings (by simp)
  have list : (changeZone z members s).1.carriageList = s.carriageList := carriageList_congr (by
    simp only [State.activePlan, work, plans]
    rfl)
  have logs : Logs s (changeZone z members s).1 := (Logs.of_agree (s := s) (t := withZone s z members)
    ⟨rfl, rfl, fun _ => ⟨rfl, rfl⟩⟩).trans (.of_sameBut same (by simp) (by simp) (by simp))
  refine classed_launched (same .carriage (by simp)) (by rw [work]; rfl) logs
    ⟨list, rings, by rw [work]; rfl⟩ (fun h hm => ?_) (changeZone_weight z members s) sound hollow fun path units fed => ?_
  · unfold changeZone at hm
    dsimp only at hm
    split at hm
    · exact classHands_follows _ _ h hm
    · cases hm
  · have change {p : Position} := changeZone_cls z members s (p := p)
    obtain ⟨ps, hands⟩ : ∃ ps, (changeZone z members s).2 = classHands (changeZone z members s).1 ps := by
      unfold changeZone
      dsimp only
      split
      · exact ⟨_, rfl⟩
      · exact ⟨[], by simp [classHands]⟩
    rw [hands] at change ⊢
    refine flag_of_change (rings ▸ fed) fun p differ => ?_
    rcases List.mem_append.1 (change differ) with hm | hm
    · obtain ⟨q, hq, he⟩ := List.mem_map.1 hm
      exact (HandOver.alloc.inj he).1 ▸ hq
    · obtain ⟨_, -, he⟩ := List.mem_map.1 hm
      cases he

end

/-! ### Every deed -/

/-- A deed leaves all that the planners read, and hands nothing on to them, or has them told of what it changes. -/
theorem Deed.launched {returns : Ring → State → Prop} {s : State} {y : Handed} (h : Deed returns s y) (sound : CarriageSound s)
    (hollow : Hollow s) (hollow' : Hollow y.1) (queue : QueueSound s) :
    (Apart s y.1 ∧ ∀ h ∈ y.2, h.apart) ∨ Launched s y.1 y.2 := by
  induction h with
  | aside h apart => exact .inl ⟨h.toApart, apart⟩
  | formed r cause judged h lists logs _ _ apart few =>
    exact .inr (applyRing_launched h lists logs apart few sound hollow hollow')
  | @returned s r cause running _ =>
    rw [restoreEvent_running cause running] at hollow' ⊢
    have placed := applyRing_launched (.refl s) rfl (.refl s) apart_nil (by simp) sound hollow hollow'
    rw [List.append_nil] at placed
    exact .inr placed
  | catalogued c new => exact .inr (catalogued_launched c new sound hollow)
  | activated p stack cause source trigger apart few =>
    exact .inr (activated_launched p stack cause source trigger apart few sound hollow)
  | settled removals q n few ready => exact .inr (settled_launched removals q n few (ready queue).size sound hollow)
  | rezoned z members _ => exact .inr (rezoned_launched z members sound hollow)
  | @paged s b carrying _ =>
    exact .inr (classed_launched rfl rfl (.of_agree ⟨rfl, rfl, fun _ => ⟨rfl, rfl⟩⟩) ⟨rfl, rfl, rfl⟩ (by simp) (by simp) sound
      hollow fun path units _ => .inl (pathAnnounced_congr fun _ _ =>
        announced_of_zones (s := s) (t := { s with breakin := b }) carrying rfl _))
  | @after s v y h _ ih =>
    have inputs : PlannerInputs s v := ⟨carriageList_congr h.active, h.rings, h.catalogue⟩
    have moved : Hollow v := by
      unfold Hollow
      rw [h.rings]
      exact hollow
    refine (ih (sound.congr hollow inputs h.carriage (by rw [h.breakin]) h.zones) moved hollow'
      (queue.congr h.breakin h.zones)).imp (fun ⟨apart, hands⟩ => ⟨h.toApart.trans apart, hands⟩) (.after h)

end Sys2Proof.Machine
end

section
/-! SUPPORT. What every step makes of the carriage records, and what it tells of the carriers that it sheds and takes back (R53,
R77 to R84, R87). -/

namespace Sys2Proof.Machine

open Sys2Proof

/-! ### Paths without units (R54) -/

/-- A path of a ring that stands has a capacity where it has units. -/
theorem RingStands.hollow {s : State} {r : Ring} {x : RingRec} (h : RingStands s r x) (side : Side)
    (none : x.pathCapacity side = none) : x.members side = [] := by
  have someHop (low : Bool) {first last : Nat} (hop : first ≤ last) : x.weakest low first last ≠ Option.none := by
    obtain ⟨_, -, -, found, -⟩ := weakest_of_hop x low ⟨first, le_rfl, hop⟩
    rw [found]
    nofun
  cases side with
  | a =>
    cases hl : (x.members .a).getLast? with
    | none => exact List.getLast?_eq_none_iff.1 hl
    | some u =>
      rw [RingRec.pathCapacity, hl, Option.bind_some] at none
      exact absurd none (someHop true (by omega))
  | b =>
    cases hl : (x.members .b).head? with
    | none => exact List.head?_eq_none_iff.1 hl
    | some u =>
      rw [RingRec.pathCapacity, hl, Option.bind_some] at none
      refine absurd none (someHop false ?_)
      have fed : x.units[u] = .fedB := by
        have := (List.mem_filter.1 (List.mem_of_head? hl)).2
        cases hu : x.units[u] <;> simp_all [UnitState.side]
      have inside := h.reachB_length (h.fedB u fed)
      rw [h.hops, formHops_length]
      omega

theorem RingsSound.hollow {s : State} (h : RingsSound s) : Hollow s := fun path =>
  (ringsSound_iff.1 h path.ring).hollow path.side

/-! ### Commands -/

/-- A path's shed list is the one it was, or what has changed of it is told, with the slots that the carriers have (R87). -/
def ShedTold (s t : State) (path : SpanPort) : Prop :=
  (t.carriage.get path).shed = (s.carriage.get path).shed ∨
    ∃ code, Told (shedReports path code (s.carriage.get path) (t.carriage.get path)) s t

section
variable {s t : State}

/-- Hand-overs apart leave carriage records and break-in unit alone. -/
theorem settled_apart {x : Handed} (apart : ∀ h ∈ x.2, h.apart) :
    SameBut [.reference, .alloc, .voters, .events, .choices] x.1 (settled x) := by
  refine settled_sameBut _ x (by simp) fun h hm p hp => ?_
  have := apart h hm
  cases h with
  | planner | flag => exact absurd (by simp [HandOver.reach]) this.1
  | activation => exact absurd (by simp [HandOver.reach]) this.2
  | alloc | coverage | candidates | block | baseKey | settings | posts =>
    simp only [HandOver.reach, List.mem_cons, List.not_mem_nil, or_false] at hp ⊢
    tauto

/-- A command taken by its deed leaves the carriage records sound, and tells of what it sheds and takes back. -/
theorem Taken.carriage {returns : Ring → State → Prop} (h : Taken returns s t) (plans : PlansSound s) (queue : QueueSound s)
    (rings : RingsSound s) (sound : CarriageSound s) : CarriageSound t ∧ ∀ path, ShedTold s t path := by
  obtain ⟨y, u, deed, reply, rfl⟩ := h
  have hollow' : Hollow y.1 := (ringsSound_iff.2 fun r => (deed.rings (ringsSound_iff.1 rings) r).1 : RingsSound y.1).hollow
  rcases deed.launched sound rings.hollow hollow' queue with ⟨moved, apart⟩ | launched
  · have settles : SameBut [.ports, .inFlight, .reference, .alloc, .voters, .events, .choices] y.1 (settled (u, y.2)) :=
      (reply.mono (by simp)).trans ((settled_apart (x := (u, y.2)) apart).mono (by simp))
    have work : (settled (u, y.2)).work = y.1.work := settles .work (by simp)
    have breakin : (settled (u, y.2)).breakin = s.breakin := (settles .breakin (by simp)).trans moved.breakin
    have carriage : (settled (u, y.2)).carriage = s.carriage := (settles .carriage (by simp)).trans moved.carriage
    refine ⟨sound.congr rings.hollow ⟨carriageList_congr ?_, (settles .rings (by simp)).trans moved.rings, ?_⟩ carriage
      (by rw [breakin]) (by rw [work, moved.zones]), fun path => .inl (by rw [carriage])⟩
    · exact (activePlan_congr work (settles .plans (by simp))).trans moved.active
    · rw [work, moved.catalogue]
  · have ready : Ready y.1 := ⟨(deed.queueSound queue).size, fun p x hx =>
      plans.templates p x (.inl (by rwa [launched.lists] at hx))⟩
    have run := (launched.running ready reply).settled launched.weight
    have inputs := run.inputs
    have hollow : Hollow (settled (u, y.2)) := by
      unfold Hollow
      rw [inputs.rings]
      exact hollow'
    have accounted (path : SpanPort) : Accounted s y.1 path (settled (u, y.2)) :=
      (run.paths path).resolve_left fun ⟨_, _, _, hm⟩ => nomatch hm
    refine ⟨(carriageSound_iff hollow).2 fun path => ⟨(accounted path).stands.congr (.refl _) inputs,
      (run.flags path).resolve_right fun hm => nomatch hm⟩, fun path => ?_⟩
    rw [ShedTold, ← launched.carriage]
    exact (accounted path).told.imp_right And.right

/-- After a reset each path is empty, and its record keeps its list alone (R89). -/
theorem AfterReset.carriageSound {kind : ResetKind} {straps : Nat} (h : AfterReset kind straps s t) : CarriageSound t := by
  have members (path : SpanPort) : (t.rings.get path.ring).members path.side = [] := by
    refine List.filter_eq_nil_iff.2 fun u _ => ?_
    have unfed : (t.rings.get path.ring).units[u] = _ := (h.units ⟨path.ring, u⟩).1
    rw [unfed]
    split <;> simp [UnitState.side]
  have capacity (path : SpanPort) : (t.rings.get path.ring).pathCapacity path.side = none := by
    have empty := members path
    obtain ⟨r, side⟩ := path
    cases side <;> simp only [RingRec.pathCapacity] <;> rw [show (t.rings.get r).members _ = [] from empty] <;> rfl
  refine (carriageSound_iff fun path _ => members path).2 fun path => ?_
  rw [h.carriage path]
  exact ⟨⟨rfl, by rw [capacity]; rfl, (members path).symm, nofun, fun _ => ⟨rfl, rfl, rfl, rfl⟩⟩, rfl⟩

/-- Every command leaves the carriage records sound; one that is no reset's end tells of what it sheds and takes back, and a
reset's end leaves nothing shed. -/
theorem exec_carriage {c : Instr} (ht : exec c s = .next t) (plans : PlansSound s) (queue : QueueSound s) (rings : RingsSound s)
    (sound : CarriageSound s) : CarriageSound t ∧
      ∀ path, ShedTold s t path ∨ (Resets c ∧ (t.carriage.get path).shed = []) := by
  rcases exec_taken_or_reset ht with taken | ⟨resets, kind, straps, u, x, rfl⟩
  · obtain ⟨carriage, told⟩ := taken.carriage plans queue rings sound
    exact ⟨carriage, fun path => .inl (told path)⟩
  · have after := afterReset kind straps u x
    exact ⟨after.carriageSound, fun path => .inr ⟨resets, by rw [after.carriage]; rfl⟩⟩

theorem step_carriageSound (h : step s = .next t) (plans : PlansSound s) (queue : QueueSound s) (rings : RingsSound s)
    (sound : CarriageSound s) : CarriageSound t := by
  unfold step at h
  split at h
  next =>
    cases h
    exact sound.congr rings.hollow ⟨rfl, rfl, rfl⟩ rfl rfl rfl
  next c rest _ =>
    exact (exec_carriage h (PlansSound.congr (s := s) rfl rfl rfl plans) (queue.congr (s := s) rfl rfl)
      (rings.congr (s := s) rfl rfl rfl rfl) (sound.congr rings.hollow ⟨rfl, rfl, rfl⟩ rfl rfl rfl)).1

/-! ### The reports (R87) -/

variable {path : SpanPort} {w : Wanted}

theorem all_lacks {ws : List Wanted} : ws.all (decide <| ·.carrier ≠ w.carrier) = true ↔ ∀ v ∈ ws, v.carrier ≠ w.carrier := by
  simp

/-- A carrier that has joined the shed list is reported, with its place and the capacity. -/
theorem ShedTold.shed (h : ShedTold s t path) (hw : w ∈ (t.carriage.get path).shed)
    (joined : ∀ v ∈ (s.carriage.get path).shed, v.carrier ≠ w.carrier) :
    ∃ cause, Reports ⟨.carrierShed, .warning, .carrier w.carrier, [.ring path.ring, .named path.side.ctorIdx, .named cause] ++
      [.count ((t.carriage.get path).wanted.findIdx (·.carrier = w.carrier) + 1),
        .count ((t.carriage.get path).capacity.getD 0)]⟩ s t := by
  rcases h with same | ⟨code, told⟩
  · exact absurd rfl (joined w (same ▸ hw))
  · refine ⟨code, told.tells.sublist (List.singleton_sublist.2 (List.mem_append_left _ ?_))⟩
    exact List.mem_map_of_mem (List.mem_filter.2 ⟨hw, all_lacks.2 joined⟩)

/-- A carrier that has left the shed list is reported, with its slot where it is carried. -/
theorem ShedTold.restored (h : ShedTold s t path) (hw : w ∈ (s.carriage.get path).shed)
    (left : ∀ v ∈ (t.carriage.get path).shed, v.carrier ≠ w.carrier) :
    (∀ e, (t.carriage.get path).carried.find? (·.1.carrier = w.carrier) = some e →
      ∃ cause, Reports ⟨.carrierRestored, .notice, .carrier w.carrier,
        [.ring path.ring, .named path.side.ctorIdx, .named cause] ++ [.named 0, .ident e.2]⟩ s t) ∧
    ((t.carriage.get path).carried.find? (·.1.carrier = w.carrier) = none →
      ∃ cause, Reports ⟨.carrierRestored, .notice, .carrier w.carrier,
        [.ring path.ring, .named path.side.ctorIdx, .named cause] ++ [.named 1]⟩ s t) := by
  rcases h with same | ⟨code, told⟩
  · exact absurd rfl (left w (same ▸ hw))
  · have reported {note : Note} (h : note ∈ shedReports path code (s.carriage.get path) (t.carriage.get path)) :
        Reports note s t := told.tells.sublist (List.singleton_sublist.2 h)
    have gone : w ∈ (s.carriage.get path).shed.filter fun w => (t.carriage.get path).shed.all (·.carrier ≠ w.carrier) :=
      List.mem_filter.2 ⟨hw, all_lacks.2 left⟩
    refine ⟨fun e he => ⟨code, reported (List.mem_append_right _ (List.mem_map.2 ⟨w, gone, ?_⟩))⟩,
      fun he => ⟨code, reported (List.mem_append_right _ (List.mem_map.2 ⟨w, gone, ?_⟩))⟩⟩ <;> rw [he]

end

end Sys2Proof.Machine
end

section
open Sys2Proof Sys2Proof.Machine

/-- Settles O57: the record after an event is read off `taking` and `formed`, carriage order off the entries' keys (`keyed`), and
the slots off the three passes (`giveSlots`). Every deed has the planners told that it concerns (`Deed.launched`), and whatever
the order in which they are told, each path's record comes to stand and to have its reports told (`Running`). -/
theorem slotsAreKeptOrGiven : Obligations.SlotsAreKeptOrGiven := by
  unfold Obligations.SlotsAreKeptOrGiven
  refine ⟨fun s path cause joined => ?_, fun s t h plans queue rings sound => step_carriageSound h plans queue rings sound,
    fun c s t h plans queue rings sound path => ⟨fun w hw joined => ?_, fun hc w hw left => ?_⟩, fun s path cause old => ?_,
    fun entries flag channels => ⟨carriageOrder_perm channels, carriageOrder_ordered flag entries⟩,
    fun s path k _ => ⟨slotStream_none, fun e he hk distinct up x hx => ?_⟩, fun s p k _ => ⟨slotFill_unfed, fun side fed => ?_⟩,
    fun old capacity carried channels few carriers rescues distinct counted => ?_⟩
  · rw [plannerEvent, carriageNotes_eq]
    cases cause <;> rfl
  · rcases (exec_carriage h plans queue rings sound).2 path with told | ⟨-, empty⟩
    · exact told.shed hw joined
    · rw [empty] at hw
      cases hw
  · exact ((exec_carriage h plans queue rings sound).2 path |>.resolve_right fun reset => hc reset.1).restored hw left
  · refine ⟨(formed_list s).trans (taking_list s path cause old), (formed_capacity s).trans (taking_capacity s path cause old),
      fun capacity hc => ?_, fun hc => ?_⟩ <;>
    unfold plan at hc ⊢ <;> rw [formed_capacity] at hc
    · rw [formed_some s hc]
      exact ⟨taking_units s path cause old, taking_announcing s path cause old, rfl, assignSlots_carriers _ _ _, rfl⟩
    · rw [formed_none s hc]
      exact ⟨rfl, rfl, rfl, rfl, rfl⟩
  · rw [slotStream_carrier he hk distinct up hx, streamOf]
    exact ⟨fun ch kind channel => by rw [kind, channel]; rfl, fun n kind programme => by rw [kind, programme]; rfl,
      fun kind => by rw [kind]⟩
  · have fed : (s.unitState p).side = some side := by rw [fed]; cases side <;> rfl
    exact ⟨slotFill_empty fed, fun n player => slotFill_page fed, fun x => slotFill_stream fed⟩
  · have assignable : Assignable old capacity carried := ⟨channels, few, carriers, rescues, distinct, counted⟩
    refine ⟨assignSlots_carriers _ _ _, assignable.slots_nodup, fun e he => assignable.slots_range he,
      fun e he ch rescue channel => giveSlots_kept he (keptSlot_held (heldSlot_eq_some.2 ⟨rescue, ch, channel, rfl⟩)),
      fun single => ⟨fun e he k owns => giveSlots_kept he ((keeps_iff_owns single e.1 k).2 owns),
        fun i e he unowned k counted lower => ?_⟩,
      fun e he other w k hw hc single fits free => giveSlots_kept he
        (keeps_single (heldSlot_eq_none.2 other) hw hc single fits fun held => free (mem_heldSlots.1 held))⟩
    have none : keeps old capacity carried e.1 = none :=
      Option.eq_none_iff_forall_ne_some.2 fun k kept => unowned k ((keeps_iff_owns single e.1 k).1 kept)
    obtain ⟨j, f, hf, slot, given⟩ := assignable.slots_least he none counted lower
    exact ⟨j, f, hf, slot, given.imp_right (keeps_iff_owns single f.1 k).1⟩

end
